-- ==== Sys2Proof/Word.lean ====
section
/-!
DEFINITION. Word.lean: the bit-vector names of the model. Bit vectors hold only what the manual treats as bits:
bytes on the line and in the journal device, tags, keys, ciphertexts, authority codes, syndromes and the CRCs.
Counts, amounts, times, slots and sequences are plain numbers (`Nat`), with their bounds kept by the operations.
-/
namespace Sys2Proof

/-- One byte of the serial line or of the journal device. -/
abbrev Byte := BitVec 8

/-- A tag, placed by the host in a request and returned in its reply (R167). -/
abbrev Tag := BitVec 16

/-- A 64-bit block of the token cipher: a plaintext or a ciphertext (R55). -/
abbrev Block64 := BitVec 64

/-- An 80-bit key of the token cipher: a meter key, the transport key or the grant authority key (R47, R54). -/
abbrev Key80 := BitVec 80

/-- A 128-bit area key, or an enciphered key block of the same width (R44, R47). -/
abbrev Key128 := BitVec 128

end Sys2Proof
end

