-- ==== Sys2Proof/Machine/Types.lean ====
section
/-!
DEFINITION. Machine/Types.lean: the data the spec names, one type for each thing: accounts, the meter index, tariff
banks, keys, pending sales, shifts, journal records, replies, and the inputs that events bring from outside. Plain
data throughout; what the data mean is in the operation files.
-/
namespace Sys2Proof.Machine

/-! ### Containers -/

/-- A finite map from numbers, held as a list of pairs with rising keys (`Machine/Store.lean` holds its operations
and its canonical form). -/
abbrev SMap (α : Type) := List (Nat × α)

/-- Eight like things, one for each counter terminal 0 to 7 (R102). -/
structure Eight (α : Type) where
  t0 : α
  t1 : α
  t2 : α
  t3 : α
  t4 : α
  t5 : α
  t6 : α
  t7 : α
deriving DecidableEq, Repr, Inhabited

/-! ### Accounts and the meter index (R1 to R10) -/

/-- The state of an account record (R1). -/
inductive AcctState where
  | free
  | active
  | blocked
deriving DecidableEq, Repr, Inhabited

/-- The last sale part of an account record (R3). -/
structure LastSale where
  /-- journal sequence of the SALE record -/
  seq : Nat
  time : Nat
  /-- token sequence of the sale's credit token -/
  tokenSeq : Nat
  reversed : Bool
  keyChange : Bool
  /-- reissue count, 0 to 9 -/
  reissues : Nat
deriving DecidableEq, Repr, Inhabited

/-- An account record, with every field of the table of R2. -/
structure Account where
  state : AcctState
  meter : Nat
  area : Nat
  /-- the meter key generation the meter is believed to hold -/
  keyGen : Nat
  forceKeyChange : Bool
  tariffClass : Nat
  allowanceFlag : Bool
  issueSeq : Nat
  counterMonth : Nat
  monthUnits : Nat
  allowanceIssued : Nat
  debt : Nat
  /-- recovery rate in basis points -/
  rate : Nat
  /-- carry in millicents -/
  carry : Nat
  maxPerSale : Nat
  lastSale : Option LastSale
  revokePending : Option Nat
  lastApplied : Nat
deriving DecidableEq, Repr, Inhabited

/-- The account region: the records of the slots listed, and the last applied that every slot not listed (FREE,
written so at the last initialisation) holds (R7). -/
structure AccountStore where
  eraApplied : Nat
  cells : SMap Account
deriving DecidableEq, Repr, Inhabited

/-- The kind of a meter index entry, a RETIRED one with its retired time (R8). -/
inductive EntryKind where
  | live
  | retired (time : Nat)
deriving DecidableEq, Repr, Inhabited

/-- An entry of the meter index; its meter number is its key (R8). -/
structure IndexEntry where
  slot : Nat
  kind : EntryKind
deriving DecidableEq, Repr, Inhabited

/-- The meter index: the entries by meter number, the count of entries held in the header, and the index-damaged
indication (R8). -/
structure MeterIndex where
  entries : SMap IndexEntry
  count : Nat
  damaged : Bool
deriving DecidableEq, Repr, Inhabited

/-! ### Tariff banks (R23, R24) -/

/-- A tariff block: its upper bound (0 in the last, read as no bound) and its price. -/
structure TariffBlock where
  bound : Nat
  price : Nat
deriving DecidableEq, Repr, Inhabited

/-- A class of a bank: its basic allowance and its tariff blocks in order. -/
structure TariffClass where
  allowance : Nat
  blocks : List TariffBlock
deriving DecidableEq, Repr, Inhabited

/-- A tariff bank. -/
structure TariffBank where
  id : Nat
  /-- tax rate in basis points -/
  tax : Nat
  minSale : Nat
  classes : Eight TariffClass
deriving DecidableEq, Repr, Inhabited

/-- The tariff item of the system area: the two banks (the PENDING one with its effective time), the last bank id and
the tariff last applied (R23). -/
structure TariffStore where
  active : Option TariffBank
  pending : Option (TariffBank × Nat)
  lastId : Nat
  lastApplied : Nat
deriving DecidableEq, Repr, Inhabited

/-! ### The key store (R44 to R47) -/

/-- The state of a key slot that is not EMPTY (R44); an EMPTY slot holds nothing and is not listed. -/
inductive KeyState where
  | active
  | retired
deriving DecidableEq, Repr, Inhabited

/-- A key slot that is not EMPTY. -/
structure KeySlot where
  state : KeyState
  area : Nat
  gen : Nat
  key : Key128
deriving DecidableEq, Repr, Inhabited

/-- The three factory items of the secure memory (R47). -/
structure FactoryItems where
  serial : BitVec 32
  transportKey : Key80
  grantKey : Key80
deriving DecidableEq, Repr, Inhabited

/-- The on-chip secure memory: key slots, key-store generation counter, key last applied, factory items, voucher
floor and TAMPER latch (R44, R46, R47, R97, R188). -/
structure SecureMemory where
  slots : SMap KeySlot
  counter : Nat
  keyLastApplied : Nat
  factory : FactoryItems
  voucherFloor : Nat
  tamperLatch : Bool
deriving DecidableEq, Repr, Inhabited

/-! ### Sales (R43, R60, R65) -/

/-- The mode of a quote. -/
inductive SaleMode where
  | sale
  | payment
deriving DecidableEq, Repr, Inhabited

/-- One entry of the list of tariff blocks touched by a walk: block number within the class (the first is 1), units
taken and price (R38). -/
structure TouchedBlock where
  number : Nat
  units : Nat
  price : Nat
deriving DecidableEq, Repr, Inhabited

/-- The result of the credit computation (R43), less the items the pending sale holds itself. -/
structure CreditResult where
  tax : Nat
  recovered : Nat
  purchased : Nat
  allowance : Nat
  carryBefore : Nat
  carryAfter : Nat
  monthBefore : Nat
  monthAfter : Nat
  allowanceAfter : Nat
  debtAfter : Nat
  touched : List TouchedBlock
deriving DecidableEq, Repr, Inhabited

/-- The key plan of a quote (R60), with the area and the meter key generation it was formed from, which the build at
the confirm needs and which no longer come from a read of the account (R73). -/
structure KeyPlan where
  keyChange : Bool
  newGen : Nat
  tokenCount : Nat
  tokenSeq : Nat
  revokeDelta : Nat
  area : Nat
  oldGen : Nat
deriving DecidableEq, Repr, Inhabited

/-- A built token: its ciphertext and its rendering in 24 decimal digits (R59). -/
structure Token where
  cipher : Block64
  digits : List Nat
deriving DecidableEq, Repr, Inhabited

/-- The state of a pending sale (R65). -/
inductive SaleState where
  | quoted
  | committing
deriving DecidableEq, Repr, Inhabited

/-- A pending sale (R65); `timer` is the sale timer's ticks left while QUOTED (R71), absent when it is stopped. -/
structure PendingSale where
  state : SaleState
  slot : Nat
  meter : Nat
  mode : SaleMode
  tendered : Nat
  result : CreditResult
  plan : KeyPlan
  bankId : Nat
  monthIndex : Nat
  keyCount : Nat
  setAside : Nat
  quoteTime : Nat
  expiryTime : Nat
  tokens : List Token
  journalSeq : Option Nat
  timer : Option Nat
deriving DecidableEq, Repr, Inhabited

/-! ### Terminals and shifts (R102, R115) -/

/-- The role of a terminal. -/
inductive Role where
  | clerk
  | supervisor
  | auditor
  | disabled
deriving DecidableEq, Repr, Inhabited

/-- The state of a shift. -/
inductive ShiftState where
  | closed
  | opened
  | suspended
deriving DecidableEq, Repr, Inhabited

/-- The eleven shift totals (R115). -/
structure ShiftTotals where
  sales : Nat
  tokens : Nat
  payments : Nat
  reissues : Nat
  reversals : Nat
  tendered : Nat
  tax : Nat
  recovered : Nat
  sold : Nat
  allowance : Nat
  reversed : Nat
deriving DecidableEq, Repr, Inhabited

/-- The durable part of a terminal's entry (R102). -/
structure TermEntry where
  role : Role
  shift : ShiftState
  operator : Nat
  shiftNo : Nat
  totals : ShiftTotals
  lastApplied : Nat
deriving DecidableEq, Repr, Inhabited

/-- The idle timer of a terminal, with its ticks left while running (R102, R116). -/
inductive IdleTimer where
  | stopped
  | running (left : Nat)
  | held
deriving DecidableEq, Repr, Inhabited

/-- Which request a journal lookup serves (R84). -/
inductive VendKind where
  | reissue
  | reverse
deriving DecidableEq, Repr, Inhabited

/-- A journal lookup of a REISSUE or REVERSE, with its reply indication (R84, R171). -/
structure VendLookup where
  kind : VendKind
  tag : Tag
  slot : Nat
  seq : Nat
  time : Nat
  replyDue : Bool
deriving DecidableEq, Repr, Inhabited

/-- A JOURNAL_READ operation, waiting or in hand (R139). -/
structure JournalReadWork where
  tag : Tag
  start : Nat
  count : Nat
  replyDue : Bool
deriving DecidableEq, Repr, Inhabited

/-- The journal lookup item of a terminal's entry (R102). -/
inductive Lookup where
  | vend (v : VendLookup)
  | journalRead (r : JournalReadWork)
deriving DecidableEq, Repr, Inhabited

/-- The volatile part of a terminal's entry; the shift change in flight is derived from the write queue (R102). -/
structure TermWork where
  sale : Option PendingSale
  lookup : Option Lookup
  idle : IdleTimer
deriving DecidableEq, Repr, Inhabited

/-! ### The reserve, the settings and the integrity items (R91, R144, R146, R177) -/

/-- The reserve record (R91). -/
structure ReserveRecord where
  balance : Nat
  totalGranted : Nat
  totalIssued : Nat
  lastVoucher : Nat
  lastApplied : Nat
deriving DecidableEq, Repr, Inhabited

/-- The seven settings in the units of R177. -/
structure Settings where
  /-- hold time in seconds -/
  holdTime : Nat
  /-- idle limit in minutes -/
  idleLimit : Nat
  /-- reversal window in minutes -/
  reversalWindow : Nat
  reissueLimit : Nat
  /-- scrub interval in milliseconds -/
  scrubInterval : Nat
  /-- reserve low threshold in tenth-units -/
  reserveLow : Nat
  journalNearFull : Nat
deriving DecidableEq, Repr, Inhabited

/-- A place for each of the seven settings, present or absent (R178). -/
structure SettingsChange where
  holdTime : Option Nat
  idleLimit : Option Nat
  reversalWindow : Option Nat
  reissueLimit : Option Nat
  scrubInterval : Option Nat
  reserveLow : Option Nat
  journalNearFull : Option Nat
deriving DecidableEq, Repr, Inhabited

/-- The outcome of a read of a word (R143): clean, one of its 72 bits corrected, or uncorrectable. -/
inductive WordRead where
  | clean
  | corrected (bit : Fin 72)
  | uncorrectable
deriving DecidableEq, Repr, Inhabited

/-- The kind of an error that the error log holds (R144). -/
inductive ErrKind where
  | corrected
  | uncorrectable
deriving DecidableEq, Repr, Inhabited

/-- A word of account memory whose cells have been disturbed (R143): which of its 72 bits are in error, and whether a
read has found it uncorrectable. -/
structure Disturb where
  wrong : BitVec 72
  found : Bool
deriving DecidableEq, Repr, Inhabited

/-- The last error of the error log (R144). -/
structure LastError where
  addr : Nat
  syndrome : BitVec 8
  kind : ErrKind
deriving DecidableEq, Repr, Inhabited

/-- The error log (R144). -/
structure ErrorLog where
  last : Option LastError
  corrected : Nat
  uncorrectable : Nat
deriving DecidableEq, Repr, Inhabited

/-- The damage list and its overflow flag (R146). -/
structure DamageList where
  slots : List Nat
  overflow : Bool
deriving DecidableEq, Repr, Inhabited

/-- The cause of the last fault (R135). -/
inductive FaultCause where
  | none
  | secondRefusal
  | pollLimit
  | failedReadBack
deriving DecidableEq, Repr, Inhabited

/-- The fault mark: a journal sequence and a position (R120). -/
structure FaultMark where
  seq : Nat
  pos : Nat
deriving DecidableEq, Repr, Inhabited

/-- The ring pointers (R120). -/
structure RingPointers where
  head : Nat
  tail : Nat
deriving DecidableEq, Repr, Inhabited

/-- The items of the system area, each in words of its own (R142). That the ring pointers and the fault mark, which R142
lists together, are two items is the model's choice (log 40); so is that the ACTIVE bank, the PENDING bank and their two
companions are three (log 49). -/
inductive SysItem where
  | signature
  | terminal (t : Fin 8)
  | reserve
  | ring
  | mark
  | cause
  | activeBank
  | pendingBank
  | bankIds
  | settings
  | errorLog
  | damageList
deriving DecidableEq, Repr, Inhabited

/-- The system area of account memory (R142). The signature is its init sequence when its pattern is the fixed one,
and absent when it is not (R181). -/
structure SystemArea where
  signature : Option Nat
  terms : Eight TermEntry
  reserve : ReserveRecord
  ring : RingPointers
  mark : Option FaultMark
  cause : FaultCause
  tariffs : TariffStore
  settings : Settings
  settingsApplied : Nat
  errorLog : ErrorLog
  damage : DamageList
deriving DecidableEq, Repr, Inhabited

/-- Account memory (R142): the account region, the index region, the system area, and the words now disturbed, by
address. -/
structure AccountMemory where
  accounts : AccountStore
  index : MeterIndex
  sys : SystemArea
  ecc : SMap Disturb
deriving DecidableEq, Repr, Inhabited

/-! ### Journal records (R119, R121, R191) -/

/-- The common head of a record (R119). -/
structure RecordHead where
  seq : Nat
  time : Nat
  terminal : Nat
  shiftNo : Nat
  operator : Nat
deriving DecidableEq, Repr, Inhabited

/-- The body of a SALE record (R191). -/
structure SaleBody where
  slot : Nat
  meter : Nat
  tendered : Nat
  tax : Nat
  recovered : Nat
  purchased : Nat
  allowance : Nat
  carryBefore : Nat
  carryAfter : Nat
  monthBefore : Nat
  tokenCount : Nat
  tokenSeq : Nat
  keyChange : Bool
  newGen : Nat
  revokeDelta : Nat
  touched : List TouchedBlock
  ciphers : List Block64
deriving DecidableEq, Repr, Inhabited

/-- The body of a PAYMENT record (R75). -/
structure PaymentBody where
  slot : Nat
  meter : Nat
  tendered : Nat
  tax : Nat
  recovered : Nat
deriving DecidableEq, Repr, Inhabited

/-- The body of a REVERSAL record (R88). -/
structure ReversalBody where
  slot : Nat
  meter : Nat
  backLink : Nat
  tendered : Nat
  recovered : Nat
  purchased : Nat
  allowance : Nat
  carryBefore : Nat
  tokenSeq : Nat
deriving DecidableEq, Repr, Inhabited

/-- The fields of a new account (R14). -/
structure NewAccount where
  meter : Nat
  area : Nat
  gen : Nat
  tariffClass : Nat
  allowanceFlag : Bool
  debt : Nat
  rate : Nat
  maxPerSale : Nat
deriving DecidableEq, Repr, Inhabited

/-- The fields of an edit, each present or absent (R17). -/
structure AccountEdit where
  tariffClass : Option Nat
  allowanceFlag : Option Bool
  debt : Option Nat
  rate : Option Nat
  maxPerSale : Option Nat
  state : Option AcctState
deriving DecidableEq, Repr, Inhabited

/-- The body of an ACCOUNT record, by subkind (R121, R191). -/
inductive AccountRecord where
  | create (slot : Nat) (a : NewAccount)
  | edit (slot meter : Nat) (e : AccountEdit)
  | close (slot meter : Nat)
  | replace (slot oldMeter newMeter area gen : Nat)
  | load (slot : Nat) (image : Account)
  | rekey (slot meter : Nat)
deriving DecidableEq, Repr, Inhabited

/-- The action of a KEY record (R48, R50). -/
inductive KeyAction where
  | load
  | retire
  | erase
deriving DecidableEq, Repr, Inhabited

/-- The body of a KEY record (R48, R50); a RETIRE or ERASE record carries no key block and no check value. -/
structure KeyBody where
  action : KeyAction
  area : Nat
  gen : Nat
  slot : Nat
  keyBlock : Key128
  checkValue : BitVec 32
deriving DecidableEq, Repr, Inhabited

/-- The cause of an INIT record (R191). -/
inductive InitCause where
  | memoryLoss
  | initialise
deriving DecidableEq, Repr, Inhabited

/-- The cause of a VOID record (R191). -/
inductive VoidCause where
  | retry
  | startUp
deriving DecidableEq, Repr, Inhabited

/-- The body of a SHIFT_CLOSE record (R110). -/
structure ShiftCloseBody where
  target : Fin 8
  shiftNo : Nat
  operator : Nat
  totals : ShiftTotals
deriving DecidableEq, Repr, Inhabited

/-- The body of a GRANT record (R96). -/
structure Voucher where
  number : Nat
  serial : BitVec 32
  amount : Nat
  authority : BitVec 64
deriving DecidableEq, Repr, Inhabited

/-- The body of a record, by kind (R121). `other` is a kind code outside the table of R191. -/
inductive RecordBody where
  | init (cause : InitCause)
  | void (cause : VoidCause)
  | sale (b : SaleBody)
  | payment (b : PaymentBody)
  | reissue (slot meter backLink : Nat)
  | reversal (b : ReversalBody)
  | grant (v : Voucher)
  | shiftOpen
  | shiftClose (b : ShiftCloseBody)
  | account (a : AccountRecord)
  | key (k : KeyBody)
  | tariff (bank : TariffBank) (effective : Nat)
  | clock (newReading : Nat)
  | settings (c : SettingsChange)
  | terminal (target : Fin 8) (role : Role)
  | other (kind : Byte)
deriving DecidableEq, Repr, Inhabited

/-- A journal record. -/
structure Record where
  head : RecordHead
  body : RecordBody
deriving DecidableEq, Repr, Inhabited

/-- What a position of the journal device holds (R119): a record the module wrote, whole; or 128 bytes of any other
kind. A position not listed has never been written. -/
inductive Page where
  | record (r : Record)
  | bytes (b : List Byte)
deriving DecidableEq, Repr, Inhabited

/-- The owner of a queue entry: the terminal and tag of the request that made it (R123). -/
structure Owner where
  terminal : Fin 8
  tag : Tag
deriving DecidableEq, Repr, Inhabited

/-- The figures a reply needs that the record does not carry (R123): the ciphertexts of a REISSUE with the token
sequence of the SALE record they come from, or the settings as requested. -/
inductive Figures where
  | none
  | reissue (tokenSeq : Nat) (ciphers : List Block64)
  | settings (requested : SettingsChange)
deriving DecidableEq, Repr, Inhabited

/-- An entry of the journal write queue (R123); its deferred effects are those its record carries the figures of. -/
structure QueueEntry where
  record : Record
  owner : Option Owner
  replyDue : Bool
  figures : Figures
deriving DecidableEq, Repr, Inhabited

/-! ### The two-wire memory controller (R127 to R132) -/

/-- The operations that write a record (R132). -/
inductive WriteJob where
  | entry
  | retryVoid
  | startUpVoid
  | initOutside
  | memoryLossInit
deriving DecidableEq, Repr, Inhabited

/-- Where a record write stands in the steps of R128: sending (steps 1 to 3), programming with the poll limit's ticks
left (step 5), recovering between a refused first attempt and the second (R131), or in its read-back (step 6). -/
inductive WritePhase where
  | sending
  | programming (left : Nat)
  | recovering (left : Nat)
  | readBack
deriving DecidableEq, Repr, Inhabited

/-- A record write in hand (R128). -/
structure BusWrite where
  job : WriteJob
  record : Record
  pos : Nat
  secondAttempt : Bool
  phase : WritePhase
deriving DecidableEq, Repr, Inhabited

/-- The operation that holds the two-wire memory controller (R132). -/
inductive BusOp where
  | write (w : BusWrite)
  | lookup (t : Fin 8)
  | journalRead (t : Fin 8) (lastSeq : Nat)
  | scan
deriving DecidableEq, Repr, Inhabited

/-- A JOURNAL_RETRY waiting or in hand (R137). -/
structure RetryWork where
  terminal : Fin 8
  tag : Tag
  time : Nat
  shiftNo : Nat
  operator : Nat
  replyDue : Bool
deriving DecidableEq, Repr, Inhabited

/-- An INITIALISE between its acceptance and its end (R186): whether the module was IN_SERVICE before it, whether its
INIT record is written outside the write queue, and the sequence released to make its position. -/
structure InitWork where
  terminal : Fin 8
  tag : Tag
  time : Nat
  shiftNo : Nat
  operator : Nat
  replyDue : Bool
  wasInService : Bool
  outside : Bool
  released : Option Nat
deriving DecidableEq, Repr, Inhabited

/-- The Journal Controller's copy of the ring pointers and the fault mark (R120). -/
structure RingCopy where
  head : Nat
  tail : Nat
  mark : Option FaultMark
deriving DecidableEq, Repr, Inhabited

/-- What passes on the two-wire bus (R127 to R130): a START, a repeated START, a STOP, the device address with the write
or the read indication, a byte sent, or a byte received with the controller's acknowledge given or withheld. -/
inductive BusSignal where
  | start
  | repeatedStart
  | stop
  | address (read : Bool)
  | sent (b : Byte)
  | received (ack : Bool)
deriving DecidableEq, Repr, Inhabited

/-! ### Module state (R179) -/

/-- The step start-up or INITIALISE stands at while the module is STARTING. -/
inductive BootPhase where
  /-- the signature is not valid: the device scan of R185 is in hand -/
  | memoryLoss
  /-- the INIT record of R185 is being written -/
  | memoryLossInit
  /-- the VOID of R182 is being written -/
  | startUpVoid
  /-- the record of head − 1 is being read (R183 step 1); `again` after a NO_ACK -/
  | lastRecord (again : Bool)
  /-- the position of the head is being read (R183 step 2); `again` after a NO_ACK -/
  | scan (again : Bool)
  /-- an accepted INITIALISE waits for its INIT record (R186) -/
  | initialising
deriving DecidableEq, Repr, Inhabited

/-- The module state (R179). -/
inductive ModuleMode where
  | starting (p : BootPhase)
  | inService
  | outOfService
deriving DecidableEq, Repr, Inhabited

/-! ### The clock, the line and the scrubber (R156, R158, R164, R166 to R171, R150) -/

/-- The clock state (R158). -/
inductive ClockState where
  | notSet
  | running
deriving DecidableEq, Repr, Inhabited

/-- The Calendar Clock: the reading, the clock state and the clock last applied, on battery; the tariff-effective
alarm, volatile; a TARIFF_EFFECTIVE raised and not yet taken; and the ticks given since the last second step (R156 to
R164). -/
structure Clock where
  reading : Nat
  state : ClockState
  lastApplied : Nat
  alarm : Option Nat
  tariffRaised : Bool
  ticks : Nat
deriving DecidableEq, Repr, Inhabited

/-- The two line speeds the strap selects (R166). -/
inductive LineSpeed where
  | baud38400
  | baud115200
deriving DecidableEq, Repr, Inhabited

/-- The frame in reception: its unescaped content so far, and whether the last byte was the escape byte (R168). -/
structure Reception where
  content : List Byte
  escape : Bool
deriving DecidableEq, Repr, Inhabited

/-- The Line Interface (R166 to R171): the line speed, the frame in reception, the gap timer's ticks left, the arrived
frames with their unescaped content (oldest first), PAUSE, LINK_OVERFLOW, whether the receive line is held spacing,
and the break timer's ticks left. -/
structure LineState where
  speed : LineSpeed
  reception : Option Reception
  gap : Option Nat
  arrived : List (List Byte)
  pause : Bool
  overflow : Bool
  spacing : Bool
  breakTimer : Option Nat
deriving DecidableEq, Repr, Inhabited

/-- The scrubber: its position and its interval timer's ticks left (R150). -/
structure Scrubber where
  pos : Nat
  timer : Option Nat
deriving DecidableEq, Repr, Inhabited

/-! ### Result codes and replies (R167, R174, R175, R190) -/

/-- The result codes of R190, in the order of their values 0x00 to 0x38. -/
inductive ResultCode where
  | ok
  | unknownRequest
  | badLength
  | badField
  | notPermitted
  | terminalState
  | outOfService
  | clockNotSet
  | clockBack
  | clockBusy
  | noMeter
  | retired
  | indexDamaged
  | accountBlocked
  | accountDamaged
  | accountBusy
  | meterExists
  | storeFull
  | indexFull
  | debtOutstanding
  | noTariff
  | badTariff
  | noKey
  | keyMissing
  | seqExhausted
  | badKey
  | keyExists
  | keyStoreFull
  | tamperLatched
  | tamperOpen
  | belowMinimum
  | noDebt
  | overpayment
  | amountHigh
  | nothingToIssue
  | reserveShort
  | reserveFull
  | badVoucher
  | voucherUsed
  | saleBusy
  | noSale
  | keyBusy
  | staleQuote
  | reissueLimit
  | notAvailable
  | alreadyReversed
  | reversalWindow
  | keyChangeVend
  | monthClosed
  | journalFault
  | journalFull
  | queueFull
  | badRange
  | notFaulted
  | retryBusy
  | operatorMismatch
  | tariffBusy
deriving DecidableEq, Repr, Inhabited

/-- The nine status flags carried in every reply (R175). -/
structure StatusFlags where
  reserveLow : Bool
  journalNearFull : Bool
  journalFaulted : Bool
  damagePresent : Bool
  clockNotSet : Bool
  tamperLatched : Bool
  linkOverflow : Bool
  outOfService : Bool
  indexDamaged : Bool
deriving DecidableEq, Repr, Inhabited

/-- The journal state derived from the queue and the fault mark (R123). -/
inductive JournalState where
  | ready
  | writing
  | faulted
deriving DecidableEq, Repr, Inhabited

/-- Which of three things differed when a confirm found its sale stale (R74). -/
inductive StaleCause where
  | bank
  | month
  | keyStore
deriving DecidableEq, Repr, Inhabited

/-- The day of the week of a reading (R157, R160). -/
inductive Weekday where
  | saturday
  | sunday
  | monday
  | tuesday
  | wednesday
  | thursday
  | friday
deriving DecidableEq, Repr, Inhabited

/-- The calendar form of a reading (R157). -/
structure CalendarForm where
  year : Nat
  month : Nat
  day : Nat
  hour : Nat
  minute : Nat
  second : Nat
  weekday : Weekday
deriving DecidableEq, Repr, Inhabited

/-- The body of a STATUS reply (R176). -/
structure StatusReply where
  inService : Bool
  sysFaultPresent : Bool
  serial : BitVec 32
  speed : LineSpeed
  reading : Nat
  clockState : ClockState
  journalState : JournalState
  pointers : Option RingPointers
  unreleased : Nat
  queued : Nat
  indexCount : Nat
  indexDamaged : Bool
  freeReplies : Nat
  repliesOwed : Nat
  role : Role
  shift : ShiftState
  shiftNo : Nat
  sale : Option SaleState
deriving DecidableEq, Repr, Inhabited

/-- The body of a CLOCK_READ reply (R160). -/
structure ClockReply where
  reading : Nat
  calendar : CalendarForm
  monthIndex : Nat
  state : ClockState
  saturated : Bool
  lastApplied : Nat
  recordWaiting : Bool
  alarm : Option Nat
deriving DecidableEq, Repr, Inhabited

/-- The pending sale as a SHIFT_READ reply gives it (R113). -/
structure SaleView where
  state : SaleState
  slot : Nat
  meter : Nat
  mode : SaleMode
  tokenAmount : Nat
  setAside : Nat
  expiryTime : Nat
deriving DecidableEq, Repr, Inhabited

/-- The body of a SHIFT_READ reply (R113); `idle` gives the whole seconds left when running. -/
structure ShiftReply where
  role : Role
  shift : ShiftState
  operator : Nat
  shiftNo : Nat
  lastApplied : Nat
  totals : ShiftTotals
  changeInFlight : Bool
  sale : Option SaleView
  lookupInFlight : Bool
  idle : IdleTimer
deriving DecidableEq, Repr, Inhabited

/-- The figures of a quote's reply (R69). -/
structure QuoteFigures where
  tendered : Nat
  tax : Nat
  recovered : Nat
  debtAfter : Nat
  purchased : Nat
  allowance : Nat
  tokenAmount : Nat
  tokenCount : Nat
  keyChange : Bool
  expiryTime : Nat
deriving DecidableEq, Repr, Inhabited

/-- One key slot as a KEY_LIST reply gives it (R52). -/
structure KeySlotView where
  state : KeyState
  area : Nat
  gen : Nat
  checkValue : BitVec 32
deriving DecidableEq, Repr, Inhabited

/-- The body of a KEY_LIST reply (R52): the 16 slots in order (absent when EMPTY), the counter, the key last applied,
the serial, and each area's current generation. -/
structure KeyListReply where
  slots : List (Option KeySlotView)
  counter : Nat
  lastApplied : Nat
  serial : BitVec 32
  currentGens : List (Option Nat)
deriving DecidableEq, Repr, Inhabited

/-- The items every TARIFF_READ reply gives (R31): the selected bank (absent after a refusal with NO_TARIFF), its
effective time when it is the PENDING one, the last bank id and the presence of each bank. -/
structure TariffReply where
  bank : Option TariffBank
  effective : Option Nat
  lastId : Nat
  activePresent : Bool
  pendingPresent : Bool
deriving DecidableEq, Repr, Inhabited

/-- The body of a RESERVE_READ reply (R99). -/
structure ReserveReply where
  balance : Nat
  totalGranted : Nat
  totalIssued : Nat
  lastVoucher : Nat
  voucherFloor : Nat
  lastApplied : Nat
  setAsides : Nat
  available : Nat
  holding : Nat
  prospective : Nat
  highestVoucher : Nat
  threshold : Nat
deriving DecidableEq, Repr, Inhabited

/-- The outcome of reading one position (R133). -/
inductive ReadOutcome where
  | good
  | wrongSequence
  | badCrc
  | noAck
deriving DecidableEq, Repr, Inhabited

/-- One position as a JOURNAL_READ reply gives it (R139). -/
structure PositionView where
  seq : Nat
  outcome : ReadOutcome
  bytes : List Byte
deriving DecidableEq, Repr, Inhabited

/-- The journal items every JOURNAL_READ reply gives (R139). -/
structure JournalInfo where
  state : JournalState
  pointers : Option RingPointers
  unreleased : Nat
  queued : Nat
  mark : Option FaultMark
  cause : FaultCause
  nearFull : Nat
deriving DecidableEq, Repr, Inhabited

/-- The body of an INTEGRITY_READ reply (R154); the error log and the damage list are absent when their own item is
unreadable. -/
structure IntegrityReply where
  log : Option ErrorLog
  lastErrorSlot : Option Nat
  damage : Option DamageList
  indexDamaged : Bool
  indexCount : Nat
  sysFault : Option Nat
  scrubPos : Nat
  scrubInterval : Nat
deriving DecidableEq, Repr, Inhabited

/-- One setting as the SETTINGS_SET reply gives it: the value requested, the value applied, whether it was clamped
(R178). -/
structure SettingAnswer where
  requested : Nat
  applied : Nat
  clamped : Bool
deriving DecidableEq, Repr, Inhabited

/-- The items of a reply that a rule gives only when they are there (R139, R154, R160). -/
inductive OptionalItem where
  | alarm
  | holder
  | generation
  | tariffClass
  | mark
  | lastError
  | errorSlot
  | sysFault
  | released
deriving DecidableEq, Repr, Inhabited

/-- A field of a reply whose kind of value has no width in the formats chapter (R190), with its value; `present` is how
the presence or the absence of an optional item is shown. -/
inductive OpenField where
  | present (item : OptionalItem) (given : Bool)
  | serviceState (inService : Bool)
  | lineSpeed (v : LineSpeed)
  | clockState (v : ClockState)
  | journalState (v : JournalState)
  | shiftState (v : ShiftState)
  | saleState (v : Option SaleState)
  | noPointers
  | wideCount (n : Nat)
  | calendar (v : CalendarForm)
  | staleCause (v : StaleCause)
  | idle (v : IdleTimer)
  | revokeDelta (n : Nat)
  | digits (d : List Nat)
  | keyAction (v : KeyAction)
  | keyState (v : Option KeyState)
  | keyCounter (n : Nat)
  | bankId (n : Nat)
  | tariffBlock (n : Option Nat)
  | tariffCheck (n : Nat)
  | position (n : Nat)
  | unreadableLog
  | unreadableDamage
  | listLength (n : Nat)
  | wordAddress (a : Nat)
  | syndrome (y : BitVec 8)
  | errorKind (k : ErrKind)
deriving DecidableEq, Repr, Inhabited

/-- The body of a reply, by the rule that gives it. -/
inductive ReplyBody where
  | empty
  | status (b : StatusReply)
  | clock (b : ClockReply)
  | clockSet (before after month : Nat) (monthStart tariffEffective : Bool)
  | clockBack (month : Nat)
  | shiftOpened (shiftNo : Nat)
  | shiftOpenedUnrecorded (shiftNo : Nat)
  | shiftClosed (b : ShiftCloseBody)
  | shiftResumed (shiftNo operator : Nat)
  | shift (b : ShiftReply)
  | terminalSet (target : Fin 8) (role : Role)
  | quoted (q : QuoteFigures)
  | sold (q : QuoteFigures) (seq tokenSeq revokeDelta : Nat) (tokens : List Token)
  | paid (tendered tax recovered debtAfter : Nat)
  | stale (cause : StaleCause)
  | cancelled (setAside : Nat)
  | reissued (backLink tokenSeq : Nat) (tokens : List Token)
  | reversed (backLink refund units debtAfter : Nat)
  | retiredMeter (liveMeter time : Nat)
  | created (slot : Nat)
  | account (a : Account) (busy : Bool) (holder : Option (Fin 8))
  | freeAccount
  | debt (cents : Nat)
  | loaded (slot : Nat) (wasListed : Bool) (listed : Nat)
  | rebuilt (entries damaged : Nat)
  | keyLoaded (slot : Nat)
  | keyRetired (action : KeyAction)
  | keyList (b : KeyListReply)
  | tariffLoaded (id : Nat) (asActive : Bool)
  | badTariff (tariffClass block : Option Nat) (check : Nat)
  | tariff (b : TariffReply)
  | minimum (cents : Nat)
  | overpayment (debt clearing : Nat)
  | amountHigh (suggested maxPerSale : Nat)
  | available (units : Nat)
  | granted (voucher amount balance totalGranted : Nat)
  | voucherUsed (highest : Nat)
  | prospective (units : Nat)
  | reserve (b : ReserveReply)
  | journal (i : JournalInfo) (reads : List PositionView)
  | released (tail unreleased : Nat)
  | retried (seq : Nat)
  | integrity (b : IntegrityReply)
  | settingsSet (answers : List (Option SettingAnswer))
  | settings (s : Settings) (lastApplied : Nat) (recordWaiting : Bool)
  | initialised (seq : Nat) (released : Option Nat)
deriving DecidableEq, Repr, Inhabited

/-- A reply in the transmit reply queue (R167, R172): the request's kind byte, its terminal byte and tag, the result
code, the status flags judged as it entered, and the body. -/
structure Reply where
  kind : Byte
  terminal : Byte
  tag : Tag
  result : ResultCode
  flags : StatusFlags
  body : ReplyBody
deriving DecidableEq, Repr, Inhabited

/-! ### What events bring from outside -/

/-- What a read of one position brings: the bytes the position holds, no acknowledge in the addressing, or other
bytes (a page well programmed but wrongly read, R130). -/
inductive ReadGot where
  | held
  | noAck
  | bytes (b : List Byte)
deriving DecidableEq, Repr, Inhabited

/-- What a write, or a write cut off, leaves at its position: what the position held before, the record as sent, or
other bytes (R126, R130). -/
inductive PageLeft where
  | unchanged
  | asSent
  | bytes (b : List Byte)
deriving DecidableEq, Repr, Inhabited

/-- What has become of account memory's cells since the last event that told (R143; log 13): the bits that have come to
be in error, by the address of their word; and the words, with three or more bits in error, that a read hands on with
other content: of the account region by address, each with a record whose fields of that word it now holds; of the index
region as the index now reads; of the system area by address, each with an area whose item of that word it now holds. -/
structure Disturbance where
  words : SMap (BitVec 72)
  accounts : SMap Account
  index : Option MeterIndex
  system : SMap SystemArea
deriving DecidableEq, Repr, Inhabited

/-- No cell is disturbed. -/
def Disturbance.quiet : Disturbance := { words := [], accounts := [], index := none, system := [] }

/-- What a supply reset finds: the strap, what a write in hand left on the device, whether account memory's battery
failed, and the words disturbed meanwhile (R166, R180, R181, R185). -/
structure ResetInputs where
  strap : LineSpeed
  left : PageLeft
  batteryFailed : Bool
  disturbed : Disturbance
deriving DecidableEq, Repr, Inhabited

end Sys2Proof.Machine
end

