-- ==== Sys2Proof/Syntax.lean ====
section
/-!
DEFINITION. Syntax.lean: the commands of the block, one constructor for each row of spec/opcode_table.json, in the
table's order. A request (STATUS to INITIALISE, and UNKNOWN_REQUEST) is the Request Dispatcher's taking of the oldest
arrived frame, so its fields come from that frame (R173, R174) and its constructor has no operand. The other commands
are events; their operands are what the event brings from outside: a character, a terminal whose timer ran out, an
acknowledge, the bytes of a read.
-/
namespace Sys2Proof
open Sys2Proof.Machine

/-- The commands. -/
inductive Instr where
  /-- FRAME_ARRIVAL (R168): the end byte of a frame is received. -/
  | frameArrival
  /-- FRAMING_ERROR (R166): a character is received with its stop bit in the spacing state. -/
  | framingError
  /-- GAP_TIMER_EXPIRY (R168). -/
  | gapTimerExpiry
  /-- LINK_RESET (R171): the break timer runs out. -/
  | linkReset
  /-- REPLY_SENT (R172): the end byte of the reply at the front has been sent. -/
  | replySent
  /-- UNKNOWN_REQUEST (R174): the dispatcher takes a frame of no known kind. -/
  | unknownRequest
  | status
  | clockRead
  | clockSet
  | shiftOpen
  | shiftClose
  | shiftResume
  | shiftRead
  | terminalSet
  | quote
  | confirm
  | cancel
  | reissue
  | reverse
  | accountCreate
  | accountEdit
  | accountRead
  | accountClose
  | meterReplace
  | accountLoad
  | rekey
  | indexRebuild
  | keyLoad
  | keyRetire
  | keyList
  | tariffLoad
  | tariffRead
  | grant
  | reserveRead
  | journalRead
  | journalRelease
  | journalRetry
  | integrityRead
  | integrityClear
  | settingsSet
  | settingsRead
  | tamperClear
  | initialise
  /-- SECOND_STEP (R156), with what has become of account memory's cells since the last one. -/
  | secondStep (disturbed : Disturbance)
  /-- TARIFF_EFFECTIVE (R29): the Tariff Unit takes the event the clock raised. -/
  | tariffEffective
  /-- SALE_TIMER_EXPIRY (R71) of a terminal's sale timer. -/
  | saleTimerExpiry (t : Fin 8)
  /-- IDLE_EXPIRY (R117) of a terminal's idle timer. -/
  | idleExpiry (t : Fin 8)
  /-- SCRUB_EVENT (R150). -/
  | scrubEvent
  /-- ARBITER_GRANT (R132): with the device's answer to a retry's probe, and what the positions read as that a scan
  of the whole device (R186) does not read as they are held. -/
  | arbiterGrant (probeAck : Bool) (reads : SMap ReadGot)
  /-- BUS_NAK (R131): an acknowledge is withheld in the addressing or data of a record write; with what the part of
  the page begun leaves. -/
  | busNak (left : PageLeft)
  /-- POLL_ACK (R129). -/
  | pollAck
  /-- POLL_LIMIT_EXPIRY (R129). -/
  | pollLimitExpiry
  /-- READ_BACK_END (R130), of a queue entry's record or of an INIT record written outside the queue. -/
  | readBackEnd (got : ReadGot)
  /-- RETRY_VOID_END (R137): the read-back of the retry's VOID ends. -/
  | retryVoidEnd (got : ReadGot)
  /-- JOURNAL_LOOKUP_END (R84). -/
  | journalLookupEnd (got : ReadGot)
  /-- JOURNAL_READ_END (R139), with what each position read brings, in order (`held` for one not given). -/
  | journalReadEnd (got : List ReadGot)
  /-- SUPPLY_RESET (R180): supply returns, or the RESET input is released. -/
  | supplyReset (r : ResetInputs)
  /-- START_UP_VOID_END (R182): the start-up VOID's probe is not acknowledged, or its read-back ends. -/
  | startUpVoidEnd (got : ReadGot)
  /-- ROLL_FORWARD_READ (R183): a start-up scan read ends. -/
  | rollForwardRead (got : ReadGot)
  /-- MEMORY_LOSS_INIT (R185): the device scan ends, with what the positions read as that do not read as held. -/
  | memoryLossInit (reads : SMap ReadGot)
  /-- TAMPER_SWITCH_OPENING (R188), with the inputs of the supply reset it forces. -/
  | tamperSwitchOpening (r : ResetInputs)
  /-- CHARACTER_RECEIVED (R168): a character other than an end byte. -/
  | characterReceived (b : Byte)
  /-- LINE_ENTERS_SPACING (R171). -/
  | lineEntersSpacing
  /-- LINE_RETURNS_TO_MARKING (R171). -/
  | lineReturnsToMarking
  /-- SUPPLY_LOSS (R180), with what a write in hand leaves on the device. -/
  | supplyLoss (left : PageLeft)
  /-- ENCLOSURE_SWITCH_CLOSING (R189). -/
  | enclosureSwitchClosing
  /-- WRITE_STOP (R128): the STOP of a record write, with what the device programs into the page. -/
  | writeStop (left : PageLeft)
deriving DecidableEq, Repr

end Sys2Proof
end

