-- ==== Sys2Proof/Decode.lean ====
section
/-!
DEFINITION. Decode.lean: the command a table word spells. spec/opcode_table.json gives no row any bits (its rows are
events of a block, its requests come as frames, R190), so no word spells a command; `Machine/Operands.lean` reads the
bytes of a frame.
-/
namespace Sys2Proof

/-- The command that a word of the table's bits spells: none, since no row of the table gives bits. -/
def decodeTableWord (_nbits _w : Nat) : Option Instr := none

end Sys2Proof
end

