-- ==== Sys2Proof/Config.lean ====
section
/-!
DEFINITION. Config.lean: what the manual does not define or leaves to each module, as constants without a body: the
two functions of the Token Unit, the factory items, the places inside account memory, the layouts the manual does not
table, and the free values. Nothing can be proved of them beyond their types, so a claim holds whatever they are.
-/
namespace Sys2Proof.Config
open Sys2Proof.Machine

/-! ### The Token Unit (R47, R54, R55) -/

/-- The token cipher: for each 80-bit key a permutation of 64-bit blocks (R55: "For each key it maps every 64-bit
block to a different 64-bit block"). Its inverse deciphers a key block. -/
opaque tokenCipher : Key80 → Equiv.Perm Block64

/-- The meter-key derivation of R54, applied to the meter number as an 80-bit number: under one area key two meter
numbers yield different meter keys. -/
opaque meterKey : Key128 → Equiv.Perm Key80

/-- The module serial, written at manufacture (R47). -/
opaque moduleSerial : BitVec 32

/-- The transport key, written at manufacture (R47). -/
opaque transportKey : Key80

/-- The grant authority key, written at manufacture (R47). -/
opaque grantKey : Key80

/-- FREE VALUE (log 21): the area key a build would read from a key slot that is not there; a build that the plan
passed never reads it (R62). -/
opaque missingKey : Key128

/-! ### Places inside account memory (R142) -/

/-- Which item of the system area a word of it belongs to, if any; each word belongs to one item at most (R142). -/
opaque itemOfWord : Nat → Option SysItem

/-- Whether a word of the index region is part of the index header (R142). -/
opaque isIndexHeader : Nat → Bool

/-- Whether a lookup of a meter number in these entries reads a word of the index region (R9, R142). -/
opaque lookupReads : SMap IndexEntry → Nat → Nat → Bool

/-- Whether changing the first entries into the second reads a word of the index region (R10, R147). -/
opaque changeReads : SMap IndexEntry → SMap IndexEntry → Nat → Bool

/-- Whether a search for the LIVE entry that points to a slot reads a word of the index region (R142, R152). -/
opaque slotReads : SMap IndexEntry → Nat → Nat → Bool

/-! ### The check code (R143) -/

/-- Which bit of the word each of the 255 syndromes other than 0 names: the syndrome of number `n` + 1 names bit
`syndromeOrder n`, and none when that is no bit of the 72. The manual gives that 72 syndromes each name a bit of their
own, and not which. -/
opaque syndromeOrder : Equiv.Perm (Fin 255)

/-- Which of the 183 syndromes that name no bit a word with these two bits in error forms (two bits in error are always
uncorrectable). -/
opaque doubleError : Fin 72 → Fin 72 → Fin 183

/-- The syndrome that a word with three or more bits in error forms, whichever outcome it names. -/
opaque manyErrors : BitVec 72 → BitVec 8

/-! ### Layouts the manual does not table (R190, R191) -/

/-- The body bytes (16 to 123) of a record whose kind's body R191 does not table. -/
opaque journalBody : RecordBody → List Byte

/-- The slot, the meter number and the figures of a PAYMENT record, from the 128 bytes of a page. -/
opaque paymentOf : List Byte → PaymentBody

/-- The slot and the meter number of a REISSUE record. -/
opaque reissueOf : List Byte → Nat × Nat

/-- The fields of a REVERSAL record other than its back-link. -/
opaque reversalOf : List Byte → ReversalBody

/-- The voucher of a GRANT record. -/
opaque grantOf : List Byte → Voucher

/-- The fields of a SHIFT_CLOSE record. -/
opaque shiftCloseOf : List Byte → ShiftCloseBody

/-- The slot and the fields of an ACCOUNT record of subkind CREATE. -/
opaque createOf : List Byte → Nat × NewAccount

/-- The slot, the meter number and the changes of an EDIT. -/
opaque editOf : List Byte → Nat × Nat × AccountEdit

/-- The slot and the meter number of a CLOSE or a REKEY. -/
opaque accountNameOf : List Byte → Nat × Nat

/-- The slot, the two meter numbers, the area and the generation of a REPLACE. -/
opaque replaceOf : List Byte → Nat × Nat × Nat × Nat × Nat

/-- The slot and the image of a LOAD. -/
opaque loadOf : List Byte → Nat × Account

/-- The fields of a KEY record other than its action. -/
opaque keyOf : List Byte → KeyBody

/-- The bank and the effective time of a TARIFF record. -/
opaque tariffOf : List Byte → TariffBank × Nat

/-- The new reading of a CLOCK record. -/
opaque clockOf : List Byte → Nat

/-- The settings of a SETTINGS record. -/
opaque settingsOf : List Byte → SettingsChange

/-- The target and the role of a TERMINAL record. -/
opaque terminalOf : List Byte → Fin 8 × Role

/-- The bytes of a reply's field whose kind of value has no width in R190. -/
opaque openBytes : OpenField → List Byte

/-- The bytes a position reads as that nothing has written since manufacture; they hold no record (R119). -/
opaque blankBytes : Nat → List Byte

/-! ### Free values -/

/-- FREE VALUE (log 12): what stands in an item after a decrease that would pass below zero. -/
opaque belowZero : Nat → Nat → Nat

/-- FREE VALUE (log 11): the settings used by an event that cannot refuse, when their item is unreadable. -/
opaque unreadSettings : Nat → Settings

/-- FREE VALUE (log 11): the reserve record a flag is judged from when its item is unreadable. -/
opaque unreadReserve : Nat → ReserveRecord

/-- FREE VALUE (log 11): the damage list a flag is judged from when its item is unreadable. -/
opaque unreadDamage : Nat → DamageList

/-- FREE VALUE (log 11): the terminal entry an event that cannot refuse uses when its item is unreadable. -/
opaque unreadTerm : Nat → TermEntry

/-- FREE VALUE (log 11): the cause of the last fault a JOURNAL_READ reply gives when its item is unreadable. -/
opaque unreadCause : Nat → FaultCause

/-- FREE VALUE (log 11): the debt a REVERSE reply gives when the account could not be read (R149). -/
opaque unreadDebt : Nat → Nat

/-- FREE VALUE (log 10): what account memory holds after its battery failed, before it is written afresh (R185). -/
opaque lostMemory : Nat → AccountMemory

end Sys2Proof.Config
end

