-- ==== Sys2Proof/Machine/State.lean ====
section
/-!
DEFINITION. Machine/State.lean: the state of the block, everything the spec gives it, as plain data; the reasons a step
can stop; the values the spec gives to what it initialises; and the state right after reset.
-/
namespace Sys2Proof.Machine

/-- The reasons the machine stops with a fault: none. Every command of this block has an effect, or none, in every
state; no command faults. -/
inductive Fault where
deriving DecidableEq, Repr

/-- The reasons a command is refused a meaning. -/
inductive Refusal where
  /-- Raised by `exec` alone, for a command the model gives no meaning; safe, since the machine stops. No arm raises
  it. -/
  | notModelled (mnemonic : String)
deriving DecidableEq, Repr

/-- The state of the block. -/
structure State where
  /-- the commands waiting, first in, first out (the block's queue) -/
  pending : List Instr
  /-- whether the office supply is present (R156, R180) -/
  powered : Bool
  /-- the module state (R179) -/
  mode : ModuleMode
  /-- account memory, battery-backed (R142) -/
  mem : AccountMemory
  /-- the on-chip secure memory, on its own battery (R44 to R47) -/
  secure : SecureMemory
  /-- the journal device, by position (R119) -/
  device : SMap Page
  /-- the Calendar Clock (R156) -/
  clock : Clock
  /-- the Line Interface (R166 to R171) -/
  line : LineState
  /-- the transmit reply queue, oldest first (R172) -/
  tx : List Reply
  /-- the volatile part of the terminal table (R102) -/
  terms : Eight TermWork
  /-- the sum of set-asides (R91) -/
  setAsides : Nat
  /-- the journal write queue, the entry being written among it (R123) -/
  queue : List QueueEntry
  /-- the Journal Controller's copy of the ring pointers and the fault mark (R120) -/
  copy : Option RingCopy
  /-- the operation that holds the two-wire memory controller (R132) -/
  bus : Option BusOp
  /-- the terminals whose read operation waits for the arbiter, oldest first (R132) -/
  reads : List (Fin 8)
  /-- the JOURNAL_RETRY waiting or in hand (R137) -/
  retry : Option RetryWork
  /-- the INITIALISE accepted and not ended (R186) -/
  init : Option InitWork
  /-- the scrubber (R150) -/
  scrub : Scrubber
  /-- the system fault address (R148) -/
  sysFault : Option Nat
  /-- whether the enclosure switch is open (R188, R189) -/
  enclosureOpen : Bool
  /-- MODEL's own: how many times an unreadable item's content has been used; the free values are applied to it -/
  draws : Nat
deriving DecidableEq, Repr

/-- `s` with its `pending` replaced. -/
def State.setPending (s : State) (v : List Instr) : State := { s with pending := v }

/-- `s` with its `powered` replaced. -/
def State.setPowered (s : State) (v : Bool) : State := { s with powered := v }

/-- `s` with its `mode` replaced. -/
def State.setMode (s : State) (v : ModuleMode) : State := { s with mode := v }

/-- `s` with its `mem` replaced. -/
def State.setMem (s : State) (v : AccountMemory) : State := { s with mem := v }

/-- `s` with its `secure` replaced. -/
def State.setSecure (s : State) (v : SecureMemory) : State := { s with secure := v }

/-- `s` with its `device` replaced. -/
def State.setDevice (s : State) (v : SMap Page) : State := { s with device := v }

/-- `s` with its `clock` replaced. -/
def State.setClock (s : State) (v : Clock) : State := { s with clock := v }

/-- `s` with its `line` replaced. -/
def State.setLine (s : State) (v : LineState) : State := { s with line := v }

/-- `s` with its `tx` replaced. -/
def State.setTx (s : State) (v : List Reply) : State := { s with tx := v }

/-- `s` with its `terms` replaced. -/
def State.setTerms (s : State) (v : Eight TermWork) : State := { s with terms := v }

/-- `s` with its `setAsides` replaced. -/
def State.setSetAsides (s : State) (v : Nat) : State := { s with setAsides := v }

/-- `s` with its `queue` replaced. -/
def State.setQueue (s : State) (v : List QueueEntry) : State := { s with queue := v }

/-- `s` with its `copy` replaced. -/
def State.setCopy (s : State) (v : Option RingCopy) : State := { s with copy := v }

/-- `s` with its `bus` replaced. -/
def State.setBus (s : State) (v : Option BusOp) : State := { s with bus := v }

/-- `s` with its `reads` replaced. -/
def State.setReads (s : State) (v : List (Fin 8)) : State := { s with reads := v }

/-- `s` with its `retry` replaced. -/
def State.setRetry (s : State) (v : Option RetryWork) : State := { s with retry := v }

/-- `s` with its `init` replaced. -/
def State.setInit (s : State) (v : Option InitWork) : State := { s with init := v }

/-- `s` with its `scrub` replaced. -/
def State.setScrub (s : State) (v : Scrubber) : State := { s with scrub := v }

/-- `s` with its `sysFault` replaced. -/
def State.setSysFault (s : State) (v : Option Nat) : State := { s with sysFault := v }

/-- `s` with its `enclosureOpen` replaced. -/
def State.setEnclosureOpen (s : State) (v : Bool) : State := { s with enclosureOpen := v }

/-- `s` with its `draws` replaced. -/
def State.setDraws (s : State) (v : Nat) : State := { s with draws := v }

/-- `s` with the account region of its account memory replaced. -/
def State.setAccounts (s : State) (v : AccountStore) : State := s.setMem { s.mem with accounts := v }

/-- `s` with the meter index of its account memory replaced. -/
def State.setIndex (s : State) (v : MeterIndex) : State := s.setMem { s.mem with index := v }

/-- `s` with the disturbed words of its account memory replaced. -/
def State.setEcc (s : State) (v : SMap Disturb) : State := s.setMem { s.mem with ecc := v }

/-- `s` with the system area of its account memory replaced. -/
def State.setSys (s : State) (v : SystemArea) : State := s.setMem { s.mem with sys := v }

/-- The system area's defaults for the seven settings (R177). -/
def Settings.defaults : Settings :=
  { holdTime := 180, idleLimit := 15, reversalWindow := 15, reissueLimit := 3, scrubInterval := 10,
    reserveLow := 10000, journalNearFull := 3840 }

/-- Eleven totals of zero (R108). -/
def ShiftTotals.zero : ShiftTotals :=
  { sales := 0, tokens := 0, payments := 0, reissues := 0, reversals := 0, tendered := 0, tax := 0, recovered := 0,
    sold := 0, allowance := 0, reversed := 0 }

/-- A FREE record: each field zero or its lowest value, both optional parts absent (R7, R18). -/
def Account.blank (lastApplied : Nat) : Account :=
  { state := .free, meter := 0, area := 0, keyGen := 0, forceKeyChange := false, tariffClass := 0,
    allowanceFlag := false, issueSeq := 0, counterMonth := 0, monthUnits := 0, allowanceIssued := 0, debt := 0,
    rate := 0, carry := 0, maxPerSale := 1, lastSale := none, revokePending := none, lastApplied := lastApplied }

/-- A terminal's entry after a memory loss: CLOSED, operator code, shift number and totals 0 (R118). -/
def TermEntry.initial (role : Role) (lastApplied : Nat) : TermEntry :=
  { role := role, shift := .closed, operator := 0, shiftNo := 0, totals := .zero, lastApplied := lastApplied }

/-- The terminal table after a memory loss: terminal 0 SUPERVISOR, terminals 1 to 7 DISABLED (R118). -/
def initialTerms (seq : Nat) : Eight TermEntry :=
  { t0 := .initial .supervisor seq, t1 := .initial .disabled seq, t2 := .initial .disabled seq,
    t3 := .initial .disabled seq, t4 := .initial .disabled seq, t5 := .initial .disabled seq,
    t6 := .initial .disabled seq, t7 := .initial .disabled seq }

/-- The system area written afresh with `seq` in every last applied and the init sequence (R185 step 2, R187). -/
def SystemArea.initial (seq voucherFloor head tail : Nat) : SystemArea :=
  { signature := some seq
    terms := initialTerms seq
    reserve := { balance := 0, totalGranted := 0, totalIssued := 0, lastVoucher := voucherFloor, lastApplied := seq }
    ring := { head := head, tail := tail }
    mark := none
    cause := .none
    tariffs := { active := none, pending := none, lastId := 0, lastApplied := seq }
    settings := .defaults
    settingsApplied := seq
    errorLog := { last := none, corrected := 0, uncorrectable := 0 }
    damage := { slots := [], overflow := false } }

/-- Account memory written afresh: every slot FREE with last applied `seq`, an empty meter index, the system area
above, and no word disturbed (R7, R10, R185 step 2, R187). -/
def AccountMemory.initial (seq voucherFloor head tail : Nat) : AccountMemory :=
  { accounts := { eraApplied := seq, cells := [] }
    index := { entries := [], count := 0, damaged := false }
    sys := .initial seq voucherFloor head tail
    ecc := [] }

/-- A terminal with no pending sale, no lookup and its idle timer stopped (R118). -/
def TermWork.idleNone : TermWork := { sale := none, lookup := none, idle := .stopped }

/-- Eight of one thing. -/
def Eight.all8 {α : Type} (a : α) : Eight α := { t0 := a, t1 := a, t2 := a, t3 := a, t4 := a, t5 := a, t6 := a, t7 := a }

/-- The Line Interface after a supply reset that read `speed` from the strap (R166, R171, R180). -/
def LineState.afterReset (speed : LineSpeed) : LineState :=
  { speed := speed, reception := none, gap := none, arrived := [], pause := false, overflow := false, spacing := false,
    breakTimer := none }

/-- Account memory as it leaves manufacture: no valid signature (R181). Its other content is the model's choice
(log 1); the memory-loss start writes it afresh before any request is taken. -/
def AccountMemory.manufactured : AccountMemory :=
  { AccountMemory.initial 0 0 0 0 with sys := { SystemArea.initial 0 0 0 0 with signature := none } }

/-- The secure memory as it leaves manufacture: every slot EMPTY, counter, key last applied and voucher floor 0, latch
clear (R46, R97, R188), with the factory items written (R47). -/
def SecureMemory.manufactured : SecureMemory :=
  { slots := [], counter := 0, keyLastApplied := 0,
    factory := { serial := Config.moduleSerial, transportKey := Config.transportKey, grantKey := Config.grantKey },
    voucherFloor := 0, tamperLatch := false }

/-- The machine right after reset: a module that has left manufacture and taken its first supply reset, STARTING, with
no valid signature, so that the device scan of the memory-loss initialisation is in hand (R180, R181; log 1). The count of
ticks since the last second step is 0, the model's choice (log 3). -/
def State.reset : State :=
  { pending := []
    powered := true
    mode := .starting .memoryLoss
    mem := .manufactured
    secure := .manufactured
    device := []
    clock := { reading := 0, state := .notSet, lastApplied := 0, alarm := none, tariffRaised := false, ticks := 0 }
    line := .afterReset .baud38400
    tx := []
    terms := .all8 .idleNone
    setAsides := 0
    queue := []
    copy := none
    bus := some .scan
    reads := []
    retry := none
    init := none
    scrub := { pos := 0, timer := none }
    sysFault := none
    enclosureOpen := false
    draws := 0 }

end Sys2Proof.Machine
end

