-- ==== Sys2Proof/Machine/Store.lean ====
section
/-!
DEFINITION. Machine/Store.lean: the operations of the containers: maps with rising keys, and the eight-fold terminal
table.
-/
namespace Sys2Proof.Machine

/-- What a map holds at a key. -/
def SMap.find {α : Type} (k : Nat) : SMap α → Option α
  | [] => none
  | (j, a) :: r => if j = k then some a else SMap.find k r

/-- A map with `a` at the key `k`. -/
def SMap.put {α : Type} (k : Nat) (a : α) : SMap α → SMap α
  | [] => [(k, a)]
  | (j, b) :: r => if k < j then (k, a) :: (j, b) :: r else if k = j then (k, a) :: r else (j, b) :: SMap.put k a r

/-- A map with the keys that fail `p` removed. -/
def SMap.keep {α : Type} (p : Nat → α → Bool) (m : SMap α) : SMap α := m.filter (fun x => p x.1 x.2)

/-- A map with each value changed. -/
def SMap.adjust {α : Type} (f : Nat → α → α) (m : SMap α) : SMap α := m.map (fun x => (x.1, f x.1 x.2))

/-- A map with nothing at the key `k`. -/
def SMap.erase {α : Type} (k : Nat) (m : SMap α) : SMap α := SMap.keep (fun j _ => j != k) m

/-- The canonical form of a map: its keys rise strictly. -/
def SMap.rising {α : Type} : SMap α → Bool
  | [] => true
  | [_] => true
  | (j, _) :: (k, b) :: r => decide (j < k) && SMap.rising ((k, b) :: r)

/-- A map's pairs put one by one into an empty one: its canonical form. -/
def SMap.normal {α : Type} (m : SMap α) : SMap α := m.foldl (fun acc x => SMap.put x.1 x.2 acc) []

/-- The thing of terminal `t`. -/
def Eight.get {α : Type} (e : Eight α) (t : Fin 8) : α :=
  match t with
  | 0 => e.t0
  | 1 => e.t1
  | 2 => e.t2
  | 3 => e.t3
  | 4 => e.t4
  | 5 => e.t5
  | 6 => e.t6
  | 7 => e.t7

/-- The eight with the thing of terminal `t` replaced. -/
def Eight.put {α : Type} (e : Eight α) (t : Fin 8) (a : α) : Eight α :=
  match t with
  | 0 => { e with t0 := a }
  | 1 => { e with t1 := a }
  | 2 => { e with t2 := a }
  | 3 => { e with t3 := a }
  | 4 => { e with t4 := a }
  | 5 => { e with t5 := a }
  | 6 => { e with t6 := a }
  | 7 => { e with t7 := a }

/-- The eight in order. -/
def Eight.toList {α : Type} (e : Eight α) : List α := [e.t0, e.t1, e.t2, e.t3, e.t4, e.t5, e.t6, e.t7]

/-- A function applied to each of the eight. -/
def Eight.map {α β : Type} (f : α → β) (e : Eight α) : Eight β :=
  { t0 := f e.t0, t1 := f e.t1, t2 := f e.t2, t3 := f e.t3, t4 := f e.t4, t5 := f e.t5, t6 := f e.t6, t7 := f e.t7 }

/-- The terminals, in order. -/
def allTerminals : List (Fin 8) := [0, 1, 2, 3, 4, 5, 6, 7]

/-- The record of a slot in the account region; a slot not listed is FREE since the last initialisation (R7). -/
def AccountStore.read (m : AccountStore) (slot : Nat) : Account :=
  (SMap.find slot m.cells).getD (Account.blank m.eraApplied)

/-- The account region with the record of a slot written whole (R6). Writing what an unlisted slot reads as removes
the slot from the list, so that equal regions are equal data. -/
def AccountStore.write (m : AccountStore) (slot : Nat) (a : Account) : AccountStore :=
  { m with cells := if a = Account.blank m.eraApplied then SMap.erase slot m.cells else SMap.put slot a m.cells }

/-- The canonical form of the account region: slots strictly rising, and none listed that reads as an unlisted one. -/
def AccountStore.wf (m : AccountStore) : Bool :=
  SMap.rising m.cells && m.cells.all (fun x => decide (x.2 ≠ Account.blank m.eraApplied))

/-- The account region in canonical form. -/
def AccountStore.normal (m : AccountStore) : AccountStore :=
  m.cells.foldl (fun acc x => acc.write x.1 x.2) { eraApplied := m.eraApplied, cells := [] }

/-- The canonical form of account memory: the account region, the entries and the disturbed words each in theirs. -/
def AccountMemory.wf (m : AccountMemory) : Bool :=
  m.accounts.wf && SMap.rising m.index.entries && SMap.rising m.ecc

end Sys2Proof.Machine
end

