-- ==== Sys2Proof/Machine/Bytes.lean ====
section
/-!
DEFINITION. Machine/Bytes.lean: byte order (most significant byte first everywhere, 00_scope "Byte order"), the two
CRCs (R58, R191), and small arithmetic with the bounds the rules give.
-/
namespace Sys2Proof.Machine

/-- The number that bytes give, most significant byte first. -/
def beNat (l : List Byte) : Nat := l.foldl (fun n b => n * 256 + b.toNat) 0

/-- A number in `w` bytes, most significant byte first. -/
def natBytes : Nat → Nat → List Byte
  | 0, _ => []
  | w + 1, n => BitVec.ofNat 8 (n / 256 ^ w) :: natBytes w n

/-- The field of `len` bytes at offset `off`. -/
def field (off len : Nat) (l : List Byte) : List Byte := (l.drop off).take len

/-- The number in the field of `len` bytes at offset `off`. -/
def fieldNat (off len : Nat) (l : List Byte) : Nat := beNat (field off len l)

/-- A list of bytes cut or filled with zeros to `n` bytes. -/
def padTo (n : Nat) (l : List Byte) : List Byte := (l ++ List.replicate n 0).take n

/-- One bit of the CRC-16 with generator 0x1021 (R58). -/
def crc16Bit (c : BitVec 16) : BitVec 16 := if c.msb then (c <<< 1) ^^^ 0x1021#16 else c <<< 1

/-- One byte of the CRC-16, from its most significant bit (R58). -/
def crc16Byte (c : BitVec 16) (b : Byte) : BitVec 16 :=
  Nat.repeat crc16Bit 8 (c ^^^ (b.setWidth 16 <<< 8))

/-- The CRC-16 of R58: initial value 0xFFFF, nothing reflected, the result not inverted. -/
def crc16 (l : List Byte) : BitVec 16 := l.foldl crc16Byte 0xFFFF#16

/-- One bit of the CRC-32 with generator 0x04C11DB7 (R191). -/
def crc32Bit (c : BitVec 32) : BitVec 32 := if c.msb then (c <<< 1) ^^^ 0x04C11DB7#32 else c <<< 1

/-- One byte of the CRC-32, from its most significant bit (R191). -/
def crc32Byte (c : BitVec 32) (b : Byte) : BitVec 32 :=
  Nat.repeat crc32Bit 8 (c ^^^ (b.setWidth 32 <<< 24))

/-- The CRC-32 of R191: initial value 0xFFFFFFFF, the result inverted. -/
def crc32 (l : List Byte) : BitVec 32 := ~~~(l.foldl crc32Byte 0xFFFFFFFF#32)

/-- An increase that saturates at `limit` (00_scope "Ranges"). -/
def satAdd (limit a b : Nat) : Nat := min limit (a + b)

/-- A decrease of an item of range 0 to `limit`. Below zero no rule gives a result: the item then holds a free value
of its range (log 12). -/
def dropBy (limit a b : Nat) : Nat := if b ≤ a then a - b else Config.belowZero a b % (limit + 1)

/-- The nearer bound, for a value outside a range (R178). -/
def clamp (lo hi n : Nat) : Nat := max lo (min hi n)

/-- Division rounded up. -/
def ceilDiv (a b : Nat) : Nat := (a + b - 1) / b

end Sys2Proof.Machine
end

