-- ==== Sys2Proof/Machine/Calendar.lean ====
section
/-!
DEFINITION. Machine/Calendar.lean: the conversion of a reading to a date, and the month index (R156, R157).
-/
namespace Sys2Proof.Machine

/-- The last reading, 23:59:59 on 31 December 2099 (R156). -/
abbrev lastReading : Nat := 3155759999

/-- The days from the calendar base to the first day of the year 2000 + `y` (R157). -/
def daysBefore (y : Nat) : Nat := 365 * y + (y + 3) / 4

/-- The years since 2000 of a day counted from the calendar base: cycles of four years of 1,461 days, the first of
each a leap year (R157). -/
def yearOfDay (d : Nat) : Nat :=
  4 * (d / 1461) + (if d % 1461 < 366 then 0 else 1 + (d % 1461 - 366) / 365)

/-- The days of each month of the year 2000 + `y` (R157). -/
def monthLengths (y : Nat) : List Nat := [31, if y % 4 = 0 then 29 else 28, 31, 30, 31, 30, 31, 31, 30, 31, 30, 31]

/-- The month (from 0) and the day in it (from 0) of a day counted from the start of the first month listed. -/
def findMonth : List Nat → Nat → Nat × Nat
  | [], d => (0, d)
  | [_], d => (0, d)
  | m :: r, d => if d < m then (0, d) else ((findMonth r (d - m)).1 + 1, (findMonth r (d - m)).2)

/-- The month index of a reading: (year − 2000) × 12 + (month − 1) (R157). -/
def monthOf (reading : Nat) : Nat :=
  let d := reading / 86400
  let y := yearOfDay d
  12 * y + (findMonth (monthLengths y) (d - daysBefore y)).1

/-- The first reading of a month index. -/
def firstOfMonth (m : Nat) : Nat :=
  (daysBefore (m / 12) + ((monthLengths (m / 12)).take (m % 12)).sum) * 86400

/-- The day of the week of a day counted from the calendar base, which was a Saturday (R157). -/
def weekdayOf (d : Nat) : Weekday :=
  match d % 7 with
  | 0 => .saturday
  | 1 => .sunday
  | 2 => .monday
  | 3 => .tuesday
  | 4 => .wednesday
  | 5 => .thursday
  | _ => .friday

/-- The calendar form of a reading (R157, R160). -/
def calendarOf (reading : Nat) : CalendarForm :=
  let d := reading / 86400
  let y := yearOfDay d
  let md := findMonth (monthLengths y) (d - daysBefore y)
  { year := 2000 + y, month := md.1 + 1, day := md.2 + 1, hour := reading % 86400 / 3600,
    minute := reading % 3600 / 60, second := reading % 60, weekday := weekdayOf d }

/-- The time that has passed since a recorded time; 0 when the recorded time is the later (R165). -/
def sinceTime (reading recorded : Nat) : Nat := reading - recorded

end Sys2Proof.Machine
end

