-- ==== Sys2Proof/Machine/Ops.lean ====
section
/-!
DEFINITION. Machine/Ops.lean: the named operations over account memory and the module's tables that every command
shares: reads through the check code (R142 to R148), items of the system area, account records, the damage list, the
busy and claimed conditions (R11, R12), the idle timers (R116), and the journal's derived figures (R120, R123).
-/
namespace Sys2Proof.Machine

/-! ### Words and regions (R142) -/

/-- The word lies in the index region. -/
def inIndex (a : Nat) : Bool := decide (131072 ≤ a) && decide (a < 184320)

/-- The word lies in the system area. -/
def inSystem (a : Nat) : Bool := decide (184320 ≤ a) && decide (a < 262144)

/-- The word holds part of an item of the system area. -/
def itemWord (i : SysItem) (a : Nat) : Bool := inSystem a && Config.itemOfWord a == some i

/-- The word holds part of the index header. -/
def headerWord (a : Nat) : Bool := inIndex a && Config.isIndexHeader a

/-- The word is one of the eight of a slot's record. -/
def slotWord (slot a : Nat) : Bool := decide (a < 131072) && a / 8 == slot

/-! ### The check code (R143) -/

/-- The bits of a word that are in error, lowest first. -/
def wrongBits (m : BitVec 72) : List (Fin 72) := (List.finRange 72).filter (fun b => m.getLsbD b.val)

/-- The syndrome that names a bit of the word, or, past 71, one of the 183 that name none. -/
def bitSyndrome (b : Fin 255) : BitVec 8 := BitVec.ofNat 8 ((Config.syndromeOrder.symm b).val + 1)

/-- The syndrome that a read of a disturbed word forms: that of its one bit in error, one that names no bit for two, and
whichever the code's equations give for three or more (R143; log 13). -/
def Disturb.syndrome (d : Disturb) : BitVec 8 :=
  match wrongBits d.wrong with
  | [] => 0
  | [b] => bitSyndrome ⟨b.val, by omega⟩
  | [b, c] => bitSyndrome ⟨72 + (Config.doubleError b c).val, by omega⟩
  | _ => Config.manyErrors d.wrong

/-- The bit of the word's 72 that a syndrome names, if it names one. -/
def syndromeBit (y : BitVec 8) : Option (Fin 72) :=
  if h : y.toNat - 1 < 255 then
    if b : (Config.syndromeOrder ⟨y.toNat - 1, h⟩).val < 72 then some ⟨_, b⟩ else none
  else none

/-- The outcome of a read, from its syndrome (the table of R143). -/
def wordOutcome (y : BitVec 8) : WordRead :=
  if y = 0 then .clean
  else match syndromeBit y with
    | some b => .corrected b
    | none => .uncorrectable

/-- The next read of a disturbed word yields no data (R143). -/
def Disturb.bad (d : Disturb) : Bool := wordOutcome d.syndrome == .uncorrectable

/-- The kind of the error that a read of a disturbed word logs (R144). -/
def Disturb.kind (d : Disturb) : ErrKind := if d.bad then .uncorrectable else .corrected

/-- The next read of a disturbed word corrects one bit of it (R143). -/
def Disturb.single (d : Disturb) : Bool := !d.bad && d.syndrome != 0

/-- Three or more bits of a word are in error, and its next read hands data on (R143). -/
def Disturb.misread (d : Disturb) : Bool := !d.bad && decide (3 ≤ (wrongBits d.wrong).length)

/-- Some word that satisfies `p` is uncorrectable. -/
def hasBad (p : Nat → Bool) (s : State) : Bool := s.mem.ecc.any (fun x => p x.1 && x.2.bad)

/-- The lowest uncorrectable word that satisfies `p`. -/
def firstBad (p : Nat → Bool) (s : State) : Option Nat := (s.mem.ecc.find? (fun x => p x.1 && x.2.bad)).map (·.1)

/-- A word is written: its disturbance, if any, is gone, since a write forms fresh check bits (R142, R143). -/
def freshWords (p : Nat → Bool) (s : State) : State := s.setEcc (SMap.keep (fun a _ => !p a) s.mem.ecc)

/-- The uncorrectable words that satisfy `p` have been found so by a read; they stay uncorrectable until some write
replaces them (R143). -/
def foundWords (p : Nat → Bool) (s : State) : State :=
  s.setEcc (SMap.adjust (fun a d => if p a && d.bad then { d with found := true } else d) s.mem.ecc)

/-- The single errors in words that satisfy `p` are corrected and written back (R143). -/
def mendWords (p : Nat → Bool) (s : State) : State :=
  s.setEcc (SMap.keep (fun a d => !(p a && d.single)) s.mem.ecc)

/-! ### Cells disturbed (R143; log 13) -/

/-- The disturbed words with more bits of one in error. Bits in error gather until a write renews the word; a word that a
read has found uncorrectable stays so (R143; log 13). -/
def disturbWord (m : SMap Disturb) (x : Nat × BitVec 72) : SMap Disturb :=
  let old := (SMap.find x.1 m).getD { wrong := 0, found := false }
  let new := { old with wrong := old.wrong ||| x.2 }
  if new.wrong = 0#72 ∨ (old.found = true ∧ new.bad = false) then m else SMap.put x.1 new m

/-- The last sale part of a record, all zero where it is absent. -/
def Account.lastPart (a : Account) : LastSale :=
  a.lastSale.getD { seq := 0, time := 0, tokenSeq := 0, reversed := false, keyChange := false, reissues := 0 }

/-- A record with the fields of one of its eight words taken from another record (R191's allocation of the fields to the
words). -/
def Account.withWord (w : Nat) (new old : Account) : Account :=
  match w with
  | 0 => { old with
      state := new.state, area := new.area, keyGen := new.keyGen, tariffClass := new.tariffClass
      forceKeyChange := new.forceKeyChange, allowanceFlag := new.allowanceFlag, meter := new.meter
      lastSale := new.lastSale.map (fun l => { old.lastPart with
        reversed := l.reversed, keyChange := l.keyChange, reissues := l.reissues })
      revokePending := new.revokePending.map (fun _ => old.revokePending.getD 0) }
  | 1 => { old with issueSeq := new.issueSeq, counterMonth := new.counterMonth, monthUnits := new.monthUnits }
  | 2 => { old with allowanceIssued := new.allowanceIssued, rate := new.rate, debt := new.debt }
  | 3 => { old with carry := new.carry, maxPerSale := new.maxPerSale }
  | 4 => { old with lastSale := old.lastSale.map (fun l => { l with seq := new.lastPart.seq, time := new.lastPart.time }) }
  | 5 => { old with lastSale := old.lastSale.map (fun l => { l with tokenSeq := new.lastPart.tokenSeq })
                    revokePending := old.revokePending.map (fun _ => new.revokePending.getD 0) }
  | 6 => { old with lastApplied := new.lastApplied }
  | _ => old

/-- A word of which three or more bits are in error and whose next read hands on data (R143). -/
def misreads (ecc : SMap Disturb) (a : Nat) : Bool := (SMap.find a ecc).any Disturb.misread

/-- The account region with a word, in error in three bits or more, that a read hands on with other content. -/
def misreadAccount (m : AccountStore) (x : Nat × Account) : AccountStore :=
  m.write (x.1 / 8) (Account.withWord (x.1 % 8) x.2 (m.read (x.1 / 8)))

/-- The damage list cut to its law: no slot twice, at most 32 (R146; log 13). -/
def DamageList.cut (d : DamageList) : DamageList := { d with slots := d.slots.dedup.take 32 }

/-- A system area with one item taken from another area. -/
def SystemArea.withItem (i : SysItem) (new old : SystemArea) : SystemArea :=
  match i with
  | .signature => { old with signature := new.signature }
  | .terminal t => { old with terms := old.terms.put t (new.terms.get t) }
  | .reserve => { old with reserve := new.reserve }
  | .ring => { old with ring := new.ring }
  | .mark => { old with mark := new.mark }
  | .cause => { old with cause := new.cause }
  | .activeBank => { old with tariffs := { old.tariffs with active := new.tariffs.active } }
  | .pendingBank => { old with tariffs := { old.tariffs with pending := new.tariffs.pending } }
  | .bankIds => { old with
      tariffs := { old.tariffs with lastId := new.tariffs.lastId, lastApplied := new.tariffs.lastApplied } }
  | .settings => { old with settings := new.settings, settingsApplied := new.settingsApplied }
  | .errorLog => { old with errorLog := new.errorLog }
  | .damageList => { old with damage := new.damage.cut }

/-- The system area with a word, in error in three bits or more, that a read hands on with other content: the item the
word belongs to, if any, reads as another area's. -/
def misreadSystem (m : SystemArea) (x : Nat × SystemArea) : SystemArea :=
  match Config.itemOfWord x.1 with
  | some i => SystemArea.withItem i x.2 m
  | none => m

/-- The meter index as it reads once a word of it hands on other content. -/
def misreadIndex (m : MeterIndex) (new : Option MeterIndex) : MeterIndex :=
  match new with
  | some n => { n with entries := n.entries.normal }
  | none => m

/-- Cells of account memory are disturbed; other content is handed on for no word but one of which three or more bits
are in error (R143; log 13). -/
def disturb (d : Disturbance) (s : State) : State :=
  let ecc := d.words.foldl disturbWord s.mem.ecc
  s.setMem
    { accounts := (d.accounts.filter (fun x => misreads ecc x.1)).foldl misreadAccount s.mem.accounts
      index := misreadIndex s.mem.index (d.index.filter (fun _ => ecc.any (fun x => inIndex x.1 && x.2.misread)))
      sys := (d.system.filter (fun x => misreads ecc x.1)).foldl misreadSystem s.mem.sys
      ecc := ecc }

/-! ### Errors and damage (R144 to R148) -/

/-- An uncorrectable word of the system area puts the module OUT_OF_SERVICE and becomes the system fault address when
none is held (R148). A module STARTING by INITIALISE stays STARTING until that ends, the model's choice (log 31). -/
def sysBad (a : Nat) (s : State) : State :=
  (s.setSysFault (s.sysFault.or (some a))).setMode (if s.mode = .inService then .outOfService else s.mode)

/-- The error log after a read that met an error (R144). -/
def ErrorLog.add (a : Nat) (d : Disturb) (l : ErrorLog) : ErrorLog :=
  { last := some { addr := a, syndrome := d.syndrome, kind := d.kind }
    corrected := if d.kind = .corrected then satAdd 65535 l.corrected 1 else l.corrected
    uncorrectable := if d.kind = .uncorrectable then satAdd 65535 l.uncorrectable 1 else l.uncorrectable }

/-- The log written with one error, in the same event as its read (R144). The write reads the log's own item: an
uncorrectable word there leaves it unmade and is not counted (R148), while the single errors of its other words are
corrected and written back; without one, single errors there are corrected and logged first. -/
def logError (a : Nat) (d : Disturb) (s : State) : State :=
  match firstBad (itemWord .errorLog) s with
  | some b => sysBad b (foundWords (itemWord .errorLog) (mendWords (itemWord .errorLog) s))
  | none =>
    let own := s.mem.ecc.filter (fun x => itemWord .errorLog x.1 && x.2.single)
    let log := own.foldl (fun l x => l.add x.1 x.2) s.mem.sys.errorLog
    let s1 := freshWords (itemWord .errorLog) s
    s1.setSys { s1.mem.sys with errorLog := log.add a d }

/-- A disturbed word is still so: it has not been repaired meanwhile. -/
def stillWrong (x : Nat × Disturb) (s : State) : Bool := (SMap.find x.1 s.mem.ecc).any (fun d => d.wrong == x.2.wrong)

/-- A disturbed word of the system area is read (R143, R148); a word repaired meanwhile is read clean. An uncorrectable
word becomes the system fault address before the write of the log can find another. -/
def readSysWord (s : State) (x : Nat × Disturb) : State :=
  if stillWrong x s then
    match wordOutcome x.2.syndrome with
    | .clean => s
    | .corrected _ => logError x.1 x.2 (freshWords (· == x.1) s)
    | .uncorrectable => logError x.1 x.2 (sysBad x.1 (foundWords (· == x.1) s))
  else s

/-- The words of an item are not all readable. -/
def itemBad (i : SysItem) (s : State) : Bool := hasBad (itemWord i) s

/-- The words of an item of the system area are read, in order of address (R143). -/
def touchItem (i : SysItem) (s : State) : State :=
  let s1 := (s.mem.ecc.filter (fun x => itemWord i x.1)).foldl readSysWord s
  if itemBad i s then s1.setDraws (s1.draws + 1) else s1

/-- Items of the system area are written, their words whole and with fresh check bits (R142). -/
def storeItems (is : List SysItem) (f : SystemArea → SystemArea) (s : State) : State :=
  let s1 := freshWords (fun a => is.any (fun i => itemWord i a)) s
  s1.setSys (f s1.mem.sys)

/-- Items of the system area are written in one write: their words are read first, and an uncorrectable one leaves the
write unmade (R148). -/
def writeItems (is : List SysItem) (f : SystemArea → SystemArea) (s : State) : State :=
  let s1 := is.foldl (fun u i => touchItem i u) s
  if is.any (fun i => itemBad i s) then s1 else storeItems is f s1

/-- An item of the system area is written (R148). -/
def writeItem (i : SysItem) (f : SystemArea → SystemArea) (s : State) : State := writeItems [i] f s

/-- A slot enters the damage list (R145, R146): unchanged when listed, added at the end of a list of fewer than 32,
the overflow flag set when the list is full. -/
def DamageList.enter (slot : Nat) (l : DamageList) : DamageList :=
  if slot ∈ l.slots then l
  else if l.slots.length < 32 then { l with slots := l.slots ++ [slot] }
  else { l with overflow := true }

/-- The damage list is written with a slot entered (R145). -/
def enterDamage (slot : Nat) (s : State) : State :=
  writeItem .damageList (fun a => { a with damage := a.damage.enter slot }) s

/-- An uncorrectable word of the index region sets the index-damaged indication. Setting it writes the header whole;
when the header itself is uncorrectable, it is written anew with a count of 0 (R147). That the header is not read before
that write, so that an error in it is not logged, is the model's choice (log 26). -/
def markIndexDamaged (a : Nat) (s : State) : State :=
  let lost := headerWord a || hasBad headerWord s
  let s1 := freshWords headerWord s
  s1.setIndex { s1.mem.index with damaged := true, count := if lost then 0 else s1.mem.index.count }

/-- A disturbed word is read (R143): a single error is corrected, written back and logged; an uncorrectable word is
logged and taken by the step of its region (R145, R147, R148). -/
def readWord (s : State) (x : Nat × Disturb) : State :=
  if inSystem x.1 then readSysWord s x
  else if stillWrong x s then
    match wordOutcome x.2.syndrome with
    | .clean => s
    | .corrected _ => logError x.1 x.2 (freshWords (· == x.1) s)
    | .uncorrectable =>
      let s1 := logError x.1 x.2 (foundWords (· == x.1) s)
      if inIndex x.1 then markIndexDamaged x.1 s1 else enterDamage (x.1 / 8) s1
  else s

/-- The words that satisfy `p` are read through the check code, in order of address (R143). A word that is not
disturbed is clean, and its read changes nothing. -/
def readWords (p : Nat → Bool) (s : State) : State :=
  (s.mem.ecc.filter (fun x => p x.1)).foldl readWord s

/-! ### What a reader finds in an item it cannot refuse to use (log 11) -/

/-- The settings. -/
def settingsView (s : State) : Settings :=
  if itemBad .settings s then Config.unreadSettings s.draws else s.mem.sys.settings

/-- The reserve record. -/
def reserveView (s : State) : ReserveRecord :=
  if itemBad .reserve s then Config.unreadReserve s.draws else s.mem.sys.reserve

/-- The damage list. -/
def damageView (s : State) : DamageList :=
  if itemBad .damageList s then Config.unreadDamage s.draws else s.mem.sys.damage

/-- The durable part of a terminal's entry. -/
def termView (t : Fin 8) (s : State) : TermEntry :=
  if itemBad (.terminal t) s then Config.unreadTerm s.draws else s.mem.sys.terms.get t

/-- A terminal's entry is written, as a whole entry (R102). -/
def writeTerm (t : Fin 8) (f : TermEntry → TermEntry) (s : State) : State :=
  writeItem (.terminal t) (fun a => { a with terms := a.terms.put t (f (a.terms.get t)) }) s

/-! ### Account records (R1, R4 to R6) -/

/-- The record of a slot, as its words read; none when one of them is uncorrectable. -/
def slotRecord (slot : Nat) (s : State) : Option Account :=
  if hasBad (slotWord slot) s then none else some (s.mem.accounts.read slot)

/-- The eight words of a slot are read (R143, R145). -/
def readSlot (slot : Nat) (s : State) : State := readWords (slotWord slot) s

/-- The record of a slot is written whole (R6). -/
def writeSlot (slot : Nat) (a : Account) (s : State) : State :=
  let s1 := freshWords (slotWord slot) s
  s1.setAccounts (s1.mem.accounts.write slot a)

/-- An account as read in a month: counters of another month read as zero (R4). -/
def Account.asOf (month : Nat) (a : Account) : Account :=
  if a.counterMonth = month then a else { a with monthUnits := 0, allowanceIssued := 0 }

/-- An account's month counters brought to the month of a journal record, never backward (R5). -/
def Account.bringTo (month : Nat) (a : Account) : Account :=
  if a.counterMonth < month then { a with counterMonth := month, monthUnits := 0, allowanceIssued := 0 } else a

/-- The current month index (R157). -/
def State.month (s : State) : Nat := monthOf s.clock.reading

/-! ### Terminals -/

/-- The volatile part of a terminal's entry. -/
def State.term (s : State) (t : Fin 8) : TermWork := s.terms.get t

/-- The volatile part of a terminal's entry, replaced. -/
def State.setTerm (s : State) (t : Fin 8) (w : TermWork) : State := s.setTerms (s.terms.put t w)

/-- A terminal's pending sale, replaced. -/
def setSale (t : Fin 8) (v : Option PendingSale) (s : State) : State := s.setTerm t { s.term t with sale := v }

/-- A terminal's journal lookup, replaced. -/
def setLookup (t : Fin 8) (v : Option Lookup) (s : State) : State := s.setTerm t { s.term t with lookup := v }

/-- A terminal's idle timer, replaced. -/
def setIdle (t : Fin 8) (v : IdleTimer) (s : State) : State := s.setTerm t { s.term t with idle := v }

/-! ### The write queue's records: busy slots and claims (R11, R12) -/

/-- The slot a record names (R11). -/
def RecordBody.slot? : RecordBody → Option Nat
  | .sale b => some b.slot
  | .payment b => some b.slot
  | .reissue slot _ _ => some slot
  | .reversal b => some b.slot
  | .account a =>
    match a with
    | .create slot _ => some slot
    | .edit slot _ _ => some slot
    | .close slot _ => some slot
    | .replace slot _ _ _ _ => some slot
    | .load slot _ => some slot
    | .rekey slot _ => some slot
  | _ => none

/-- The meter number a record claims (R12, R152). -/
def RecordBody.claims? : RecordBody → Option Nat
  | .account a =>
    match a with
    | .create _ n => some n.meter
    | .replace _ _ m _ _ => some m
    | .load _ image => if image.state = .free then none else some image.meter
    | _ => none
  | _ => none

/-- A slot named by an entry of the write queue. -/
def queueNames (slot : Nat) (s : State) : Bool := s.queue.any (fun e => e.record.body.slot? == some slot)

/-- A pending sale of a terminal names the slot. -/
def saleNames (slot : Nat) (w : TermWork) : Bool := w.sale.any (fun p => p.slot == slot)

/-- A slot is busy (R11). -/
def busy (slot : Nat) (s : State) : Bool := s.terms.toList.any (saleNames slot) || queueNames slot s

/-- A slot is busy for a quote of terminal `t`: its own QUOTED sale does not count (R68 check 7). -/
def busyForQuote (t : Fin 8) (slot : Nat) (s : State) : Bool :=
  allTerminals.any (fun u => saleNames slot (s.term u) &&
    !(u == t && (s.term u).sale.any (fun p => p.state == .quoted))) || queueNames slot s

/-- The terminal whose pending sale holds the slot (R16). -/
def saleHolder (slot : Nat) (s : State) : Option (Fin 8) := allTerminals.find? (fun t => saleNames slot (s.term t))

/-- A meter number is claimed (R12). -/
def claimed (meter : Nat) (s : State) : Bool := s.queue.any (fun e => e.record.body.claims? == some meter)

/-- The count of claimed numbers (R12). -/
def claimedCount (s : State) : Nat := (s.queue.filter (fun e => e.record.body.claims?.isSome)).length

/-- A slot taken by a queued CREATE record (R12). That a FREE slot a queued LOAD names is not claimed by it, though busy
(R11), is the model's choice (log 48). -/
def claimedSlot (slot : Nat) (s : State) : Bool :=
  s.queue.any (fun e => match e.record.body with
    | .account (.create sl _) => sl == slot
    | _ => false)

/-- The terminal whose shift or role a record changes (R102). -/
def Record.changesShiftOf (r : Record) : Option Nat :=
  match r.body with
  | .shiftOpen => some r.head.terminal
  | .shiftClose b => some b.target.val
  | .terminal target _ => some target.val
  | _ => none

/-- A terminal's shift change in flight (R102). -/
def shiftChange (t : Fin 8) (s : State) : Bool := s.queue.any (fun e => e.record.changesShiftOf == some t.val)

/-! ### The journal's derived figures (R120, R123, R125) -/

/-- The unreleased count of the Journal Controller's copy (R120). That it is 0 while the copy holds no pointers is the
model's choice (log 42). -/
def unreleased (s : State) : Nat :=
  match s.copy with
  | some c => c.head - c.tail
  | none => 0

/-- The fault mark is present in the copy: the journal is FAULTED. -/
def faulted (s : State) : Bool := s.copy.any (fun c => c.mark.isSome)

/-- An entry of the write queue is being written. -/
def writingEntry (s : State) : Bool :=
  match s.bus with
  | some (.write w) => w.job == .entry
  | _ => false

/-- The journal state (R123). While the copy holds no pointers and no mark (R120) no mark is present: the model's choice
(log 42). -/
def journalState (s : State) : JournalState :=
  if faulted s then .faulted else if writingEntry s then .writing else .ready

/-- The available reserve: the balance less the set-asides that count against it (R93). A balance below them, which the
law of R93 rules out and a misread word alone can bring about, leaves a free value (log 12). -/
def availableReserve (r : ReserveRecord) (held : Nat) : Nat := dropBy 2000000000 r.balance held

/-- What a queued record will add to the balance (R95). -/
def RecordBody.credit : RecordBody → Nat
  | .grant v => v.amount
  | .reversal b => b.purchased + b.allowance
  | _ => 0

/-- The prospective balance: the balance plus the amounts of every GRANT and REVERSAL record queued (R95). -/
def prospectiveBalance (r : ReserveRecord) (s : State) : Nat :=
  r.balance + (s.queue.map (fun e => e.record.body.credit)).sum

/-- The highest voucher number (R96): the greatest of the last voucher number and those queued. -/
def highestVoucher (r : ReserveRecord) (s : State) : Nat :=
  s.queue.foldl (fun n e => match e.record.body with
    | .grant v => max n v.number
    | _ => n) r.lastVoucher

/-! ### Work that owes a reply (R173) -/

/-- A lookup that owes a reply. -/
def Lookup.owes : Lookup → Bool
  | .vend v => v.replyDue
  | .journalRead r => r.replyDue

/-- The replies owed (R173). -/
def repliesOwed (s : State) : Nat :=
  (s.queue.filter (fun e => e.replyDue)).length
    + (s.terms.toList.filter (fun w => w.lookup.any Lookup.owes)).length
    + (if s.retry.any (fun r => r.replyDue) then 1 else 0)
    + (if s.init.any (fun i => i.outside && i.replyDue) then 1 else 0)

/-- The free entries of the transmit reply queue (R172). -/
def freeReplies (s : State) : Nat := 16 - s.tx.length

/-! ### Idle timers (R116) -/

/-- Whether something holds the terminal's idle timer: a COMMITTING sale, a shift change in flight, or a JOURNAL_RETRY
from the terminal waiting or in hand (R116). -/
def idleHeld (t : Fin 8) (s : State) : Bool :=
  (s.term t).sale.any (fun p => p.state == .committing) || shiftChange t s || s.retry.any (fun r => r.terminal == t)

/-- The idle limit in ticks (R116). -/
def idleTicks (s : State) : Nat := (settingsView s).idleLimit * 60000

/-- The module is STARTING (R179). -/
def starting (s : State) : Bool :=
  match s.mode with
  | .starting _ => true
  | _ => false

/-- The idle timer takes its condition afresh, by a read of the terminal's entry (R102): restarted from the full idle
limit where the shift is OPEN, held where something holds it, stopped where the shift is not OPEN; no idle timer runs
while STARTING (R116, R179). -/
def restartIdle (t : Fin 8) (s : State) : State :=
  let s1 := touchItem (.terminal t) s
  if (termView t s1).shift = .opened then
    if idleHeld t s1 then setIdle t .held s1
    else if starting s1 then setIdle t .stopped s1
    else
      let s2 := touchItem .settings s1
      setIdle t (.running (idleTicks s2)) s2
  else setIdle t .stopped s1

/-- A hold of the terminal's idle timer begins; a timer that is not running stays as it stands (R116). -/
def holdIdle (t : Fin 8) (s : State) : State :=
  match (s.term t).idle with
  | .running _ => setIdle t .held s
  | _ => s

/-! ### Release of a quoted sale (R66) -/

/-- The sum of set-asides less one set-aside (R91). -/
def dropSetAside (n : Nat) (s : State) : State := s.setSetAsides (dropBy 2000000000 s.setAsides n)

/-- A terminal's pending sale is released: its timer goes with it, its set-aside leaves the sum (R66). -/
def releaseSale (t : Fin 8) (s : State) : State :=
  match (s.term t).sale with
  | some p => setSale t none (dropSetAside p.setAside s)
  | none => s

end Sys2Proof.Machine
end

