-- ==== Sys2Proof/Machine/Flags.lean ====
section
/-!
DEFINITION. Machine/Flags.lean: the status flags of R175, judged at the event at which a reply enters the transmit reply
queue, and the entry of a reply.
-/
namespace Sys2Proof.Machine

/-- The reads the judging of the flags makes: the reserve record, the settings, the damage list and the index header,
each through the check code (R91, R143). -/
def touchForFlags (s : State) : State :=
  readWords headerWord (touchItem .damageList (touchItem .settings (touchItem .reserve s)))

/-- The status flags as their owners' state gives them (R175). OUT_OF_SERVICE goes by the module's state, so it is clear
in a reply formed while STARTING by INITIALISE even once an uncorrectable word of the system area has been met (R148
beside R175, R179): the model's choice (log 31). -/
def statusFlags (s : State) : StatusFlags :=
  { reserveLow := decide (availableReserve (reserveView s) s.setAsides < (settingsView s).reserveLow)
    journalNearFull := decide ((settingsView s).journalNearFull ≤ unreleased s)
    journalFaulted := faulted s
    damagePresent := !(damageView s).slots.isEmpty || (damageView s).overflow
    clockNotSet := s.clock.state == .notSet
    tamperLatched := s.secure.tamperLatch
    linkOverflow := s.line.overflow
    outOfService := s.mode == .outOfService
    indexDamaged := s.mem.index.damaged }

/-- The 2-byte field of the status flags: bits 0 to 8 in the order of the table of R175 (R190). -/
def StatusFlags.toNat (f : StatusFlags) : Nat :=
  f.reserveLow.toNat + 2 * f.journalNearFull.toNat + 4 * f.journalFaulted.toNat + 8 * f.damagePresent.toNat
    + 16 * f.clockNotSet.toNat + 32 * f.tamperLatched.toNat + 64 * f.linkOverflow.toNat
    + 128 * f.outOfService.toNat + 256 * f.indexDamaged.toNat

/-- LINK_OVERFLOW, replaced. -/
def setOverflow (v : Bool) (s : State) : State := s.setLine { s.line with overflow := v }

/-- A reply enters the transmit reply queue: the flags are judged at this event, and LINK_OVERFLOW is cleared in the
event that carries it (R169, R172, R175). -/
def pushReply (kind terminal : Byte) (tag : Tag) (result : ResultCode) (body : ReplyBody) (s : State) : State :=
  let s1 := touchForFlags s
  let r : Reply := { kind := kind ||| 0x80, terminal := terminal, tag := tag, result := result,
                     flags := statusFlags s1, body := body }
  setOverflow false (s1.setTx (s1.tx ++ [r]))

/-- A terminal's number as a byte of the line. -/
def terminalByte (t : Fin 8) : Byte := BitVec.ofNat 8 t.val

/-- The reply a work item owes, when its reply indication is set; otherwise it is discarded (R126, R172). -/
def replyIf (due : Bool) (kind : Byte) (t : Fin 8) (tag : Tag) (result : ResultCode) (body : ReplyBody)
    (s : State) : State :=
  if due then pushReply kind (terminalByte t) tag result body s else s

end Sys2Proof.Machine
end

