-- ==== Sys2Proof/Machine/Line.lean ====
section
/-!
DEFINITION. Machine/Line.lean: the Line Interface: the receive buffer, PAUSE and overflow (R168 to R170), framing and
escapes (R167), break and link reset (R171), and the sending of replies (R172). The meanings of the line's commands
stand at the end.
-/
namespace Sys2Proof.Machine

/-! ### The receive buffer (R169, R170) -/

/-- The used space of the receive buffer: the content of every arrived frame and of the frame in reception (R169). -/
def LineState.used (l : LineState) : Nat :=
  (l.arrived.map List.length).sum + (match l.reception with
    | some r => r.content.length
    | none => 0)

/-- The free space of the receive buffer (R169). -/
def LineState.free (l : LineState) : Nat := 2048 - l.used

/-- PAUSE is judged against the buffer as it stands (R170). -/
def LineState.judgePause (l : LineState) : LineState :=
  { l with pause := if 3 ≤ l.arrived.length ∨ l.free < 512 then true
                    else if l.arrived.length ≤ 1 ∧ 1024 ≤ l.free then false
                    else l.pause }

/-- The frame in reception is discarded: its bytes are freed and its gap timer stopped (R168). -/
def LineState.dropReception (l : LineState) : LineState := { l with reception := none, gap := none }

/-- The overflow of R169: the frame is discarded and LINK_OVERFLOW set. -/
def LineState.overflowed (l : LineState) : LineState := { l.dropReception with overflow := true }

/-- A start byte: it discards a frame in reception and begins a new one, or, with four arrived frames waiting,
overflows (R168, R169). -/
def LineState.startByte (l : LineState) : LineState :=
  if 4 ≤ l.arrived.length then l.overflowed
  else { l with reception := some { content := [], escape := false }, gap := some 50 }

/-- A content byte, unescaped, of the frame in reception: it overflows the buffer, passes 486 bytes of content, or is
taken (R168, R169). -/
def LineState.contentByte (b : Byte) (r : Reception) (l : LineState) : LineState :=
  if 2048 < l.used + 1 then l.overflowed
  else if 486 < r.content.length + 1 then l.dropReception
  else { l with reception := some { content := r.content ++ [b], escape := false }, gap := some 50 }

/-- A character other than an end byte is received (R168). -/
def LineState.takeByte (b : Byte) (l : LineState) : LineState :=
  if b = 0x02 then l.startByte.judgePause
  else match l.reception with
    | none => l
    | some r =>
      if r.escape then (l.contentByte (b ^^^ 0x20) r).judgePause
      else if b = 0x10 then { l with reception := some { r with escape := true }, gap := some 50 }.judgePause
      else (l.contentByte b r).judgePause

/-- A frame's content is the CRC of its other bytes, in its last two (R167). -/
def crcMatches (f : List Byte) : Bool :=
  natBytes 2 (crc16 (f.take (f.length - 2))).toNat == f.drop (f.length - 2)

/-- The three judgements of a completed frame (R168). -/
def frameGood (r : Reception) : Bool := decide (6 ≤ r.content.length) && crcMatches r.content && !r.escape

/-- The end byte of a frame is received (R168). -/
def LineState.takeEnd (l : LineState) : LineState :=
  match l.reception with
  | none => l
  | some r =>
    if frameGood r then ({ l.dropReception with arrived := l.arrived ++ [r.content] }).judgePause
    else l.dropReception.judgePause

/-! ### Sending (R167) -/

/-- One content byte as it is sent (R167). -/
def escapeByte (b : Byte) : List Byte := if b = 0x02 ∨ b = 0x03 ∨ b = 0x10 then [0x10, b ^^^ 0x20] else [b]

/-- Content as it is sent, between the start byte and the end byte (R167). -/
def escaped (content : List Byte) : List Byte := content.flatMap escapeByte

/-- A frame's content with its CRC (R167). -/
def withCrc (l : List Byte) : List Byte := l ++ natBytes 2 (crc16 l).toNat

/-- A frame on the line (R167). -/
def frameBytes (content : List Byte) : List Byte := 0x02#8 :: escaped content ++ [0x03#8]

/-! ### Link reset (R171) -/

/-- A lookup whose reply indication is cleared (R171). -/
def Lookup.silence : Lookup → Lookup
  | .vend v => .vend { v with replyDue := false }
  | .journalRead r => .journalRead { r with replyDue := false }

/-- The reply indication of every work item owing a reply is cleared (R171 step 4). -/
def silenceWork (s : State) : State :=
  let s1 := s.setQueue (s.queue.map (fun e => { e with replyDue := false }))
  let s2 := s1.setTerms (s1.terms.map (fun w => { w with lookup := w.lookup.map Lookup.silence }))
  let s3 := s2.setRetry (s2.retry.map (fun r => { r with replyDue := false }))
  s3.setInit (s3.init.map (fun i => { i with replyDue := false }))

/-- The Line Interface at a link reset (R171 steps 1 to 3); the break timer is not started again before the line has
returned to marking. -/
def LineState.linkReset (l : LineState) : LineState :=
  { l with reception := none, gap := none, arrived := [], pause := false, overflow := false, breakTimer := none }

/-! ### The meanings of the line's commands -/

/-- FRAME_ARRIVAL (R168). No character is taken while the line is held in spacing (R171). -/
def execFrameArrival (s : State) : Host.Outcome State Fault Refusal :=
  .next (if s.powered && !s.line.spacing then s.setLine s.line.takeEnd else s)

/-- FRAMING_ERROR (R166, R168). -/
def execFramingError (s : State) : Host.Outcome State Fault Refusal :=
  .next (if s.powered && s.line.reception.isSome then s.setLine s.line.dropReception.judgePause else s)

/-- GAP_TIMER_EXPIRY (R168): the gap timer has run out. -/
def execGapTimerExpiry (s : State) : Host.Outcome State Fault Refusal :=
  .next (if s.powered && s.line.gap == some 0 then s.setLine s.line.dropReception.judgePause else s)

/-- LINK_RESET (R171): the break timer has run out. -/
def execLinkReset (s : State) : Host.Outcome State Fault Refusal :=
  .next (if s.powered && s.line.breakTimer == some 0 then
    silenceWork ((s.setTx []).setLine s.line.linkReset) else s)

/-- REPLY_SENT (R172): the entry at the front of the transmit reply queue is freed. -/
def execReplySent (s : State) : Host.Outcome State Fault Refusal :=
  .next (if s.powered then s.setTx s.tx.tail else s)

/-- CHARACTER_RECEIVED (R168). An end byte is not this command's character. -/
def execCharacterReceived (b : Byte) (s : State) : Host.Outcome State Fault Refusal :=
  .next (if s.powered && !s.line.spacing && b != 0x03 then s.setLine (s.line.takeByte b) else s)

/-- LINE_ENTERS_SPACING (R171): the break timer is started. -/
def execLineEntersSpacing (s : State) : Host.Outcome State Fault Refusal :=
  .next (if s.powered && !s.line.spacing then s.setLine { s.line with spacing := true, breakTimer := some 100 } else s)

/-- LINE_RETURNS_TO_MARKING (R171): the break timer is stopped. -/
def execLineReturnsToMarking (s : State) : Host.Outcome State Fault Refusal :=
  .next (if s.powered then s.setLine { s.line with spacing := false, breakTimer := none } else s)

end Sys2Proof.Machine
end

