-- ==== Sys2Proof/Machine/Operands.lean ====
section
/-!
DEFINITION. Machine/Operands.lean: the forms of a request: the header of a frame, the kinds and body lengths of R190,
the fields of each body in their order and widths, and the field checks of R174 check 6.
-/
namespace Sys2Proof.Machine

/-! ### Kinds (R190) -/

/-- The request kinds. -/
inductive Kind where
  | status | clockRead | clockSet | shiftOpen | shiftClose | shiftResume | shiftRead | terminalSet
  | quote | confirm | cancel | reissue | reverse
  | accountCreate | accountEdit | accountRead | accountClose | meterReplace | accountLoad | rekey | indexRebuild
  | keyLoad | keyRetire | keyList | tariffLoad | tariffRead | grant | reserveRead
  | journalRead | journalRelease | journalRetry | integrityRead | integrityClear
  | settingsSet | settingsRead | tamperClear | initialise
deriving DecidableEq, Repr, Inhabited

/-- The value of a kind (R190). -/
def Kind.code : Kind → Nat
  | .status => 0x01
  | .clockRead => 0x02
  | .clockSet => 0x03
  | .shiftOpen => 0x04
  | .shiftClose => 0x05
  | .shiftResume => 0x06
  | .shiftRead => 0x07
  | .terminalSet => 0x08
  | .quote => 0x09
  | .confirm => 0x0A
  | .cancel => 0x0B
  | .reissue => 0x0C
  | .reverse => 0x0D
  | .accountCreate => 0x10
  | .accountEdit => 0x11
  | .accountRead => 0x12
  | .accountClose => 0x13
  | .meterReplace => 0x14
  | .accountLoad => 0x15
  | .rekey => 0x16
  | .indexRebuild => 0x17
  | .keyLoad => 0x18
  | .keyRetire => 0x19
  | .keyList => 0x1A
  | .tariffLoad => 0x1B
  | .tariffRead => 0x1C
  | .grant => 0x1D
  | .reserveRead => 0x1E
  | .journalRead => 0x1F
  | .journalRelease => 0x20
  | .journalRetry => 0x21
  | .integrityRead => 0x22
  | .integrityClear => 0x23
  | .settingsSet => 0x24
  | .settingsRead => 0x25
  | .tamperClear => 0x26
  | .initialise => 0x27

/-- The kind's byte. -/
def Kind.byte (k : Kind) : Byte := BitVec.ofNat 8 k.code

/-- A byte is a request kind known to the module (R174 check 1): 0x01 to 0x27 less 0x0E and 0x0F (R190). -/
def knownKind (b : Byte) : Bool :=
  decide (1 ≤ b.toNat) && decide (b.toNat ≤ 0x27) && b != 0x0E && b != 0x0F

/-- The body length fixed for a kind (R190). -/
def Kind.bodyLength : Kind → Nat
  | .clockSet => 4
  | .shiftOpen => 2
  | .shiftClose => 1
  | .shiftResume => 2
  | .shiftRead => 1
  | .terminalSet => 2
  | .quote => 10
  | .reissue => 5
  | .reverse => 5
  | .accountCreate => 19
  | .accountEdit => 19
  | .accountRead => 6
  | .accountClose => 5
  | .meterReplace => 12
  | .accountLoad => 55
  | .rekey => 5
  | .keyLoad => 22
  | .keyRetire => 2
  | .tariffLoad => 306
  | .tariffRead => 1
  | .grant => 20
  | .journalRead => 5
  | .journalRelease => 4
  | .settingsSet => 29
  | .status | .clockRead | .confirm | .cancel | .indexRebuild | .keyList | .reserveRead | .journalRetry
  | .integrityRead | .integrityClear | .settingsRead | .tamperClear | .initialise => 0

/-! ### The frame's header (R167, R190) -/

/-- The kind byte of a frame's content. -/
def frameKind (f : List Byte) : Byte := f.getD 0 0

/-- The terminal byte of a frame's content. -/
def frameTerminal (f : List Byte) : Byte := f.getD 1 0

/-- The tag of a frame's content. -/
def frameTag (f : List Byte) : Tag := BitVec.ofNat 16 (fieldNat 2 2 f)

/-- The body of a frame's content: what stands between the tag and the CRC. -/
def frameBody (f : List Byte) : List Byte := (f.drop 4).take (f.length - 6)

/-- A terminal number 0 to 7, from a byte. -/
def terminalOf (b : Byte) : Option (Fin 8) := if h : b.toNat < 8 then some ⟨b.toNat, h⟩ else none

/-- The byte at an offset of a body. -/
def byteAt (i : Nat) (l : List Byte) : Nat := (l.getD i 0).toNat

/-- A yes/no byte (R190). -/
def yesNoOk (i : Nat) (l : List Byte) : Bool := decide (byteAt i l ≤ 1)

/-- A yes/no byte's value. -/
def yesNoAt (i : Nat) (l : List Byte) : Bool := byteAt i l == 1

/-- A bit of a presence mask or a flags byte. -/
def bitAt (byte bit : Nat) : Bool := byte.testBit bit

/-- A value where its presence bit is set. -/
def ifBit {α : Type} (mask bit : Nat) (v : α) : Option α := if bitAt mask bit then some v else none

/-- A meter number of 11 decimal digits (00_scope "Identifiers"). -/
def meterOk (n : Nat) : Bool := decide (n ≤ 99999999999)

/-! ### The bodies -/

/-- The role a byte names (R190). -/
def roleOf : Nat → Option Role
  | 0 => some .clerk
  | 1 => some .supervisor
  | 2 => some .auditor
  | 3 => some .disabled
  | _ => none

/-- The account state a byte names (R190). -/
def acctStateOf : Nat → Option AcctState
  | 0 => some .free
  | 1 => some .active
  | 2 => some .blocked
  | _ => none

/-- The mode a byte names (R190). -/
def modeOf : Nat → Option SaleMode
  | 0 => some .sale
  | 1 => some .payment
  | _ => none

/-- The fields of a QUOTE (R68). -/
structure QuoteReq where
  meter : Nat
  mode : SaleMode
  tendered : Nat
deriving DecidableEq, Repr, Inhabited

/-- QUOTE: meter number, mode, tendered amount of 1 to 5,000,000 cents (R33, R68). -/
def parseQuote (b : List Byte) : Option QuoteReq :=
  let meter := fieldNat 0 5 b
  let tendered := fieldNat 6 4 b
  match modeOf (byteAt 5 b) with
  | some mode =>
    if meterOk meter && decide (1 ≤ tendered) && decide (tendered ≤ 5000000) then
      some { meter := meter, mode := mode, tendered := tendered }
    else none
  | none => none

/-- A body that is a meter number alone: REISSUE, REVERSE, ACCOUNT_CLOSE, REKEY. -/
def parseMeter (b : List Byte) : Option Nat := if meterOk (fieldNat 0 5 b) then some (fieldNat 0 5 b) else none

/-- CLOCK_SET: a new reading of at most 3,155,759,999 (R161). -/
def parseReading (b : List Byte) : Option Nat :=
  if fieldNat 0 4 b ≤ lastReading then some (fieldNat 0 4 b) else none

/-- SHIFT_OPEN, SHIFT_RESUME: an operator code of 0 to 9,999 (R107, R112). -/
def parseOperator (b : List Byte) : Option Nat := if fieldNat 0 2 b ≤ 9999 then some (fieldNat 0 2 b) else none

/-- SHIFT_CLOSE, SHIFT_READ: a target terminal (R105). -/
def parseTarget (b : List Byte) : Option (Fin 8) := terminalOf (b.getD 0 0)

/-- TERMINAL_SET: a target terminal and a role (R114). -/
def parseTerminalSet (b : List Byte) : Option (Fin 8 × Role) :=
  match terminalOf (b.getD 0 0), roleOf (byteAt 1 b) with
  | some t, some r => some (t, r)
  | _, _ => none

/-- ACCOUNT_CREATE: the fields of a new account in their ranges (R2, R14). -/
def parseCreate (b : List Byte) : Option NewAccount :=
  let a : NewAccount :=
    { meter := fieldNat 0 5 b, area := byteAt 5 b, gen := byteAt 6 b, tariffClass := byteAt 7 b,
      allowanceFlag := yesNoAt 8 b, debt := fieldNat 9 4 b, rate := fieldNat 13 2 b, maxPerSale := fieldNat 15 4 b }
  if meterOk a.meter && decide (a.area ≤ 63) && decide (a.gen ≤ 15) && decide (a.tariffClass ≤ 7) && yesNoOk 8 b
      && decide (a.debt ≤ 99999999) && decide (a.rate ≤ 5000) && decide (1 ≤ a.maxPerSale)
      && decide (a.maxPerSale ≤ 999999) then some a else none

/-- A present field lies in its range; an absent one is not judged (log 17). -/
def presentOk (o : Option Nat) (lo hi : Nat) : Bool := o.all (fun n => decide (lo ≤ n) && decide (n ≤ hi))

/-- ACCOUNT_EDIT: a meter number and the fields present in their ranges; at least one is present, a state is ACTIVE or
BLOCKED, the mask's upper bits are zero, and the yes/no byte is 0 or 1 whether its field is present or not (R2, R17,
R190). -/
def parseEdit (b : List Byte) : Option (Nat × AccountEdit) :=
  let mask := byteAt 5 b
  let state := ifBit mask 5 (acctStateOf (byteAt 18 b))
  let e : AccountEdit :=
    { tariffClass := ifBit mask 0 (byteAt 6 b)
      allowanceFlag := ifBit mask 1 (yesNoAt 7 b)
      debt := ifBit mask 2 (fieldNat 8 4 b)
      rate := ifBit mask 3 (fieldNat 12 2 b)
      maxPerSale := ifBit mask 4 (fieldNat 14 4 b)
      state := state.bind id }
  if meterOk (fieldNat 0 5 b) && decide (mask ≠ 0) && decide (mask ≤ 63) && presentOk e.tariffClass 0 7
      && yesNoOk 7 b && presentOk e.debt 0 99999999 && presentOk e.rate 0 5000
      && presentOk e.maxPerSale 1 999999
      && (!bitAt mask 5 || e.state == some .active || e.state == some .blocked) then
    some (fieldNat 0 5 b, e)
  else none

/-- How an ACCOUNT_READ names its account (R16). -/
inductive AccountName where
  | meter (n : Nat)
  | slot (n : Nat)
deriving DecidableEq, Repr, Inhabited

/-- ACCOUNT_READ: a selector and five identifier bytes; a slot occupies the last two of them, the others zero (R190). -/
def parseAccountRead (b : List Byte) : Option AccountName :=
  match byteAt 0 b with
  | 0 => if meterOk (fieldNat 1 5 b) then some (.meter (fieldNat 1 5 b)) else none
  | 1 => if fieldNat 1 5 b ≤ 16383 then some (.slot (fieldNat 1 5 b)) else none
  | _ => none

/-- The fields of a METER_REPLACE (R19). -/
structure ReplaceReq where
  meter : Nat
  newMeter : Nat
  area : Nat
  gen : Nat
deriving DecidableEq, Repr, Inhabited

/-- METER_REPLACE: the present and the new meter number, the new area and generation (R19). -/
def parseReplace (b : List Byte) : Option ReplaceReq :=
  let r : ReplaceReq :=
    { meter := fieldNat 0 5 b, newMeter := fieldNat 5 5 b, area := byteAt 10 b, gen := byteAt 11 b }
  if meterOk r.meter && meterOk r.newMeter && decide (r.area ≤ 63) && decide (r.gen ≤ 15) then some r else none

/-- The 53-byte account image (R190) as a record; parts absent by their flags are absent in the record. -/
def imageAccount (i : List Byte) : Account :=
  let flags := byteAt 4 i
  { state := (acctStateOf (byteAt 0 i)).getD .free
    meter := fieldNat 6 5 i
    area := byteAt 1 i
    keyGen := byteAt 2 i
    forceKeyChange := bitAt flags 0
    tariffClass := byteAt 3 i
    allowanceFlag := bitAt flags 1
    issueSeq := fieldNat 11 2 i
    counterMonth := fieldNat 13 2 i
    monthUnits := fieldNat 15 4 i
    allowanceIssued := fieldNat 19 4 i
    debt := fieldNat 23 4 i
    rate := fieldNat 27 2 i
    carry := fieldNat 29 4 i
    maxPerSale := fieldNat 33 4 i
    lastSale := ifBit flags 2
      { seq := fieldNat 37 4 i, time := fieldNat 41 4 i, tokenSeq := fieldNat 45 2 i, reversed := bitAt flags 3,
        keyChange := bitAt flags 4, reissues := byteAt 5 i }
    revokePending := ifBit flags 5 (fieldNat 47 2 i)
    lastApplied := fieldNat 49 4 i }

/-- The image's fields lie in the ranges of R2 and its unnamed flag bits are zero (R174 check 6, R190). -/
def imageOk (i : List Byte) : Bool :=
  let a := imageAccount i
  (acctStateOf (byteAt 0 i)).isSome && meterOk a.meter && decide (a.area ≤ 63) && decide (a.keyGen ≤ 15)
    && decide (a.tariffClass ≤ 7) && decide (byteAt 4 i ≤ 63) && decide (byteAt 5 i ≤ 9)
    && decide (a.counterMonth ≤ 1199) && decide (a.monthUnits ≤ 16777215) && decide (a.allowanceIssued ≤ 100000)
    && decide (a.debt ≤ 99999999) && decide (a.rate ≤ 5000) && decide (a.carry ≤ 999999)
    && decide (1 ≤ a.maxPerSale) && decide (a.maxPerSale ≤ 999999)

/-- The fields of an absent part are zero, and last applied is zero, as R152 check 3 asks of an image. -/
def imageAbsentZero (i : List Byte) : Bool :=
  let flags := byteAt 4 i
  fieldNat 49 4 i == 0
    && (bitAt flags 2 || (fieldNat 37 10 i == 0 && !bitAt flags 3 && !bitAt flags 4 && byteAt 5 i == 0))
    && (bitAt flags 5 || fieldNat 47 2 i == 0)

/-- ACCOUNT_LOAD: a slot and an image (R152); `zeros` says whether the image passes the zero checks of R152 check 3. -/
structure LoadReq where
  slot : Nat
  image : Account
  zeros : Bool
deriving DecidableEq, Repr, Inhabited

/-- ACCOUNT_LOAD: the slot and the 53-byte image (R190). -/
def parseLoad (b : List Byte) : Option LoadReq :=
  let i := field 2 53 b
  if decide (fieldNat 0 2 b ≤ 16383) && imageOk i then
    some { slot := fieldNat 0 2 b, image := imageAccount i, zeros := imageAbsentZero i }
  else none

/-- The fields of a KEY_LOAD (R48). -/
structure KeyLoadReq where
  area : Nat
  gen : Nat
  keyBlock : Key128
  checkValue : BitVec 32
deriving DecidableEq, Repr, Inhabited

/-- KEY_LOAD: area, generation, key block, key check value (R48). -/
def parseKeyLoad (b : List Byte) : Option KeyLoadReq :=
  if byteAt 0 b ≤ 63 ∧ byteAt 1 b ≤ 15 then
    some { area := byteAt 0 b, gen := byteAt 1 b, keyBlock := BitVec.ofNat 128 (fieldNat 2 16 b),
           checkValue := BitVec.ofNat 32 (fieldNat 18 4 b) }
  else none

/-- KEY_RETIRE: area and generation (R50). -/
def parseKeyRetire (b : List Byte) : Option (Nat × Nat) :=
  if byteAt 0 b ≤ 63 ∧ byteAt 1 b ≤ 15 then some (byteAt 0 b, byteAt 1 b) else none

/-- A class as TARIFF_LOAD carries it: its basic allowance, its count, and its four pairs (R190). -/
structure RawClass where
  allowance : Nat
  count : Nat
  pairs : List TariffBlock
deriving DecidableEq, Repr, Inhabited

/-- The fields of a TARIFF_LOAD (R26), as carried. -/
structure TariffLoadReq where
  tax : Nat
  minSale : Nat
  effective : Nat
  classes : Eight RawClass
deriving DecidableEq, Repr, Inhabited

/-- Pair `i` of bound and price of a class of 37 bytes. -/
def parsePair (i : Nat) (c : List Byte) : TariffBlock :=
  { bound := fieldNat (5 + 8 * i) 4 c, price := fieldNat (9 + 8 * i) 4 c }

/-- Class `k` of a TARIFF_LOAD body: 37 bytes from offset 10 + 37 k (R190). -/
def parseClass (k : Nat) (b : List Byte) : RawClass :=
  let c := field (10 + 37 * k) 37 b
  { allowance := fieldNat 0 4 c, count := byteAt 4 c, pairs := [parsePair 0 c, parsePair 1 c, parsePair 2 c, parsePair 3 c] }

/-- TARIFF_LOAD: the dispatcher does not look inside the bank (R27, R174 check 6). -/
def parseTariffLoad (b : List Byte) : Option TariffLoadReq :=
  some { tax := fieldNat 0 2 b, minSale := fieldNat 2 4 b, effective := fieldNat 6 4 b,
         classes := { t0 := parseClass 0 b, t1 := parseClass 1 b, t2 := parseClass 2 b, t3 := parseClass 3 b,
                      t4 := parseClass 4 b, t5 := parseClass 5 b, t6 := parseClass 6 b, t7 := parseClass 7 b } }

/-- TARIFF_READ: the bank selector, ACTIVE 0 (false) or PENDING 1 (true) (R31, R190). -/
def parseSelector (b : List Byte) : Option Bool :=
  match byteAt 0 b with
  | 0 => some false
  | 1 => some true
  | _ => none

/-- GRANT: a voucher with an amount of 1 to 100,000,000 (R96). -/
def parseGrant (b : List Byte) : Option Voucher :=
  if 1 ≤ fieldNat 8 4 b ∧ fieldNat 8 4 b ≤ 100000000 then
    some { number := fieldNat 0 4 b, serial := BitVec.ofNat 32 (fieldNat 4 4 b), amount := fieldNat 8 4 b,
           authority := BitVec.ofNat 64 (fieldNat 12 8 b) }
  else none

/-- JOURNAL_READ: a start sequence and a count, which is left to its own rule (R139, R174 check 6). -/
def parseJournalRead (b : List Byte) : Option (Nat × Nat) := some (fieldNat 0 4 b, byteAt 4 b)

/-- JOURNAL_RELEASE: a sequence (R140). -/
def parseRelease (b : List Byte) : Option Nat := some (fieldNat 0 4 b)

/-- SETTINGS_SET: a presence mask, its upper bit zero, and seven values, which are clamped and not judged (R178,
R190). -/
def parseSettings (b : List Byte) : Option SettingsChange :=
  let mask := byteAt 0 b
  if mask ≤ 127 then
    some { holdTime := ifBit mask 0 (fieldNat 1 4 b)
           idleLimit := ifBit mask 1 (fieldNat 5 4 b)
           reversalWindow := ifBit mask 2 (fieldNat 9 4 b)
           reissueLimit := ifBit mask 3 (fieldNat 13 4 b)
           scrubInterval := ifBit mask 4 (fieldNat 17 4 b)
           reserveLow := ifBit mask 5 (fieldNat 21 4 b)
           journalNearFull := ifBit mask 6 (fieldNat 25 4 b) }
  else none

/-- A body of no bytes. -/
def parseNothing (_ : List Byte) : Option Unit := some ()

end Sys2Proof.Machine
end

