-- ==== Sys2Proof/Machine/Tokens.lean ====
section
/-!
DEFINITION. Machine/Tokens.lean: the Token Unit: the key store's derived figures (R45), check values and key blocks
(R47), meter keys (R54), token plaintexts and rendering (R56 to R59, R191), the key plan (R60, R61), the build of the
tokens (R62) and the authority check of a voucher (R64).
-/
namespace Sys2Proof.Machine

/-! ### The key store (R44, R45) -/

/-- The slot number that holds an area code and a generation, ACTIVE or RETIRED (R44). -/
def keySlotOf (area gen : Nat) (slots : SMap KeySlot) : Option (Nat × KeySlot) :=
  slots.find? (fun x => x.2.area == area && x.2.gen == gen)

/-- The current generation of an area: the highest generation held by an ACTIVE slot of it (R45). -/
def currentGen (area : Nat) (slots : SMap KeySlot) : Option Nat :=
  slots.foldl (fun g x => if x.2.state = .active ∧ x.2.area = area then some (max (g.getD 0) x.2.gen) else g) none

/-- The area key of an area and generation (R54, R62). -/
def areaKey (area gen : Nat) (slots : SMap KeySlot) : Key128 :=
  match keySlotOf area gen slots with
  | some x => x.2.key
  | none => Config.missingKey

/-- The lowest EMPTY slot that satisfies `p` (R48 check 7). -/
def emptySlot (p : Nat → Bool) (slots : SMap KeySlot) : Option Nat :=
  (List.range 16).find? (fun n => (SMap.find n slots).isNone && p n)

/-! ### Ciphers (R47, R54, R55) -/

/-- Enciphering of one block. -/
def encipher (k : Key80) (b : Block64) : Block64 := Config.tokenCipher k b

/-- Deciphering of one block. -/
def decipher (k : Key80) (b : Block64) : Block64 := (Config.tokenCipher k).symm b

/-- The area key in a key block: its two 64-bit halves deciphered under the transport key (R47). -/
def openKeyBlock (transport : Key80) (block : Key128) : Key128 :=
  decipher transport (block.extractLsb' 64 64) ++ decipher transport (block.extractLsb' 0 64)

/-- The key check value of an area key: 64 zero bits enciphered under its first 80 bits; the first 32 bits (R47). -/
def checkValueOf (key : Key128) : BitVec 32 := (encipher (key.extractLsb' 48 80) 0#64).extractLsb' 32 32

/-- The meter key derived from an area key and a meter number (R54). -/
def meterKeyOf (key : Key128) (meter : Nat) : Key80 := Config.meterKey key (BitVec.ofNat 80 meter)

/-! ### Plaintexts (R56 to R58, R191) -/

/-- Six bytes of 48 bits, most significant first (R191). -/
def sixBytes (v : BitVec 48) : List Byte := natBytes 6 v.toNat

/-- A plaintext: 48 bits with their check field below (R58, R191). -/
def withCheck (v : BitVec 48) : Block64 := v ++ crc16 (sixBytes v)

/-- A credit plaintext: class 0, sequence, amount, revoke delta, check (R56, R191). -/
def creditPlain (seq amount delta : Nat) : Block64 :=
  withCheck (0#3 ++ BitVec.ofNat 16 seq ++ BitVec.ofNat 24 amount ++ BitVec.ofNat 5 delta)

/-- A KEY_FIRST plaintext: class 1, half 0, new generation, the first 40 bits of the new meter key (R57, R191). -/
def keyFirstPlain (gen : Nat) (newKey : Key80) : Block64 :=
  withCheck (1#3 ++ 0#1 ++ BitVec.ofNat 4 gen ++ newKey.extractLsb' 40 40)

/-- A KEY_SECOND plaintext: class 2, half 1, new generation, the last 40 bits of the new meter key (R57, R191). -/
def keySecondPlain (gen : Nat) (newKey : Key80) : Block64 :=
  withCheck (2#3 ++ 1#1 ++ BitVec.ofNat 4 gen ++ newKey.extractLsb' 0 40)

/-! ### Rendering (R59) -/

/-- A number in `n` decimal digits with leading zeros. -/
def decimals : Nat → Nat → List Nat
  | 0, _ => []
  | n + 1, v => v / 10 ^ n % 10 :: decimals n v

/-- The 8 bytes of a ciphertext, most significant first. -/
def cipherBytes (c : Block64) : List Byte := natBytes 8 c.toNat

/-- The 24 digits of a ciphertext: 20 of its value and 4 of the check group (R59). -/
def render (c : Block64) : List Nat := decimals 20 c.toNat ++ decimals 4 ((crc16 (cipherBytes c)).toNat % 10000)

/-- A ciphertext with its rendering. -/
def tokenOf (c : Block64) : Token := { cipher := c, digits := render c }

/-! ### The key plan (R60, R61) -/

/-- The revoke delta of a sale with no key change: the token sequence less the revoked one, when 1 to 31 (R61). -/
def revokeDelta (tokenSeq : Nat) (revoked : Option Nat) : Nat :=
  match revoked with
  | some r => if r < tokenSeq ∧ tokenSeq - r ≤ 31 then tokenSeq - r else 0
  | none => 0

/-- The key plan of a quote, or the first refusal (R60, R61). The new generation of a plan without a key change, and so
byte 54 of its SALE record (R75, R191), is the area's current one: the model's choice (log 37). -/
def keyPlan (mode : SaleMode) (a : Account) (slots : SMap KeySlot) : Except ResultCode KeyPlan :=
  match currentGen a.area slots with
  | none => .error .noKey
  | some cur =>
    let change := a.keyGen != cur || a.forceKeyChange
    if change && (keySlotOf a.area a.keyGen slots).isNone then .error .keyMissing
    else if !change && decide (a.issueSeq = 65535) then .error .seqExhausted
    else
      let seq := if change then 1 else a.issueSeq + 1
      .ok { keyChange := change, newGen := cur
            tokenCount := match mode with
              | .sale => if change then 3 else 1
              | .payment => 0
            tokenSeq := seq
            revokeDelta := if change then 0 else revokeDelta seq a.revokePending
            area := a.area, oldGen := a.keyGen }

/-! ### The build (R62) -/

/-- The tokens of a sale's key plan, in the order built (R62). -/
def buildTokens (plan : KeyPlan) (meter amount : Nat) (slots : SMap KeySlot) : List Token :=
  let newKey := meterKeyOf (areaKey plan.area plan.newGen slots) meter
  let credit := tokenOf (encipher newKey (creditPlain plan.tokenSeq amount plan.revokeDelta))
  if plan.keyChange then
    let oldKey := meterKeyOf (areaKey plan.area plan.oldGen slots) meter
    [tokenOf (encipher oldKey (keyFirstPlain plan.newGen newKey)),
     tokenOf (encipher oldKey (keySecondPlain plan.newGen newKey)), credit]
  else [credit]

/-! ### Voucher authority (R64) -/

/-- The authority code that is good for a voucher number and amount in a module (R64). -/
def authorityCode (f : FactoryItems) (number amount : Nat) : BitVec 64 :=
  encipher f.grantKey
    (encipher f.grantKey (BitVec.ofNat 32 number ++ BitVec.ofNat 32 amount) ^^^ (f.serial ++ 0#32))

/-- The voucher's authority code is good (R64). -/
def authorityGood (f : FactoryItems) (v : Voucher) : Bool := v.authority == authorityCode f v.number v.amount

end Sys2Proof.Machine
end

