-- ==== Sys2Proof/Machine/Tariff.lean ====
section
/-!
DEFINITION. Machine/Tariff.lean: the Tariff Unit: the credit computation in its six stages (R33 to R43), the validation
of a bank (R27), the bank ids (R25) and the switch of the banks (R29).
-/
namespace Sys2Proof.Machine

/-- The greatest month units (R2, R24). -/
abbrev monthLimit : Nat := 16777215

/-- The greatest tender (R33). -/
abbrev maxTender : Nat := 5000000

/-! ### Stages 2 and 3: tax and debt (R35 to R37) -/

/-- The net amount of a tender at a tax rate (R35). -/
def netAmount (tender tax : Nat) : Nat := tender * 10000 / (10000 + tax)

/-- The amount recovered in SALE mode (R36). -/
def recoveredAmount (net debt rate : Nat) : Nat := min debt (net * rate / 10000)

/-- The clearing tender of a debt (R37). -/
def clearingTender (debt tax : Nat) : Nat := min maxTender (ceilDiv ((debt + 1) * (10000 + tax)) 10000 - 1)

/-! ### Stage 4: the block walk (R38, R39) -/

/-- The state of a walk: budget in millicents, month units, units taken, and the blocks touched. -/
structure Walk where
  budget : Nat
  month : Nat
  units : Nat
  touched : List TouchedBlock
  /-- the walk ended in the last block with month units at their limit and budget left to buy more (R39) -/
  saturated : Bool
deriving DecidableEq, Repr, Inhabited

/-- The tariff blocks of a class, numbered from `n`. -/
def numbered : Nat → List TariffBlock → List (Nat × TariffBlock)
  | _, [] => []
  | n, b :: r => (n, b) :: numbered (n + 1) r

/-- The walk's first block and those after it: the first block whose bound is greater than the month units, or the
last (R38 step 2). -/
def startBlocks (month : Nat) : List (Nat × TariffBlock) → List (Nat × TariffBlock)
  | [] => []
  | [b] => [b]
  | b :: c :: r => if month < b.2.bound then b :: c :: r else startBlocks month (c :: r)

/-- A walk takes `q` units from a block (R38 step 5); a block from which none is taken is not recorded. -/
def Walk.takes (w : Walk) (number price q : Nat) : Walk :=
  { w with budget := w.budget - q * price, month := w.month + q, units := w.units + q,
           touched := if q = 0 then w.touched else w.touched ++ [⟨number, q, price⟩] }

/-- The walk through the blocks (R38 steps 3 to 6, R39). No rule says what it does with a bank that a misread word (R143)
puts outside R24's law: a price of 0 affords 0 units and a bound not above the month units leaves a room of 0, the
model's choice (log 51). -/
def walkBlocks : List (Nat × TariffBlock) → Walk → Walk
  | [], w => w
  | [(n, b)], w =>
    let room := monthLimit - w.month
    let q := min room (w.budget / b.price)
    let w1 := w.takes n b.price q
    { w1 with saturated := decide (q = room) && decide (b.price ≤ w1.budget) }
  | (n, b) :: c :: r, w =>
    let room := b.bound - w.month
    let q := min room (w.budget / b.price)
    if q = room then walkBlocks (c :: r) (w.takes n b.price q) else w.takes n b.price q

/-- The walk of a budget from the month units already bought, in the blocks of a class (R38). -/
def walk (blocks : List TariffBlock) (month budget : Nat) : Walk :=
  walkBlocks (startBlocks month (numbered 1 blocks))
    { budget := budget, month := month, units := 0, touched := [], saturated := false }

/-! ### The computation (R33) -/

/-- The inputs of the computation (R33). -/
structure CreditInputs where
  mode : SaleMode
  tender : Nat
  debt : Nat
  rate : Nat
  carry : Nat
  month : Nat
  issued : Nat
  flag : Bool
  maxPerSale : Nat
  tax : Nat
  minSale : Nat
  classAllowance : Nat
  blocks : List TariffBlock
  available : Nat
deriving DecidableEq, Repr, Inhabited

/-- The money for energy of a tender, in cents (R35, R36). A recovery rate above 10,000, which a misread word alone can
bring, leaves 0: the model's choice (log 51). -/
def energyMoney (i : CreditInputs) (tender : Nat) : Nat :=
  netAmount tender i.tax - recoveredAmount (netAmount tender i.tax) i.debt i.rate

/-- The walk a tender makes (R38). -/
def walkOf (i : CreditInputs) (tender : Nat) : Walk := walk i.blocks i.month (energyMoney i tender * 1000 + i.carry)

/-- The allowance units of stage 5 (R40). -/
def allowanceOf (i : CreditInputs) : Nat :=
  if i.flag then min (i.classAllowance - i.issued) i.maxPerSale else 0

/-- A tender fits: its token amount is within the maximum per sale and its walk does not saturate (R41). -/
def fits (i : CreditInputs) (tender : Nat) : Bool :=
  decide ((walkOf i tender).units + allowanceOf i ≤ i.maxPerSale) && !(walkOf i tender).saturated

/-- The search over the tender, from the bit below 2 ^ `k` down: the single boundary between tenders that satisfy `p`
and those that do not, from `low` (R41). -/
def searchTender (p : Nat → Bool) : Nat → Nat → Nat
  | 0, low => low
  | k + 1, low =>
    if low + 2 ^ k ≤ maxTender ∧ p (low + 2 ^ k) = true then searchTender p k (low + 2 ^ k) else searchTender p k low

/-- The suggested tender: the largest from 1 to 5,000,000 that fits, 0 when none does (R41). -/
def suggestedTender (i : CreditInputs) : Nat := searchTender (fits i) 23 0

/-- The computation in SALE mode: stages 1 to 6 (R34 to R36, R38 to R42), or the first refusal with its figures. -/
def computeSale (i : CreditInputs) : Except (ResultCode × ReplyBody) CreditResult :=
  let net := netAmount i.tender i.tax
  let rec1 := recoveredAmount net i.debt i.rate
  let w := walkOf i i.tender
  let allowance := allowanceOf i
  if i.tender < i.minSale then .error (.belowMinimum, .minimum i.minSale)
  else if w.saturated then .error (.amountHigh, .amountHigh (suggestedTender i) i.maxPerSale)
  else if i.maxPerSale < w.units + allowance then
    .error (.amountHigh, .amountHigh (suggestedTender i) i.maxPerSale)
  else if w.units + allowance = 0 then .error (.nothingToIssue, .debt i.debt)
  else if i.available < w.units + allowance then .error (.reserveShort, .available i.available)
  else .ok { tax := i.tender - net, recovered := rec1, purchased := w.units, allowance := allowance,
             carryBefore := i.carry, carryAfter := w.budget, monthBefore := i.month, monthAfter := w.month,
             allowanceAfter := i.issued + allowance, debtAfter := i.debt - rec1, touched := w.touched }

/-- The computation in PAYMENT mode (R35, R37). -/
def computePayment (i : CreditInputs) : Except (ResultCode × ReplyBody) CreditResult :=
  let net := netAmount i.tender i.tax
  if i.debt = 0 then .error (.noDebt, .empty)
  else if i.debt < net then .error (.overpayment, .overpayment i.debt (clearingTender i.debt i.tax))
  else if net = 0 then .error (.nothingToIssue, .empty)
  else .ok { tax := i.tender - net, recovered := net, purchased := 0, allowance := 0, carryBefore := i.carry,
             carryAfter := i.carry, monthBefore := i.month, monthAfter := i.month, allowanceAfter := i.issued,
             debtAfter := i.debt - net, touched := [] }

/-- The credit computation (R33). -/
def compute (i : CreditInputs) : Except (ResultCode × ReplyBody) CreditResult :=
  match i.mode with
  | .sale => computeSale i
  | .payment => computePayment i

/-- The token amount of a result: purchased and allowance units (R43). -/
def CreditResult.tokenAmount (r : CreditResult) : Nat := r.purchased + r.allowance

/-! ### Banks (R24 to R27) -/

/-- The class of a bank that an account's tariff class names (R23). One above 7, which a misread word alone can bring, is
taken as a class without tariff blocks: the model's choice (log 51). -/
def TariffBank.classOf (b : TariffBank) (n : Nat) : TariffClass :=
  if h : n < 8 then b.classes.get ⟨n, h⟩ else { allowance := 0, blocks := [] }

/-- The tariff blocks a class carries: as many pairs as its count (R190). -/
def RawClass.blocks (c : RawClass) : List TariffBlock := c.pairs.take c.count

/-- The bank a TARIFF_LOAD carries, under an id (R26). -/
def TariffLoadReq.bank (r : TariffLoadReq) (id : Nat) : TariffBank :=
  { id := id, tax := r.tax, minSale := r.minSale,
    classes := r.classes.map (fun c => { allowance := c.allowance, blocks := c.blocks }) }

/-- The first class (from 0) that `f` finds something in, with what it finds. -/
def firstClass {β : Type} (f : RawClass → Option β) (cs : List RawClass) : Option (Nat × β) :=
  match cs with
  | [] => none
  | c :: r =>
    match f c with
    | some x => some (0, x)
    | none => (firstClass f r).map (fun x => (x.1 + 1, x.2))

/-- The first block (from 1) for which `p` holds of the bound before it (0 for the first), itself and whether it is
the last. -/
def firstBlock (p : Nat → TariffBlock → Bool → Bool) : Nat → Nat → List TariffBlock → Option Nat
  | _, _, [] => none
  | n, before, b :: r => if p before b r.isEmpty then some n else firstBlock p (n + 1) b.bound r

/-- A failure of one check on the tariff blocks: the class, the block and the check's number (R27). -/
def blockFailure (check : Nat) (p : Nat → TariffBlock → Bool → Bool) (r : TariffLoadReq) : Option ReplyBody :=
  (firstClass (fun c => firstBlock p 1 0 c.blocks) r.classes.toList).map
    (fun x => .badTariff (some x.1) (some x.2) check)

/-- A failure of one check on a class (R27). -/
def classFailure (check : Nat) (p : RawClass → Bool) (r : TariffLoadReq) : Option ReplyBody :=
  (firstClass (fun c => if p c then some () else none) r.classes.toList).map
    (fun x => .badTariff (some x.1) none check)

/-- A failure of one check on the bank as a whole (R27). -/
def bankFailure (check : Nat) (bad : Bool) : Option ReplyBody := if bad then some (.badTariff none none check) else none

/-- The validation of R27: the first failure of its nine checks, taken in order, classes from 0 to 7 and blocks from
first to last within each check. A bound of 0, which the last block carries and which is read as no bound, does not fail
check 8. -/
def bankInvalid (r : TariffLoadReq) : Option ReplyBody :=
  (bankFailure 1 (decide (3000 < r.tax)))
  <|> (bankFailure 2 (decide (100000 < r.minSale)))
  <|> (bankFailure 3 (decide (lastReading < r.effective)))
  <|> (classFailure 4 (fun c => decide (100000 < c.allowance)) r)
  <|> (classFailure 5 (fun c => decide (4 < c.count)) r)
  <|> (blockFailure 6 (fun _ b _ => decide (b.price = 0) || decide (999999 < b.price)) r)
  <|> (blockFailure 7 (fun _ b last => !last && (decide (b.bound = 0) || decide (monthLimit < b.bound))) r)
  <|> (blockFailure 8 (fun before b _ => decide (b.bound ≠ 0) && decide (b.bound ≤ before)) r)
  <|> (blockFailure 9 (fun _ b last => last && decide (b.bound ≠ 0)) r)

/-- The bank id after another; after 255 comes 0 (R25). -/
def nextBankId (id : Nat) : Nat := (id + 1) % 256

/-- The id a TARIFF_LOAD would be given: one more than that of the last TARIFF record queued, or than the last bank id
(R25). -/
def bankIdFor (lastId : Nat) (q : List QueueEntry) : Nat :=
  nextBankId (q.foldl (fun n e => match e.record.body with
    | .tariff b _ => b.id
    | _ => n) lastId)

/-- The banks after the switch: a PENDING bank due at a reading becomes the ACTIVE bank (R29). -/
def TariffStore.switchAt (reading : Nat) (t : TariffStore) : TariffStore :=
  match t.pending with
  | some (b, eff) => if eff ≤ reading then { t with active := some b, pending := none } else t
  | none => t

/-- Whether a PENDING bank is due at a reading (R29). -/
def TariffStore.due (reading : Nat) (t : TariffStore) : Bool := t.pending.any (fun x => decide (x.2 ≤ reading))

/-- The Tariff Unit takes TARIFF_EFFECTIVE: a due PENDING bank becomes ACTIVE in one write of the system area and the
alarm is cleared; otherwise nothing changes (R29). With either bank unreadable the one write is left unmade whole: the
model's choice (log 49). -/
def takeTariffEffective (s : State) : State :=
  let s1 := touchItem .pendingBank s
  if itemBad .pendingBank s then s1
  else if s1.mem.sys.tariffs.due s1.clock.reading then
    let switched (a : SystemArea) : SystemArea := { a with tariffs := a.tariffs.switchAt s1.clock.reading }
    let s2 := writeItems [.activeBank, .pendingBank] switched s1
    if itemBad .activeBank s1 then s2 else s2.setClock { s2.clock with alarm := none }
  else s1

/-- The tariff-effective alarm is set; a time not later than the reading raises TARIFF_EFFECTIVE at the setting
(R164). -/
def setAlarm (at_ : Nat) (s : State) : State :=
  s.setClock { s.clock with alarm := some at_, tariffRaised := s.clock.tariffRaised || decide (at_ ≤ s.clock.reading) }

end Sys2Proof.Machine
end

