-- ==== Sys2Proof/Machine/Request.lean ====
section
/-!
DEFINITION. Machine/Request.lean: the Request Dispatcher (R173, R174), the role access table (R104), and what every
owning block shares: a refusal, the reading of an item, the lookup of a meter number (R9), the admission of a record
(R124) and its entry in the journal write queue (R122, R123).
-/
namespace Sys2Proof.Machine

/-! ### A request being judged -/

/-- The judging of a request: it goes on with the state as read and corrected so far, or ends in a refusal with its
result code and body. -/
abbrev Judge (α : Type) := EStateM (ResultCode × ReplyBody) State α

/-- What an accepted request is answered with: a reply at once, or one owed by the work item it has become (R173). -/
inductive Answer where
  | now (body : ReplyBody)
  | later
deriving DecidableEq, Repr, Inhabited

/-- A check: when it fails, the request is refused with a body. -/
def needWith (b : Bool) (r : ResultCode) (body : ReplyBody) : Judge Unit := if b then pure () else throw (r, body)

/-- A check: when it fails, the request is refused with a result code alone. -/
def need (b : Bool) (r : ResultCode) : Judge Unit := needWith b r .empty

/-- A check on the state as it stands. -/
def check (p : State → Bool) (r : ResultCode) : Judge Unit := do need (p (← get)) r

/-- An item of the system area is read; the request that meets an unreadable one is refused with OUT_OF_SERVICE (R91,
R102, R148). -/
def readItem (i : SysItem) : Judge Unit := do
  let bad := itemBad i (← get)
  modify (touchItem i)
  need (!bad) .outOfService

/-- The module is IN_SERVICE. -/
def needInService : Judge Unit := check (fun s => s.mode == .inService) .outOfService

/-- The clock is RUNNING (R158). -/
def needClock : Judge Unit := check (fun s => s.clock.state == .running) .clockNotSet

/-! ### Lookups and records of accounts (R9, R13) -/

/-- The words a lookup of a meter number reads: the header and those of its search (R9, R142). -/
def lookupWord (s : State) (meter : Nat) (a : Nat) : Bool :=
  headerWord a || (inIndex a && Config.lookupReads s.mem.index.entries meter a)

/-- The words of a lookup are read; an uncorrectable one sets the index-damaged indication (R143, R147). -/
def readLookup (meter : Nat) (s : State) : State := readWords (lookupWord s meter) s

/-- A record of a slot is read; a slot in the damage list is refused without a read (R13 check 4, R145). -/
def readAccount (slot : Nat) : Judge Account := do
  readItem .damageList
  check (fun s => decide (slot ∉ s.mem.sys.damage.slots)) .accountDamaged
  let a := slotRecord slot (← get)
  modify (readSlot slot)
  match a with
  | some a => pure a
  | none => throw (.accountDamaged, .empty)

/-- The lookup of a meter number: a slot, or a refusal (R9). A RETIRED entry is refused with the live number of the
account and the retired time; a lookup that finds a LIVE entry reads no record. -/
def lookupMeter (meter : Nat) : Judge Nat := do
  modify (readWords headerWord)
  check (fun s => !s.mem.index.damaged) .indexDamaged
  modify (readLookup meter)
  check (fun s => !s.mem.index.damaged) .indexDamaged
  match SMap.find meter (← get).mem.index.entries with
  | none => throw (.noMeter, .empty)
  | some e =>
    match e.kind with
    | .live => pure e.slot
    | .retired time => do
      let a ← readAccount e.slot
      throw (.retired, .retiredMeter a.meter time)

/-! ### Admission (R124) -/

/-- Admission check 1: the journal is not FAULTED; with no copy of the ring pointers it is refused alike (R120). -/
def admitReady (s : State) : Bool := s.copy.any (fun c => c.mark.isNone)

/-- Admission check 2: a free position, and a sequence of 32 bits (R122). -/
def admitRoom (s : State) : Bool :=
  s.copy.any (fun c => decide (c.head - c.tail + s.queue.length < 4096) && decide (c.head + s.queue.length ≤ 4294967295))

/-- Admission check 3: a free entry of the queue. -/
def admitEntry (s : State) : Bool := decide (s.queue.length < 8)

/-- The refusal the admission checks give, if any (R124). -/
def admission (s : State) : Option ResultCode :=
  if !admitReady s then some .journalFault
  else if !admitRoom s then some .journalFull
  else if !admitEntry s then some .queueFull
  else none

/-- The admission checks (R124). -/
def needAdmission : Judge Unit := do
  match admission (← get) with
  | some r => throw (r, .empty)
  | none => pure ()

/-! ### The write queue (R122, R123) -/

/-- The sequence a record entering the queue is given (R122). -/
def nextSeq (s : State) : Nat :=
  (match s.copy with
    | some c => c.head
    | none => 0) + s.queue.length

/-- The common head of a record made now by a request of terminal `t` (R119). -/
def headNow (t : Fin 8) (s : State) : RecordHead :=
  { seq := nextSeq s, time := s.clock.reading, terminal := t.val, shiftNo := (termView t s).shiftNo,
    operator := (termView t s).operator }

/-- A record enters the queue, owned by the request that made it (R123). -/
def queueRecord (o : Owner) (head : RecordHead) (body : RecordBody) (figures : Figures) (due : Bool) (s : State) :
    State :=
  s.setQueue (s.queue ++ [{ record := { head := head, body := body }, owner := some o, replyDue := due,
                            figures := figures }])

/-- A journaled request is admitted and its record queued (R124); its reply comes at completion. -/
def journaled (o : Owner) (body : RecordBody) (figures : Figures) : Judge Answer := do
  needAdmission
  modify (fun s => queueRecord o (headNow o.terminal s) body figures true s)
  pure .later

/-! ### The role access table (R104, R105) -/

/-- What the table grants a role for a kind: the request, the request for its own terminal only, or nothing. -/
inductive Access where
  | yes
  | own
  | no
deriving DecidableEq, Repr, Inhabited

/-- The role access table (R104). -/
def access : Kind → Role → Access
  | .status, _ => .yes
  | _, .disabled => .no
  | _, .supervisor => .yes
  | .clockRead, _ | .accountRead, _ => .yes
  | .shiftOpen, _ | .shiftClose, _ | .shiftResume, _ | .shiftRead, _ => .own
  | .quote, .clerk | .confirm, .clerk | .cancel, .clerk | .reissue, .clerk => .yes
  | .tariffRead, .auditor | .keyList, .auditor | .reserveRead, .auditor | .settingsRead, .auditor
  | .integrityRead, .auditor | .journalRead, .auditor | .journalRelease, .auditor => .yes
  | _, _ => .no

/-- The target byte of a request that names one (R105): SHIFT_CLOSE and SHIFT_READ act on their target, SHIFT_OPEN and
SHIFT_RESUME on the sending terminal. -/
def targetByte (k : Kind) (t : Fin 8) (body : List Byte) : Nat :=
  match k with
  | .shiftClose | .shiftRead => byteAt 0 body
  | _ => t.val

/-- The role's access allows the request (R174 check 4). -/
def allowed (k : Kind) (role : Role) (t : Fin 8) (body : List Byte) : Bool :=
  match access k role with
  | .yes => true
  | .own => targetByte k t body == t.val
  | .no => false

/-- The kinds taken from a terminal whose shift is not OPEN (R106). -/
def shiftFree (k : Kind) : Bool :=
  match k with
  | .status | .shiftOpen | .shiftResume => true
  | _ => false

/-- INITIALISE from terminal 0 while the module is OUT_OF_SERVICE, taken without the check of shift state (R186). -/
def rescue (k : Kind) (t : Fin 8) (s : State) : Bool := k == .initialise && t == 0 && s.mode == .outOfService

/-- The role a request is judged by: terminal 0 is SUPERVISOR without a read of its entry (R102). -/
def roleFor (t : Fin 8) (s : State) : Role := if t = 0 then .supervisor else (s.mem.sys.terms.get t).role

/-- The dispatcher's checks 4 to 6, and the hand-over to the owning block (R174). The sending terminal's entry is read
for its role and its shift (R102), and its idle timer takes its condition afresh (R116). -/
def judge {α : Type} (k : Kind) (parse : List Byte → Option α) (own : Owner → α → Judge Answer) (o : Owner)
    (body : List Byte) : Judge Answer := do
  let saved := rescue k o.terminal (← get)
  let bad := itemBad (.terminal o.terminal) (← get)
  modify (restartIdle o.terminal)
  need (!bad || saved) .outOfService
  check (fun s => allowed k (roleFor o.terminal s) o.terminal body) .notPermitted
  check (fun s => shiftFree k || saved
    || ((s.mem.sys.terms.get o.terminal).shift == .opened && !shiftChange o.terminal s)) .terminalState
  match parse body with
  | none => throw (.badField, .empty)
  | some a => own o a

/-! ### Taking a frame (R173, R174) -/

/-- The dispatcher may take a frame: the module is powered, start-up has ended, and the transmit reply queue has more
free entries than replies are owed (R173). -/
def mayTake (s : State) : Bool := s.powered && !starting s && decide (repliesOwed s + 1 ≤ freeReplies s)

/-- The oldest arrived frame leaves the receive buffer (R168, R170). -/
def takeFrame (s : State) : State := s.setLine ({ s.line with arrived := s.line.arrived.tail }).judgePause

/-- The end of a request: a refusal or an immediate answer enters the transmit reply queue; a work item answers later
(R172, R174). -/
def conclude (k : Byte) (terminal : Byte) (tag : Tag) :
    EStateM.Result (ResultCode × ReplyBody) State Answer → State
  | .ok (.now body) s => pushReply k terminal tag .ok body s
  | .ok .later s => s
  | .error (r, body) s => pushReply k terminal tag r body s

/-- The answer to a frame of a known kind, in the order of the dispatcher's checks (R174). -/
def answerFrame {α : Type} (k : Kind) (parse : List Byte → Option α) (own : Owner → α → Judge Answer) (f : List Byte)
    (s : State) : State :=
  match terminalOf (frameTerminal f) with
  | none => pushReply k.byte (frameTerminal f) (frameTag f) .badField .empty s
  | some t =>
    if (frameBody f).length ≠ k.bodyLength then
      pushReply k.byte (frameTerminal f) (frameTag f) .badLength .empty s
    else
      conclude k.byte (frameTerminal f) (frameTag f)
        ((judge k parse own { terminal := t, tag := frameTag f } (frameBody f)).run s)

/-- A request of a kind: the dispatcher takes the oldest arrived frame when it may take one and the frame is of this
kind; otherwise no such event occurs and nothing changes. -/
def takeRequest {α : Type} (k : Kind) (parse : List Byte → Option α) (own : Owner → α → Judge Answer) (s : State) :
    State :=
  match s.line.arrived with
  | [] => s
  | f :: _ => if mayTake s && frameKind f == k.byte then answerFrame k parse own f (takeFrame s) else s

/-- UNKNOWN_REQUEST (R174 check 1): the dispatcher takes a frame of no known kind. The reply returns the received kind
byte with bit 7 set (R190). -/
def execUnknownRequest (s : State) : Host.Outcome State Fault Refusal :=
  .next (match s.line.arrived with
    | [] => s
    | f :: _ =>
      if mayTake s && !knownKind (frameKind f) then
        pushReply (frameKind f) (frameTerminal f) (frameTag f) .unknownRequest .empty (takeFrame s)
      else s)

end Sys2Proof.Machine
end

