-- ==== Sys2Proof/Machine/Accounts.lean ====
section
/-!
DEFINITION. Machine/Accounts.lean: the account requests: ACCOUNT_CREATE, ACCOUNT_EDIT, ACCOUNT_READ, ACCOUNT_CLOSE,
METER_REPLACE, REKEY, INDEX_REBUILD (R13 to R22), and ACCOUNT_LOAD (R152).
-/
namespace Sys2Proof.Machine

/-- Index space for one more number: the count of entries plus the claimed numbers is below 24,576 (R12, R14, R19). -/
def indexSpace (s : State) : Bool := decide (s.mem.index.count + claimedCount s < 24576)

/-- The index is sound: its header is read and the indication is clear (R14 check 3, R152 check 5). -/
def needIndex : Judge Unit := do
  modify (readWords headerWord)
  check (fun s => !s.mem.index.damaged) .indexDamaged

/-- The words that a search for a number reads, which may find the index damaged (R9, R147). -/
def searchIndex (meter : Nat) : Judge Unit := do
  modify (readLookup meter)
  check (fun s => !s.mem.index.damaged) .indexDamaged

/-- A number to be added has no entry, LIVE or RETIRED (METER_EXISTS), and is not claimed (ACCOUNT_BUSY). -/
def needNewNumber (meter : Nat) : Judge Unit := do
  searchIndex meter
  check (fun s => (SMap.find meter s.mem.index.entries).isNone) .meterExists
  check (fun s => !claimed meter s) .accountBusy

/-- The checks 1 to 5 that ACCOUNT_EDIT, ACCOUNT_CLOSE, METER_REPLACE and REKEY share (R13). -/
def namedAccount (meter : Nat) : Judge (Nat × Account) := do
  needInService
  needClock
  let slot ← lookupMeter meter
  let a ← readAccount slot
  check (fun s => !busy slot s) .accountBusy
  pure (slot, a)

/-! ### ACCOUNT_CREATE (R14) -/

/-- The search for the lowest FREE slot, from `slot`, over `fuel` slots: claimed and damaged slots are passed over
without a read; a slot that reads uncorrectable enters the damage list and the search goes on (R14 check 6). -/
def searchFree : Nat → Nat → State → Option Nat × State
  | 0, _, s => (none, s)
  | fuel + 1, slot, s =>
    if claimedSlot slot s || decide (slot ∈ s.mem.sys.damage.slots) then searchFree fuel (slot + 1) s
    else match slotRecord slot s with
      | none => searchFree fuel (slot + 1) (readSlot slot s)
      | some a =>
        if a.state = .free then (some slot, readSlot slot s) else searchFree fuel (slot + 1) (readSlot slot s)

/-- The slot a CREATE takes (R14 check 6). -/
def takeFreeSlot : Judge Nat := do
  readItem .damageList
  let r := searchFree 16384 0 (← get)
  set r.2
  match r.1 with
  | some slot => pure slot
  | none => throw (.storeFull, .empty)

/-- ACCOUNT_CREATE (R14). -/
def ownCreate (o : Owner) (a : NewAccount) : Judge Answer := do
  needInService
  needClock
  needIndex
  needNewNumber a.meter
  let slot ← takeFreeSlot
  check indexSpace .indexFull
  journaled o (.account (.create slot a)) .none

/-- ACCOUNT_CREATE. -/
def execAccountCreate (s : State) : Host.Outcome State Fault Refusal :=
  .next (takeRequest .accountCreate parseCreate ownCreate s)

/-! ### ACCOUNT_EDIT, ACCOUNT_CLOSE, METER_REPLACE, REKEY (R13, R17 to R21) -/

/-- ACCOUNT_EDIT (R13, R17). -/
def ownEdit (o : Owner) (r : Nat × AccountEdit) : Judge Answer := do
  let x ← namedAccount r.1
  journaled o (.account (.edit x.1 r.1 r.2)) .none

/-- ACCOUNT_EDIT. -/
def execAccountEdit (s : State) : Host.Outcome State Fault Refusal := .next (takeRequest .accountEdit parseEdit ownEdit s)

/-- ACCOUNT_CLOSE (R13, R18). -/
def ownClose (o : Owner) (meter : Nat) : Judge Answer := do
  let x ← namedAccount meter
  needWith (x.2.debt == 0) .debtOutstanding (.debt x.2.debt)
  journaled o (.account (.close x.1 meter)) .none

/-- ACCOUNT_CLOSE. -/
def execAccountClose (s : State) : Host.Outcome State Fault Refusal :=
  .next (takeRequest .accountClose parseMeter ownClose s)

/-- METER_REPLACE (R13, R19). -/
def ownReplace (o : Owner) (r : ReplaceReq) : Judge Answer := do
  let x ← namedAccount r.meter
  needNewNumber r.newMeter
  check indexSpace .indexFull
  journaled o (.account (.replace x.1 r.meter r.newMeter r.area r.gen)) .none

/-- METER_REPLACE. -/
def execMeterReplace (s : State) : Host.Outcome State Fault Refusal :=
  .next (takeRequest .meterReplace parseReplace ownReplace s)

/-- REKEY (R13, R21). -/
def ownRekey (o : Owner) (meter : Nat) : Judge Answer := do
  let x ← namedAccount meter
  journaled o (.account (.rekey x.1 meter)) .none

/-- REKEY. -/
def execRekey (s : State) : Host.Outcome State Fault Refusal := .next (takeRequest .rekey parseMeter ownRekey s)

/-! ### ACCOUNT_READ (R16) -/

/-- The slot an ACCOUNT_READ names: by a lookup, or by its number (R16). -/
def nameSlot : AccountName → Judge Nat
  | .meter n => lookupMeter n
  | .slot n => pure n

/-- ACCOUNT_READ (R16): the record as read in the current month (R4), whether its slot is busy, and the terminal whose
pending sale holds it. -/
def ownAccountRead (_ : Owner) (n : AccountName) : Judge Answer := do
  needInService
  let slot ← nameSlot n
  let a ← readAccount slot
  let s ← get
  if a.state = .free then pure (.now .freeAccount)
  else pure (.now (.account (a.asOf s.month) (busy slot s) (saleHolder slot s)))

/-- ACCOUNT_READ. -/
def execAccountRead (s : State) : Host.Outcome State Fault Refusal :=
  .next (takeRequest .accountRead parseAccountRead ownAccountRead s)

/-! ### ACCOUNT_LOAD (R152) -/

/-- A LIVE entry points to the slot. -/
def liveAt (slot : Nat) (s : State) : Bool := s.mem.index.entries.any (fun x => x.2.slot == slot && x.2.kind == .live)

/-- The words that the search for a slot's LIVE entry reads, which may find the index damaged (R147). -/
def searchSlot (slot : Nat) : Judge Unit := do
  modify (fun s => readWords (fun a => inIndex a && Config.slotReads s.mem.index.entries slot a) s)
  check (fun s => !s.mem.index.damaged) .indexDamaged

/-- The conditions on the index of an image that is not FREE (R152 check 5). -/
def needLoadIndex (slot meter : Nat) : Judge Unit := do
  needIndex
  searchIndex meter
  check (fun s => (SMap.find meter s.mem.index.entries).all (fun e => e.kind == .live && e.slot == slot)) .meterExists
  check (fun s => !claimed meter s) .accountBusy
  searchSlot slot
  check (fun s => liveAt slot s || indexSpace s) .indexFull

/-- ACCOUNT_LOAD (R152). -/
def ownLoad (o : Owner) (r : LoadReq) : Judge Answer := do
  needInService
  needClock
  check (fun s => decide (r.image.counterMonth ≤ s.month) && r.zeros) .badField
  check (fun s => !busy r.slot s) .accountBusy
  if r.image.state ≠ .free then needLoadIndex r.slot r.image.meter
  journaled o (.account (.load r.slot r.image)) .none

/-- ACCOUNT_LOAD. -/
def execAccountLoad (s : State) : Host.Outcome State Fault Refusal := .next (takeRequest .accountLoad parseLoad ownLoad s)

/-! ### INDEX_REBUILD (R22) -/

/-- A rebuild part done: the count of slots passed over or entered in the damage list, and the state, whose index
holds the entries made. -/
structure Rebuild where
  passed : Nat
  state : State

/-- A LIVE entry is made for a meter number. -/
def addLive (meter slot : Nat) (s : State) : State :=
  s.setIndex { s.mem.index with
    entries := SMap.put meter { slot := slot, kind := .live } s.mem.index.entries
    count := s.mem.index.count + 1 }

/-- One slot of a rebuild (R22 steps 2 and 3). -/
def rebuildSlot (slot : Nat) (r : Rebuild) : Rebuild :=
  if slot ∈ (damageView r.state).slots then { r with passed := r.passed + 1 }
  else match slotRecord slot r.state with
    | none => { passed := r.passed + 1, state := readSlot slot r.state }
    | some a =>
      let s := readSlot slot r.state
      if a.state = .free then { r with state := s }
      else if (SMap.find a.meter s.mem.index.entries).isSome then
        { passed := r.passed + 1, state := enterDamage slot s }
      else { r with state := addLive a.meter slot s }

/-- `fuel` slots of a rebuild, from `slot` on (R22 step 2). -/
def rebuildFrom : Nat → Nat → Rebuild → Rebuild
  | 0, _, r => r
  | fuel + 1, slot, r => rebuildFrom fuel (slot + 1) (rebuildSlot slot r)

/-- The index region written whole as an empty, sound index (R22 step 1). -/
def emptyIndex (s : State) : State :=
  (freshWords inIndex s).setIndex { entries := [], count := 0, damaged := false }

/-- INDEX_REBUILD (R22). -/
def ownRebuild (_ : Owner) (_ : Unit) : Judge Answer := do
  needInService
  readItem .damageList
  let r := rebuildFrom 16384 0 { passed := 0, state := emptyIndex (← get) }
  set r.state
  pure (.now (.rebuilt r.state.mem.index.count r.passed))

/-- INDEX_REBUILD. -/
def execIndexRebuild (s : State) : Host.Outcome State Fault Refusal :=
  .next (takeRequest .indexRebuild parseNothing ownRebuild s)

end Sys2Proof.Machine
end

