-- ==== Sys2Proof/Machine/Banks.lean ====
section
/-!
DEFINITION. Machine/Banks.lean: TARIFF_LOAD, TARIFF_READ (R26, R31) and TARIFF_EFFECTIVE (R29).
-/
namespace Sys2Proof.Machine

/-- A QUOTED sale notes the bank id (R26 check 4). -/
def quotedUnder (id : Nat) (s : State) : Bool :=
  s.terms.toList.any (fun w => w.sale.any (fun p => p.state == .quoted && p.bankId == id))

/-- TARIFF_LOAD (R26). The record carries the id given under R25 and the whole bank. -/
def ownTariffLoad (o : Owner) (r : TariffLoadReq) : Judge Answer := do
  needInService
  needClock
  match bankInvalid r with
  | some body => throw (.badTariff, body)
  | none => do
    readItem .bankIds
    let s ← get
    check (fun s => !quotedUnder (bankIdFor s.mem.sys.tariffs.lastId s.queue) s) .tariffBusy
    journaled o (.tariff (r.bank (bankIdFor s.mem.sys.tariffs.lastId s.queue)) r.effective) .none

/-- TARIFF_LOAD. -/
def execTariffLoad (s : State) : Host.Outcome State Fault Refusal :=
  .next (takeRequest .tariffLoad parseTariffLoad ownTariffLoad s)

/-- What a TARIFF_READ of the PENDING bank (true) or the ACTIVE bank (false) gives (R31). -/
def tariffReply (pending : Bool) (t : TariffStore) : TariffReply :=
  { bank := if pending then t.pending.map (·.1) else t.active
    effective := if pending then t.pending.map (·.2) else none
    lastId := t.lastId
    activePresent := t.active.isSome
    pendingPresent := t.pending.isSome }

/-- TARIFF_READ (R31). A refusal gives the last bank id and the presence of each bank too, unless an item of theirs
cannot be read (log 20). -/
def ownTariffRead (_ : Owner) (pending : Bool) : Judge Answer := do
  let s ← get
  let items : List SysItem := [.activeBank, .pendingBank, .bankIds]
  modify (fun u => items.foldl (fun v i => touchItem i v) u)
  need (!items.any (fun i => itemBad i s)) .outOfService
  let b := tariffReply pending (← get).mem.sys.tariffs
  needWith (s.mode == .inService) .outOfService (.tariff { b with bank := none, effective := none })
  needWith b.bank.isSome .noTariff (.tariff b)
  pure (.now (.tariff b))

/-- TARIFF_READ. -/
def execTariffRead (s : State) : Host.Outcome State Fault Refusal :=
  .next (takeRequest .tariffRead parseSelector ownTariffRead s)

/-- TARIFF_EFFECTIVE (R29, R164): the Tariff Unit takes the event the clock raised. -/
def execTariffEffective (s : State) : Host.Outcome State Fault Refusal :=
  .next (if s.powered && s.clock.tariffRaised then
    takeTariffEffective (s.setClock { s.clock with tariffRaised := false }) else s)

end Sys2Proof.Machine
end

