-- ==== Sys2Proof/Machine/Keys.lean ====
section
/-!
DEFINITION. Machine/Keys.lean: KEY_LOAD, KEY_RETIRE, KEY_LIST (R48, R50, R52), the zeroise (R53), and TAMPER_CLEAR
(R189).
-/
namespace Sys2Proof.Machine

/-- A KEY record in the write queue names the area and generation (R48 check 6). -/
def keyClaimed (area gen : Nat) (s : State) : Bool :=
  s.queue.any (fun e => match e.record.body with
    | .key k => k.area == area && k.gen == gen
    | _ => false)

/-- A KEY load record in the write queue names the key slot (R48 check 7). -/
def keySlotClaimed (slot : Nat) (s : State) : Bool :=
  s.queue.any (fun e => match e.record.body with
    | .key k => k.action == .load && k.slot == slot
    | _ => false)

/-- KEY_LOAD (R48). -/
def ownKeyLoad (o : Owner) (r : KeyLoadReq) : Judge Answer := do
  needInService
  check (fun s => !s.secure.tamperLatch) .tamperLatched
  needClock
  check (fun s => checkValueOf (openKeyBlock s.secure.factory.transportKey r.keyBlock) == r.checkValue) .badKey
  check (fun s => (keySlotOf r.area r.gen s.secure.slots).isNone) .keyExists
  check (fun s => !keyClaimed r.area r.gen s) .keyBusy
  let s ← get
  match emptySlot (fun n => !keySlotClaimed n s) s.secure.slots with
  | none => throw (.keyStoreFull, .empty)
  | some slot =>
    journaled o (.key { action := .load, area := r.area, gen := r.gen, slot := slot, keyBlock := r.keyBlock,
                        checkValue := r.checkValue }) .none

/-- KEY_LOAD. -/
def execKeyLoad (s : State) : Host.Outcome State Fault Refusal := .next (takeRequest .keyLoad parseKeyLoad ownKeyLoad s)

/-- The action a KEY_RETIRE takes against a slot (R50). -/
def retireAction (k : KeySlot) : KeyAction :=
  match k.state with
  | .active => .retire
  | .retired => .erase

/-- KEY_RETIRE (R50). -/
def ownKeyRetire (o : Owner) (r : Nat × Nat) : Judge Answer := do
  needInService
  needClock
  match keySlotOf r.1 r.2 (← get).secure.slots with
  | none => throw (.keyMissing, .empty)
  | some (slot, k) => do
    check (fun s => !keyClaimed r.1 r.2 s) .keyBusy
    journaled o (.key { action := retireAction k, area := r.1, gen := r.2, slot := slot, keyBlock := 0,
                        checkValue := 0 }) .none

/-- KEY_RETIRE. -/
def execKeyRetire (s : State) : Host.Outcome State Fault Refusal :=
  .next (takeRequest .keyRetire parseKeyRetire ownKeyRetire s)

/-- A key slot as KEY_LIST gives it (R52). -/
def viewSlot (k : KeySlot) : KeySlotView :=
  { state := k.state, area := k.area, gen := k.gen, checkValue := checkValueOf k.key }

/-- The listing of the key store (R52). -/
def keyListing (m : SecureMemory) : KeyListReply :=
  { slots := (List.range 16).map (fun n => (SMap.find n m.slots).map viewSlot)
    counter := m.counter
    lastApplied := m.keyLastApplied
    serial := m.factory.serial
    currentGens := (List.range 64).map (fun a => currentGen a m.slots) }

/-- KEY_LIST (R52). -/
def ownKeyList (_ : Owner) (_ : Unit) : Judge Answer := do
  needInService
  pure (.now (.keyList (keyListing (← get).secure)))

/-- KEY_LIST. -/
def execKeyList (s : State) : Host.Outcome State Fault Refusal := .next (takeRequest .keyList parseNothing ownKeyList s)

/-- The key-store generation counter, increased by one; it wraps from 4,294,967,295 to 0 (R46). -/
def nextCounter (n : Nat) : Nat := (n + 1) % 4294967296

/-- The zeroise: every slot EMPTY, the counter increased; the key last applied and the factory items kept (R53). -/
def zeroise (m : SecureMemory) : SecureMemory := { m with slots := [], counter := nextCounter m.counter }

/-- TAMPER_CLEAR (R189): whatever the service state. -/
def ownTamperClear (_ : Owner) (_ : Unit) : Judge Answer := do
  check (fun s => !s.enclosureOpen) .tamperOpen
  modify (fun s => s.setSecure { s.secure with tamperLatch := false })
  pure (.now .empty)

/-- TAMPER_CLEAR. -/
def execTamperClear (s : State) : Host.Outcome State Fault Refusal :=
  .next (takeRequest .tamperClear parseNothing ownTamperClear s)

end Sys2Proof.Machine
end

