-- ==== Sys2Proof/Machine/Office.lean ====
section
/-!
DEFINITION. Machine/Office.lean: CLOCK_READ, CLOCK_SET (R160, R161), STATUS (R176), SETTINGS_READ, SETTINGS_SET (R177,
R178), INTEGRITY_READ, INTEGRITY_CLEAR (R154, R155).
-/
namespace Sys2Proof.Machine

/-! ### The clock (R160, R161) -/

/-- A CLOCK record is in the write queue (R160, R161). -/
def clockQueued (s : State) : Bool :=
  s.queue.any (fun e => match e.record.body with
    | .clock _ => true
    | _ => false)

/-- What CLOCK_READ gives (R160). That the counter is saturated as soon as the reading stands at the last second of 2099,
and not only once a second step has found it there (R156), is the model's choice (log 50). -/
def clockReply (s : State) : ClockReply :=
  { reading := s.clock.reading
    calendar := calendarOf s.clock.reading
    monthIndex := s.month
    state := s.clock.state
    saturated := decide (s.clock.reading = lastReading)
    lastApplied := s.clock.lastApplied
    recordWaiting := clockQueued s
    alarm := s.clock.alarm }

/-- CLOCK_READ (R160): whatever the service state. -/
def ownClockRead (_ : Owner) (_ : Unit) : Judge Answer := do
  pure (.now (.clock (clockReply (← get))))

/-- CLOCK_READ. -/
def execClockRead (s : State) : Host.Outcome State Fault Refusal :=
  .next (takeRequest .clockRead parseNothing ownClockRead s)

/-- CLOCK_SET (R161). The clock need not be RUNNING. -/
def ownClockSet (o : Owner) (reading : Nat) : Judge Answer := do
  needInService
  check (fun s => !clockQueued s) .clockBusy
  let month := (← get).month
  needWith (decide (month ≤ monthOf reading)) .clockBack (.clockBack month)
  journaled o (.clock reading) .none

/-- CLOCK_SET. -/
def execClockSet (s : State) : Host.Outcome State Fault Refusal :=
  .next (takeRequest .clockSet parseReading ownClockSet s)

/-! ### STATUS (R176) -/

/-- What STATUS gives to a sending terminal (R176). -/
def statusReply (t : Fin 8) (s : State) : StatusReply :=
  { inService := s.mode == .inService
    sysFaultPresent := s.sysFault.isSome
    serial := s.secure.factory.serial
    speed := s.line.speed
    reading := s.clock.reading
    clockState := s.clock.state
    journalState := journalState s
    pointers := s.copy.map (fun c => { head := c.head, tail := c.tail })
    unreleased := unreleased s
    queued := s.queue.length
    indexCount := s.mem.index.count
    indexDamaged := s.mem.index.damaged
    freeReplies := freeReplies s
    repliesOwed := repliesOwed s
    role := roleFor t s
    shift := (s.mem.sys.terms.get t).shift
    shiftNo := (s.mem.sys.terms.get t).shiftNo
    sale := (s.term t).sale.map (·.state) }

/-- STATUS (R176): whatever the service state. -/
def ownStatus (o : Owner) (_ : Unit) : Judge Answer := do
  modify (readWords headerWord)
  pure (.now (.status (statusReply o.terminal (← get))))

/-- STATUS. -/
def execStatus (s : State) : Host.Outcome State Fault Refusal := .next (takeRequest .status parseNothing ownStatus s)

/-! ### Settings (R177, R178) -/

/-- A SETTINGS record is in the write queue (R177). -/
def settingsQueued (s : State) : Bool :=
  s.queue.any (fun e => match e.record.body with
    | .settings _ => true
    | _ => false)

/-- SETTINGS_READ (R177): whatever the service state. -/
def ownSettingsRead (_ : Owner) (_ : Unit) : Judge Answer := do
  readItem .settings
  let s ← get
  pure (.now (.settings s.mem.sys.settings s.mem.sys.settingsApplied (settingsQueued s)))

/-- SETTINGS_READ. -/
def execSettingsRead (s : State) : Host.Outcome State Fault Refusal :=
  .next (takeRequest .settingsRead parseNothing ownSettingsRead s)

/-- At least one setting is present (R178 check 1). -/
def SettingsChange.any (c : SettingsChange) : Bool :=
  c.holdTime.isSome || c.idleLimit.isSome || c.reversalWindow.isSome || c.reissueLimit.isSome
    || c.scrubInterval.isSome || c.reserveLow.isSome || c.journalNearFull.isSome

/-- Each present setting clamped to its range (R177, R178). -/
def SettingsChange.clamped (c : SettingsChange) : SettingsChange :=
  { holdTime := c.holdTime.map (clamp 30 900)
    idleLimit := c.idleLimit.map (clamp 1 120)
    reversalWindow := c.reversalWindow.map (clamp 0 60)
    reissueLimit := c.reissueLimit.map (clamp 0 9)
    scrubInterval := c.scrubInterval.map (clamp 0 1000)
    reserveLow := c.reserveLow.map (clamp 0 2000000000)
    journalNearFull := c.journalNearFull.map (clamp 1 4096) }

/-- SETTINGS_SET (R178). The record carries the values as clamped. -/
def ownSettingsSet (o : Owner) (c : SettingsChange) : Judge Answer := do
  need c.any .badField
  needInService
  journaled o (.settings c.clamped) (.settings c)

/-- SETTINGS_SET. -/
def execSettingsSet (s : State) : Host.Outcome State Fault Refusal :=
  .next (takeRequest .settingsSet parseSettings ownSettingsSet s)

/-! ### Integrity (R154, R155) -/

/-- The slot of the last error, when its address lies in the account region (R154). -/
def lastErrorSlot (l : ErrorLog) : Option Nat :=
  match l.last with
  | some e => if e.addr < 131072 then some (e.addr / 8) else none
  | none => none

/-- What INTEGRITY_READ gives; an unreadable item is reported so (R154). That the other item and the index items are
given beside it is the model's choice (log 44). -/
def integrityReply (s : State) : IntegrityReply :=
  { log := if itemBad .errorLog s then none else some s.mem.sys.errorLog
    lastErrorSlot := if itemBad .errorLog s then none else lastErrorSlot s.mem.sys.errorLog
    damage := if itemBad .damageList s then none else some s.mem.sys.damage
    indexDamaged := s.mem.index.damaged
    indexCount := s.mem.index.count
    sysFault := s.sysFault
    scrubPos := s.scrub.pos
    scrubInterval := (settingsView s).scrubInterval }

/-- INTEGRITY_READ (R154): whatever the service state. -/
def ownIntegrityRead (_ : Owner) (_ : Unit) : Judge Answer := do
  modify (fun s => readWords headerWord (touchItem .settings (touchItem .damageList (touchItem .errorLog s))))
  pure (.now (.integrity (integrityReply (← get))))

/-- INTEGRITY_READ. -/
def execIntegrityRead (s : State) : Host.Outcome State Fault Refusal :=
  .next (takeRequest .integrityRead parseNothing ownIntegrityRead s)

/-- The error log cleared (R144, R155). -/
def ErrorLog.clear : ErrorLog := { last := none, corrected := 0, uncorrectable := 0 }

/-- INTEGRITY_CLEAR (R155): the log and the overflow flag are cleared, the damage list is left as it stands. -/
def ownIntegrityClear (_ : Owner) (_ : Unit) : Judge Answer := do
  needInService
  readItem .damageList
  readItem .errorLog
  modify (storeItems [.damageList, .errorLog] (fun a =>
    { a with errorLog := .clear, damage := { a.damage with overflow := false } }))
  pure (.now .empty)

/-- INTEGRITY_CLEAR. -/
def execIntegrityClear (s : State) : Host.Outcome State Fault Refusal :=
  .next (takeRequest .integrityClear parseNothing ownIntegrityClear s)

end Sys2Proof.Machine
end

