-- ==== Sys2Proof/Machine/Records.lean ====
section
/-!
DEFINITION. Machine/Records.lean: the bytes of a journal record (R191), what a position reads as (R133), the read-back's
judgement (R130), and the ring pointers and the fault mark of the Journal Controller (R120).
-/
namespace Sys2Proof.Machine

/-! ### The bytes of a record (R191) -/

/-- The kind code of a record (R191). -/
def RecordBody.code : RecordBody → Nat
  | .init _ => 0x01
  | .void _ => 0x02
  | .sale _ => 0x03
  | .payment _ => 0x04
  | .reissue _ _ _ => 0x05
  | .reversal _ => 0x06
  | .grant _ => 0x07
  | .shiftOpen => 0x08
  | .shiftClose _ => 0x09
  | .account _ => 0x0A
  | .key _ => 0x0B
  | .tariff _ _ => 0x0C
  | .clock _ => 0x0D
  | .settings _ => 0x0E
  | .terminal _ _ => 0x0F
  | .other k => k.toNat

/-- The subkind, action or cause of a record; 0 where its kind has none (R191). -/
def RecordBody.subcode : RecordBody → Nat
  | .init .memoryLoss => 1
  | .init .initialise => 2
  | .void .retry => 1
  | .void .startUp => 2
  | .account (.create _ _) => 1
  | .account (.edit _ _ _) => 2
  | .account (.close _ _) => 3
  | .account (.replace _ _ _ _ _) => 4
  | .account (.load _ _) => 5
  | .account (.rekey _ _) => 6
  | .key k => match k.action with
    | .load => 1
    | .retire => 2
    | .erase => 3
  | _ => 0

/-- One entry of the tariff blocks touched: block number 1 byte, units 3, price 3 (R191). -/
def touchedBytes (t : TouchedBlock) : List Byte := natBytes 1 t.number ++ natBytes 3 t.units ++ natBytes 3 t.price

/-- The body of a SALE record, bytes 16 to 108 (R191). -/
def saleBytes (b : SaleBody) : List Byte :=
  natBytes 2 b.slot ++ natBytes 5 b.meter ++ natBytes 4 b.tendered ++ natBytes 4 b.tax ++ natBytes 4 b.recovered
    ++ natBytes 3 b.purchased ++ natBytes 3 b.allowance ++ natBytes 3 b.carryBefore ++ natBytes 3 b.carryAfter
    ++ natBytes 3 b.monthBefore ++ natBytes 1 b.tokenCount ++ natBytes 2 b.tokenSeq ++ natBytes 1 b.keyChange.toNat
    ++ natBytes 1 b.newGen ++ natBytes 1 b.revokeDelta ++ natBytes 1 b.touched.length
    ++ padTo 28 (b.touched.flatMap touchedBytes) ++ padTo 24 (b.ciphers.flatMap cipherBytes)

/-- The body bytes of a record: tabled for a SALE, empty for a kind whose figures all stand in the head and byte 5, the
back-link first in a REISSUE or REVERSAL (R191), and otherwise as the module forms them (log 21). -/
def RecordBody.bytes (b : RecordBody) : List Byte :=
  match b with
  | .sale x => saleBytes x
  | .init _ => []
  | .void _ => []
  | .shiftOpen => []
  | .reissue _ _ link => natBytes 4 link ++ Config.journalBody b
  | .reversal x => natBytes 4 x.backLink ++ Config.journalBody b
  | _ => Config.journalBody b

/-- The first 124 bytes of a record (R191). -/
def recordFront (r : Record) : List Byte :=
  natBytes 4 r.head.seq ++ natBytes 1 r.body.code ++ natBytes 1 r.body.subcode ++ natBytes 4 r.head.time
    ++ natBytes 1 r.head.terminal ++ natBytes 2 r.head.shiftNo ++ natBytes 2 r.head.operator ++ [0#8]
    ++ padTo 108 r.body.bytes

/-- The 128 bytes of a record (R191). -/
def recordBytes (r : Record) : List Byte := recordFront r ++ natBytes 4 (crc32 (recordFront r)).toNat

/-- The stored CRC of 128 bytes matches their first 124 (R119). -/
def crcGood (b : List Byte) : Bool := b.drop 124 == natBytes 4 (crc32 (b.take 124)).toNat

/-! ### A record read from bytes the module did not write whole (R191) -/

/-- The tariff blocks touched of a SALE's bytes. -/
def touchedOf (b : List Byte) (i : Nat) : TouchedBlock :=
  { number := fieldNat (57 + 7 * i) 1 b, units := fieldNat (58 + 7 * i) 3 b, price := fieldNat (61 + 7 * i) 3 b }

/-- The SALE body of 128 bytes (R191). -/
def saleOf (b : List Byte) : SaleBody :=
  { slot := fieldNat 16 2 b, meter := fieldNat 18 5 b, tendered := fieldNat 23 4 b, tax := fieldNat 27 4 b,
    recovered := fieldNat 31 4 b, purchased := fieldNat 35 3 b, allowance := fieldNat 38 3 b,
    carryBefore := fieldNat 41 3 b, carryAfter := fieldNat 44 3 b, monthBefore := fieldNat 47 3 b,
    tokenCount := byteAt 50 b, tokenSeq := fieldNat 51 2 b, keyChange := byteAt 53 b == 1, newGen := byteAt 54 b,
    revokeDelta := byteAt 55 b
    touched := (List.range (min 4 (byteAt 56 b))).map (touchedOf b)
    ciphers := (List.range (min 3 (byteAt 50 b))).map (fun i => BitVec.ofNat 64 (fieldNat (85 + 8 * i) 8 b)) }

/-- The ACCOUNT body of 128 bytes, by their subkind; a subkind that R191 does not name has no effects, like a kind that
it does not name (log 21). -/
def accountOf (b : List Byte) : RecordBody :=
  match byteAt 5 b with
  | 1 => .account (.create (Config.createOf b).1 (Config.createOf b).2)
  | 2 => .account (.edit (Config.editOf b).1 (Config.editOf b).2.1 (Config.editOf b).2.2)
  | 3 => .account (.close (Config.accountNameOf b).1 (Config.accountNameOf b).2)
  | 4 =>
    let r := Config.replaceOf b
    .account (.replace r.1 r.2.1 r.2.2.1 r.2.2.2.1 r.2.2.2.2)
  | 5 => .account (.load (Config.loadOf b).1 (Config.loadOf b).2)
  | 6 => .account (.rekey (Config.accountNameOf b).1 (Config.accountNameOf b).2)
  | _ => .other 0x0A

/-- The KEY body of 128 bytes, by their action; an action that R191 does not name has no effects (log 21). -/
def keyBodyOf (b : List Byte) : RecordBody :=
  match byteAt 5 b with
  | 1 => .key { Config.keyOf b with action := .load }
  | 2 => .key { Config.keyOf b with action := .retire }
  | 3 => .key { Config.keyOf b with action := .erase }
  | _ => .other 0x0B

/-- The body of 128 bytes by their kind code (R191): a SALE's fields as tabled, the back-link of a REISSUE or REVERSAL at
bytes 16 to 19, the subkind, action or cause of byte 5, and the other fields of a kind as the module forms them
(log 21). A cause that R191 does not name reads as the second (log 21). -/
def bodyOf (b : List Byte) : RecordBody :=
  match byteAt 4 b with
  | 0x01 => .init (if byteAt 5 b = 1 then .memoryLoss else .initialise)
  | 0x02 => .void (if byteAt 5 b = 1 then .retry else .startUp)
  | 0x03 => .sale (saleOf b)
  | 0x04 => .payment (Config.paymentOf b)
  | 0x05 => .reissue (Config.reissueOf b).1 (Config.reissueOf b).2 (fieldNat 16 4 b)
  | 0x06 => .reversal { Config.reversalOf b with backLink := fieldNat 16 4 b }
  | 0x07 => .grant (Config.grantOf b)
  | 0x08 => .shiftOpen
  | 0x09 => .shiftClose (Config.shiftCloseOf b)
  | 0x0A => accountOf b
  | 0x0B => keyBodyOf b
  | 0x0C => .tariff (Config.tariffOf b).1 (Config.tariffOf b).2
  | 0x0D => .clock (Config.clockOf b)
  | 0x0E => .settings (Config.settingsOf b)
  | 0x0F => .terminal (Config.terminalOf b).1 (Config.terminalOf b).2
  | k => .other (BitVec.ofNat 8 k)

/-- The record of 128 bytes with a good CRC (R191). -/
def recordOf (b : List Byte) : Record :=
  { head := { seq := fieldNat 0 4 b, time := fieldNat 6 4 b, terminal := byteAt 10 b, shiftNo := fieldNat 11 2 b,
              operator := fieldNat 13 2 b }
    body := bodyOf b }

/-! ### Reading a position (R133) -/

/-- The position of a sequence (R119). -/
def positionOf (seq : Nat) : Nat := seq % 4096

/-- What the reading of one position yields: an outcome, the record when the CRC is good, and the bytes received. -/
structure PageRead where
  outcome : ReadOutcome
  record : Option Record
  bytes : List Byte
deriving DecidableEq, Repr, Inhabited

/-- The outcome for a record with a good CRC, against the sequence sought (R133). -/
def goodRead (seq : Nat) (r : Record) (b : List Byte) : PageRead :=
  { outcome := if r.head.seq = seq then .good else .wrongSequence, record := some r, bytes := b }

/-- The outcome for bytes (R133). -/
def bytesRead (seq : Nat) (b : List Byte) : PageRead :=
  if crcGood b then goodRead seq (recordOf b) b else { outcome := .badCrc, record := none, bytes := b }

/-- The reading of a position for a sequence: the bytes it holds, other bytes, or no acknowledge (R133). A position
never written holds no record (R119). -/
def readPage (pos seq : Nat) (got : ReadGot) (device : SMap Page) : PageRead :=
  match got with
  | .noAck => { outcome := .noAck, record := none, bytes := [] }
  | .bytes b => bytesRead seq b
  | .held =>
    match SMap.find pos device with
    | some (.record r) => goodRead seq r (recordBytes r)
    | some (.bytes b) => bytesRead seq b
    | none => { outcome := .badCrc, record := none, bytes := Config.blankBytes pos }

/-- The read-back passes: a good CRC that equals the CRC of the record written (R130). -/
def readBackPasses (rec : Record) (pos : Nat) (got : ReadGot) (device : SMap Page) : Bool :=
  match got with
  | .noAck => false
  | .bytes b => crcGood b && b.drop 124 == (recordBytes rec).drop 124
  | .held =>
    match SMap.find pos device with
    | some (.record r) => r == rec || (recordBytes r).drop 124 == (recordBytes rec).drop 124
    | some (.bytes b) => crcGood b && b.drop 124 == (recordBytes rec).drop 124
    | none => false

/-- The highest sequence among the positions read with a good CRC, in a scan of the whole device in which a position
listed in `reads` reads so and every other as it is held; 0 when there is none (R185 step 1). -/
def highestSeq (reads : SMap ReadGot) (device : SMap Page) : Nat :=
  ((List.range 4096).filterMap (fun pos =>
    (readPage pos 0 ((SMap.find pos reads).getD .held) device).record.map (·.head.seq))).foldl max 0

/-- A position takes what a write, whole or cut off, leaves there (R126, R130). -/
def leavePage (pos : Nat) (r : Record) (left : PageLeft) (s : State) : State :=
  match left with
  | .unchanged => s
  | .asSent => s.setDevice (SMap.put pos (.record r) s.device)
  | .bytes b => s.setDevice (SMap.put pos (.bytes b) s.device)

/-! ### The ring pointers and the fault mark (R120) -/

/-- The ring pointers take a head and a tail: the copy in this event, and the system area unless the write is left
unmade (R120, R148). -/
def setPointers (head tail : Nat) (s : State) : State :=
  let s1 := s.setCopy (s.copy.map (fun c => { c with head := head, tail := tail }))
  writeItem .ring (fun a => { a with ring := { head := head, tail := tail } }) s1

/-- The head is raised by one (R134 step 1). -/
def raiseHead (s : State) : State :=
  match s.copy with
  | some c => setPointers (c.head + 1) c.tail s
  | none => s

/-- The fault mark takes a value: the copy in this event, and the system area unless the write is left unmade. -/
def setMark (m : Option FaultMark) (s : State) : State :=
  let s1 := s.setCopy (s.copy.map (fun c => { c with mark := m }))
  writeItem .mark (fun a => { a with mark := m }) s1

/-- A VOID closes the faulted sequence: the head is raised by one and the mark cleared, in one event (R137, R182). With
one of the two items unreadable the other is still written: the model's choice (log 40). -/
def closeMark (s : State) : State := setMark none (raiseHead s)

/-- The cause of the last fault takes a value (R135). -/
def setCause (c : FaultCause) (s : State) : State := writeItem .cause (fun a => { a with cause := c }) s

/-! ### The two-wire bus (R127 to R130) -/

/-- The three bytes of a position's byte address: the position number times 128 (R127). -/
def addressBytes (pos : Nat) : List Byte := natBytes 3 (pos * 128)

/-- What passes on the bus in steps 1 to 4 of a record write (R128). -/
def writeSignals (pos : Nat) (r : Record) : List BusSignal :=
  [.start, .address false] ++ ((addressBytes pos ++ recordBytes r).map .sent) ++ [.stop]

/-- What passes on the bus in one acknowledge poll, and in the probe of a retry (R129, R137). -/
def pollSignals : List BusSignal := [.start, .address false, .stop]

/-- What passes on the bus in the read of a position or a read-back (R130, R133). -/
def readSignals (pos : Nat) : List BusSignal :=
  [.start, .address false] ++ (addressBytes pos).map .sent ++ [.repeatedStart, .address true]
    ++ List.replicate 127 (.received true) ++ [.received false, .stop]

/-- What passes on the bus in the phase a record write stands in, every acknowledge given (R128 to R131). -/
def BusWrite.signals (w : BusWrite) : List BusSignal :=
  match w.phase with
  | .sending => writeSignals w.pos w.record
  | .programming _ => pollSignals
  | .recovering _ => pollSignals
  | .readBack => readSignals w.pos

/-- The controller is free (R132). -/
def freeBus (s : State) : State := s.setBus none

/-- A record write is begun (R128). -/
def beginWrite (job : WriteJob) (r : Record) (pos : Nat) (s : State) : State :=
  s.setBus (some (.write { job := job, record := r, pos := pos, secondAttempt := false, phase := .sending }))

end Sys2Proof.Machine
end

