-- ==== Sys2Proof/Machine/Sale.lean ====
section
/-!
DEFINITION. Machine/Sale.lean: the sale: QUOTE, CONFIRM, CANCEL, the requests of REISSUE and REVERSE (R65 to R77, R85,
R87), and the expiry of the sale timer and of the idle timer (R71, R117).
-/
namespace Sys2Proof.Machine

/-! ### QUOTE (R68, R69) -/

/-- The set-aside of a QUOTED sale the terminal holds already, left out of the last limit (R93). -/
def ownSetAside (t : Fin 8) (s : State) : Nat :=
  match (s.term t).sale with
  | some p => p.setAside
  | none => 0

/-- The inputs of the credit computation for an account as read in the current month, a class, a bank and what is
available (R33). -/
def creditInputs (r : QuoteReq) (a : Account) (bank : TariffBank) (available : Nat) : CreditInputs :=
  { mode := r.mode, tender := r.tendered, debt := a.debt, rate := a.rate, carry := a.carry, month := a.monthUnits,
    issued := a.allowanceIssued, flag := a.allowanceFlag, maxPerSale := a.maxPerSale, tax := bank.tax,
    minSale := bank.minSale, classAllowance := (bank.classOf a.tariffClass).allowance,
    blocks := (bank.classOf a.tariffClass).blocks, available := available }

/-- The set-aside of a mode and a result (R65). -/
def setAsideOf (mode : SaleMode) (r : CreditResult) : Nat :=
  match mode with
  | .sale => r.tokenAmount
  | .payment => 0

/-- The reply's figures of a pending sale (R69). -/
def figuresOf (p : PendingSale) : QuoteFigures :=
  { tendered := p.tendered, tax := p.result.tax, recovered := p.result.recovered, debtAfter := p.result.debtAfter,
    purchased := p.result.purchased, allowance := p.result.allowance, tokenAmount := p.result.tokenAmount,
    tokenCount := p.plan.tokenCount, keyChange := p.plan.keyChange, expiryTime := p.expiryTime }

/-- The pending sale an accepted quote makes (R65, R69 steps 2 and 4). -/
def quotedSale (r : QuoteReq) (slot : Nat) (result : CreditResult) (plan : KeyPlan) (bankId hold : Nat) (s : State) :
    PendingSale :=
  { state := .quoted, slot := slot, meter := r.meter, mode := r.mode, tendered := r.tendered, result := result,
    plan := plan, bankId := bankId, monthIndex := s.month, keyCount := s.secure.counter,
    setAside := setAsideOf r.mode result, quoteTime := s.clock.reading, expiryTime := s.clock.reading + hold,
    tokens := [], journalSeq := none, timer := some (hold * 1000) }

/-- A quote is accepted (R69): the terminal's earlier sale is released, the new one stands, its set-aside is added. -/
def acceptQuote (t : Fin 8) (p : PendingSale) (s : State) : State :=
  let s1 := releaseSale t s
  setSale t (some p) (s1.setSetAsides (s1.setAsides + p.setAside))

/-- Checks 5 to 7 of QUOTE: the account (R68). -/
def quoteAccount (t : Fin 8) (meter : Nat) : Judge (Nat × Account) := do
  let slot ← lookupMeter meter
  let a ← readAccount slot
  need (a.state == .active) .accountBlocked
  check (fun s => !busyForQuote t slot s) .accountBusy
  pure (slot, a)

/-- Check 8 of QUOTE: the ACTIVE bank, with tariff blocks in the account's class (R68). -/
def quoteBank (tariffClass : Nat) : Judge TariffBank := do
  readItem .activeBank
  match (← get).mem.sys.tariffs.active with
  | none => throw (.noTariff, .empty)
  | some bank => do
    need (!(bank.classOf tariffClass).blocks.isEmpty) .noTariff
    pure bank

/-- Checks 9 and 10 of QUOTE: the key plan (R60, R61). -/
def quotePlan (mode : SaleMode) (a : Account) : Judge KeyPlan := do
  match keyPlan mode a (← get).secure.slots with
  | .error r => throw (r, .empty)
  | .ok plan => pure plan

/-- Check 11 of QUOTE: the credit computation (R33), against the reserve without the terminal's own set-aside (R93). A
PAYMENT, which R33 gives the available reserve too, reads the reserve record and is refused when that is unreadable: the
model's choice (log 20). -/
def quoteCredit (t : Fin 8) (r : QuoteReq) (a : Account) (bank : TariffBank) : Judge CreditResult := do
  readItem .reserve
  let s ← get
  let others := dropBy 2000000000 s.setAsides (ownSetAside t s)
  let available := availableReserve s.mem.sys.reserve others
  match compute (creditInputs r (a.asOf s.month) bank available) with
  | .error e => throw e
  | .ok result => pure result

/-- QUOTE (R68). -/
def ownQuote (o : Owner) (r : QuoteReq) : Judge Answer := do
  check (fun s => !(s.term o.terminal).sale.any (fun p => p.state == .committing)) .saleBusy
  needClock
  needInService
  let x ← quoteAccount o.terminal r.meter
  let bank ← quoteBank x.2.tariffClass
  let plan ← quotePlan r.mode x.2
  let result ← quoteCredit o.terminal r x.2 bank
  check admitRoom .journalFull
  readItem .settings
  let s ← get
  let p := quotedSale r x.1 result plan bank.id s.mem.sys.settings.holdTime s
  modify (acceptQuote o.terminal p)
  pure (.now (.quoted (figuresOf p)))

/-- QUOTE. -/
def execQuote (s : State) : Host.Outcome State Fault Refusal := .next (takeRequest .quote parseQuote ownQuote s)

/-! ### CONFIRM (R73 to R75) -/

/-- What a stale sale differs in, the first of the three in their order (R74). -/
def staleCause (p : PendingSale) (s : State) : Option StaleCause :=
  if s.mem.sys.tariffs.active.map (·.id) ≠ some p.bankId then some .bank
  else if s.month ≠ p.monthIndex then some .month
  else if s.secure.counter ≠ p.keyCount then some .keyStore
  else none

/-- The record of a confirmed sale (R75). -/
def saleRecord (p : PendingSale) (tokens : List Token) : RecordBody :=
  match p.mode with
  | .sale =>
    .sale { slot := p.slot, meter := p.meter, tendered := p.tendered, tax := p.result.tax,
            recovered := p.result.recovered, purchased := p.result.purchased, allowance := p.result.allowance,
            carryBefore := p.result.carryBefore, carryAfter := p.result.carryAfter,
            monthBefore := p.result.monthBefore, tokenCount := p.plan.tokenCount, tokenSeq := p.plan.tokenSeq,
            keyChange := p.plan.keyChange, newGen := p.plan.newGen, revokeDelta := p.plan.revokeDelta,
            touched := p.result.touched, ciphers := tokens.map (·.cipher) }
  | .payment =>
    .payment { slot := p.slot, meter := p.meter, tendered := p.tendered, tax := p.result.tax,
               recovered := p.result.recovered }

/-- The tokens a confirm builds: those of the key plan in SALE mode, none in PAYMENT mode (R75 step 1). -/
def saleTokens (p : PendingSale) (slots : SMap KeySlot) : List Token :=
  match p.mode with
  | .sale => buildTokens p.plan p.meter p.result.tokenAmount slots
  | .payment => []

/-- A confirm is accepted (R75): the tokens are built, the record is queued, the sale is COMMITTING, its timer
stopped and the terminal's idle timer held. -/
def acceptConfirm (o : Owner) (p : PendingSale) (s : State) : State :=
  let tokens := saleTokens p s.secure.slots
  let s1 := queueRecord o (headNow o.terminal s) (saleRecord p tokens) .none true s
  holdIdle o.terminal
    (setSale o.terminal (some { p with state := .committing, tokens := tokens, journalSeq := some (nextSeq s), timer := none })
      s1)

/-- A sale found wanting at its confirm is released and the confirm refused (R73). -/
def releaseRefuse (t : Fin 8) (r : ResultCode) (body : ReplyBody) : Judge Unit := do
  modify (releaseSale t)
  throw (r, body)

/-- CONFIRM (R73). -/
def ownConfirm (o : Owner) (_ : Unit) : Judge Answer := do
  match ((← get).term o.terminal).sale with
  | none => throw (.noSale, .empty)
  | some p => do
    need (p.state == .quoted) .saleBusy
    needInService
    readItem .activeBank
    match staleCause p (← get) with
    | some c => releaseRefuse o.terminal .staleQuote (.stale c)
    | none => pure ()
    readItem .damageList
    if p.slot ∈ (← get).mem.sys.damage.slots then releaseRefuse o.terminal .accountDamaged .empty
    needAdmission
    modify (acceptConfirm o p)
    pure .later

/-- CONFIRM. -/
def execConfirm (s : State) : Host.Outcome State Fault Refusal := .next (takeRequest .confirm parseNothing ownConfirm s)

/-! ### CANCEL (R77) -/

/-- CANCEL (R77). -/
def ownCancel (o : Owner) (_ : Unit) : Judge Answer := do
  match ((← get).term o.terminal).sale with
  | none => throw (.noSale, .empty)
  | some p => do
    need (p.state == .quoted) .saleBusy
    modify (releaseSale o.terminal)
    pure (.now (.cancelled p.setAside))

/-- CANCEL. -/
def execCancel (s : State) : Host.Outcome State Fault Refusal := .next (takeRequest .cancel parseNothing ownCancel s)

/-! ### REISSUE and REVERSE, as far as their journal lookups (R84, R85, R87) -/

/-- The sequence lies within tail to head − 1 of the Journal Controller's copy. -/
def inRange (seq : Nat) (s : State) : Bool := s.copy.any (fun c => decide (c.tail ≤ seq) && decide (seq < c.head))

/-- Checks 2 to 6 of REISSUE and REVERSE (R85, R87). -/
def lookupAccount (t : Fin 8) (meter : Nat) : Judge (Nat × Account) := do
  check (fun s => (s.term t).lookup.isNone) .saleBusy
  needInService
  needClock
  let slot ← lookupMeter meter
  let a ← readAccount slot
  pure (slot, a)

/-- Check 7 of REISSUE and REVERSE: the last sale, present and not reversed. -/
def needLastSale (a : Account) : Judge LastSale := do
  match a.lastSale with
  | none => throw (.notAvailable, .empty)
  | some l => do
    need (!l.reversed) .alreadyReversed
    pure l

/-- Check 8 of REISSUE: the reissue count is below the limit. -/
def needReissue (l : LastSale) : Judge Unit := do
  readItem .settings
  check (fun s => decide (l.reissues < s.mem.sys.settings.reissueLimit)) .reissueLimit

/-- Check 8 of REVERSE: the window is open; 0 turns reversals off (R67, R165). -/
def needWindow (l : LastSale) : Judge Unit := do
  readItem .settings
  check (fun s => s.mem.sys.settings.reversalWindow != 0
    && decide (sinceTime s.clock.reading l.time ≤ s.mem.sys.settings.reversalWindow * 60)) .reversalWindow

/-- A journal lookup begins: it waits for the arbiter as the newest read operation (R84, R132). -/
def startLookup (o : Owner) (kind : VendKind) (slot seq : Nat) (s : State) : State :=
  let s1 := setLookup o.terminal
    (some (.vend { kind := kind, tag := o.tag, slot := slot, seq := seq, time := s.clock.reading, replyDue := true })) s
  s1.setReads (s1.reads ++ [o.terminal])

/-- REISSUE (R85). -/
def ownReissue (o : Owner) (meter : Nat) : Judge Answer := do
  let x ← lookupAccount o.terminal meter
  let l ← needLastSale x.2
  needReissue l
  check (fun s => !busy x.1 s) .accountBusy
  check (inRange l.seq) .notAvailable
  modify (startLookup o .reissue x.1 l.seq)
  pure .later

/-- REISSUE. -/
def execReissue (s : State) : Host.Outcome State Fault Refusal := .next (takeRequest .reissue parseMeter ownReissue s)

/-- REVERSE (R87). -/
def ownReverse (o : Owner) (meter : Nat) : Judge Answer := do
  let x ← lookupAccount o.terminal meter
  let l ← needLastSale x.2
  needWindow l
  need (!l.keyChange) .keyChangeVend
  check (fun s => s.month == monthOf l.time) .monthClosed
  check (fun s => !busy x.1 s) .accountBusy
  check (inRange l.seq) .notAvailable
  modify (startLookup o .reverse x.1 l.seq)
  pure .later

/-- REVERSE. -/
def execReverse (s : State) : Host.Outcome State Fault Refusal := .next (takeRequest .reverse parseMeter ownReverse s)

/-! ### The expiry of a sale timer and of an idle timer (R71, R117) -/

/-- The terminal's sale timer has run out. -/
def saleTimerOut (t : Fin 8) (s : State) : Bool :=
  (s.term t).sale.any (fun p => p.state == .quoted && p.timer == some 0)

/-- SALE_TIMER_EXPIRY (R71): the QUOTED sale is released. -/
def execSaleTimerExpiry (t : Fin 8) (s : State) : Host.Outcome State Fault Refusal :=
  .next (if s.powered && saleTimerOut t s then releaseSale t s else s)

/-- The terminal's idle timer has run out. -/
def idleOut (t : Fin 8) (s : State) : Bool := (s.term t).idle == .running 0

/-- A QUOTED sale of the terminal, if any, is released (R117). -/
def releaseQuoted (t : Fin 8) (s : State) : State :=
  if (s.term t).sale.any (fun p => p.state == .quoted) then releaseSale t s else s

/-- The shift becomes SUSPENDED, without a journal record (R117). -/
def suspendShift (t : Fin 8) (s : State) : State := writeTerm t (fun e => { e with shift := .suspended }) s

/-- IDLE_EXPIRY (R117): the shift is SUSPENDED, a QUOTED sale released and the timer stopped. No idle timer runs while
STARTING (R179). -/
def execIdleExpiry (t : Fin 8) (s : State) : Host.Outcome State Fault Refusal :=
  .next (if s.powered && !starting s && idleOut t s then setIdle t .stopped (releaseQuoted t (suspendShift t s)) else s)

end Sys2Proof.Machine
end

