-- ==== Sys2Proof/Machine/Terminals.lean ====
section
/-!
DEFINITION. Machine/Terminals.lean: SHIFT_OPEN, SHIFT_CLOSE, SHIFT_RESUME, SHIFT_READ, TERMINAL_SET (R107 to R114).
-/
namespace Sys2Proof.Machine

/-- The shift number after another; 65,535 is followed by 0 (R102). -/
def nextShiftNo (n : Nat) : Nat := (n + 1) % 65536

/-- The shift is in a state, with no shift change in flight. -/
def shiftIs (t : Fin 8) (st : ShiftState) (s : State) : Bool :=
  (s.mem.sys.terms.get t).shift == st && !shiftChange t s

/-! ### SHIFT_OPEN (R107, R109) -/

/-- The conditions under which terminal 0 opens its shift without a record (R109). -/
def unrecordedOpen (t : Fin 8) (s : State) : Bool :=
  t == 0 && (s.mode == .outOfService || admission s == some .journalFault || admission s == some .journalFull)

/-- An entry opened: totals zero, the shift number and the operator as given (R108, R109). -/
def TermEntry.opened (shiftNo operator : Nat) (e : TermEntry) : TermEntry :=
  { e with shift := .opened, operator := operator, shiftNo := shiftNo, totals := .zero }

/-- SHIFT_OPEN (R107, R109). The record's head carries the new shift number and the operator code carried. -/
def ownShiftOpen (o : Owner) (operator : Nat) : Judge Answer := do
  check (shiftIs o.terminal .closed) .terminalState
  let s ← get
  let no := nextShiftNo (s.mem.sys.terms.get o.terminal).shiftNo
  if unrecordedOpen o.terminal s then do
    modify (writeTerm o.terminal (TermEntry.opened no operator))
    modify (restartIdle o.terminal)
    pure (.now (.shiftOpenedUnrecorded no))
  else do
    needInService
    needAdmission
    modify (fun s => queueRecord o { headNow o.terminal s with shiftNo := no, operator := operator } .shiftOpen .none true s)
    pure .later

/-- SHIFT_OPEN. -/
def execShiftOpen (s : State) : Host.Outcome State Fault Refusal :=
  .next (takeRequest .shiftOpen parseOperator ownShiftOpen s)

/-! ### SHIFT_CLOSE (R110) -/

/-- The target's shift may be closed by the sending terminal (R110 check 2). -/
def closable (sender target : Fin 8) (s : State) : Bool :=
  shiftIs target .opened s || (target != sender && shiftIs target .suspended s)

/-- A queued record's effect on the target's totals that the close must not overtake (R110 check 3). -/
def vendQueued (target : Fin 8) (s : State) : Bool :=
  s.queue.any (fun e => e.record.head.terminal == target.val && (match e.record.body with
    | .reissue _ _ _ => true
    | .reversal _ => true
    | _ => false))

/-- The body of a SHIFT_CLOSE record (R110). -/
def closeBody (target : Fin 8) (e : TermEntry) : ShiftCloseBody :=
  { target := target, shiftNo := e.shiftNo, operator := e.operator, totals := e.totals }

/-- SHIFT_CLOSE (R110). -/
def ownShiftClose (o : Owner) (target : Fin 8) : Judge Answer := do
  needInService
  readItem (.terminal target)
  check (closable o.terminal target) .terminalState
  check (fun s => (s.term target).sale.isNone && (s.term target).lookup.isNone && !vendQueued target s) .saleBusy
  needAdmission
  let e := (← get).mem.sys.terms.get target
  modify (fun s => queueRecord o (headNow o.terminal s) (.shiftClose (closeBody target e)) .none true s)
  modify (holdIdle target)
  pure .later

/-- SHIFT_CLOSE. -/
def execShiftClose (s : State) : Host.Outcome State Fault Refusal :=
  .next (takeRequest .shiftClose parseTarget ownShiftClose s)

/-! ### SHIFT_RESUME (R112) -/

/-- SHIFT_RESUME (R112): whatever the service state. -/
def ownShiftResume (o : Owner) (operator : Nat) : Judge Answer := do
  check (shiftIs o.terminal .suspended) .terminalState
  check (fun s => (s.mem.sys.terms.get o.terminal).operator == operator) .operatorMismatch
  modify (writeTerm o.terminal (fun e => { e with shift := .opened }))
  modify (restartIdle o.terminal)
  let e := (← get).mem.sys.terms.get o.terminal
  pure (.now (.shiftResumed e.shiftNo e.operator))

/-- SHIFT_RESUME. -/
def execShiftResume (s : State) : Host.Outcome State Fault Refusal :=
  .next (takeRequest .shiftResume parseOperator ownShiftResume s)

/-! ### SHIFT_READ (R113) -/

/-- A pending sale as SHIFT_READ gives it. -/
def viewSale (p : PendingSale) : SaleView :=
  { state := p.state, slot := p.slot, meter := p.meter, mode := p.mode, tokenAmount := p.result.tokenAmount,
    setAside := p.setAside, expiryTime := p.expiryTime }

/-- An idle timer with the whole seconds left (R113). -/
def idleSeconds : IdleTimer → IdleTimer
  | .stopped => .stopped
  | .running left => .running (left / 1000)
  | .held => .held

/-- What a SHIFT_READ gives of its target (R113). -/
def shiftReply (t : Fin 8) (s : State) : ShiftReply :=
  { role := roleFor t s
    shift := (s.mem.sys.terms.get t).shift
    operator := (s.mem.sys.terms.get t).operator
    shiftNo := (s.mem.sys.terms.get t).shiftNo
    lastApplied := (s.mem.sys.terms.get t).lastApplied
    totals := (s.mem.sys.terms.get t).totals
    changeInFlight := shiftChange t s
    sale := (s.term t).sale.map viewSale
    lookupInFlight := (s.term t).lookup.isSome
    idle := idleSeconds (s.term t).idle }

/-- SHIFT_READ (R113). -/
def ownShiftRead (_ : Owner) (target : Fin 8) : Judge Answer := do
  needInService
  readItem (.terminal target)
  pure (.now (.shift (shiftReply target (← get))))

/-- SHIFT_READ. -/
def execShiftRead (s : State) : Host.Outcome State Fault Refusal :=
  .next (takeRequest .shiftRead parseTarget ownShiftRead s)

/-! ### TERMINAL_SET (R114) -/

/-- TERMINAL_SET (R114). -/
def ownTerminalSet (o : Owner) (r : Fin 8 × Role) : Judge Answer := do
  need (r.1 != 0) .notPermitted
  needInService
  readItem (.terminal r.1)
  check (shiftIs r.1 .closed) .terminalState
  journaled o (.terminal r.1 r.2) .none

/-- TERMINAL_SET. -/
def execTerminalSet (s : State) : Host.Outcome State Fault Refusal :=
  .next (takeRequest .terminalSet parseTerminalSet ownTerminalSet s)

end Sys2Proof.Machine
end

