-- ==== Sys2Proof/Machine/Complete.lean ====
section
/-!
DEFINITION. Machine/Complete.lean: completion: the effects of each kind of record on the blocks that own them, each
under its own guard (R121, R134), the reply of each kind, and the fault answers (R135).
-/
namespace Sys2Proof.Machine

/-- A reply as its owner forms it: a result code and a body. -/
abbrev Spoken := ResultCode × ReplyBody

/-! ### Accounts (R5, R6, R149) -/

/-- What became of a completion's account write: made, passed over by the guard, or withheld because the slot is
damaged (R6, R149). -/
inductive Reached where
  | written
  | passedOver
  | withheld
deriving DecidableEq, Repr, Inhabited

/-- An account is written under the guard of its last applied (R6): its month counters are first brought to the
record's month (R5). A slot in the damage list, or one that reads uncorrectable, is left unwritten (R149). -/
def applyAccount (slot : Nat) (h : RecordHead) (f : Account → Account) (s : State) : Reached × State :=
  let s0 := touchItem .damageList s
  if slot ∈ (damageView s0).slots then (.withheld, s0)
  else match slotRecord slot s0 with
    | none => (.withheld, readSlot slot s0)
    | some a =>
      let s1 := readSlot slot s0
      if a.lastApplied < h.seq then
        (.written, writeSlot slot { f (a.bringTo (monthOf h.time)) with lastApplied := h.seq } s1)
      else (.passedOver, s1)

/-- The words an index change reads, and writes, that are not the header's (R10, R147; log 14). -/
def changeWord (old new : SMap IndexEntry) (a : Nat) : Bool :=
  inIndex a && !Config.isIndexHeader a && Config.changeReads old new a

/-- The meter index is changed (R10): its words are read; a change that meets an uncorrectable entry word is left
unmade, with the indication set (R147). The count follows the change; where it would pass below 0, after the header was
written anew with a count of 0, the rules give no count and it takes a free value (log 12, log 26). That a search-table
word found uncorrectable leaves the change unmade too is the model's choice (log 26). -/
def changeIndex (f : SMap IndexEntry → SMap IndexEntry) (s : State) : State :=
  let old := s.mem.index.entries
  let s1 := readWords (fun a => headerWord a || changeWord old (f old) a) s
  if hasBad (changeWord old (f old)) s then s1
  else (freshWords (fun a => headerWord a || changeWord old (f old) a) s1).setIndex { s1.mem.index with
    entries := f old, count := dropBy 24576 (s1.mem.index.count + (f old).length) old.length }

/-- An index change made only when the account it concerns was written (R10). -/
def indexWhen (r : Reached × State) (f : SMap IndexEntry → SMap IndexEntry) : State :=
  match r.1 with
  | .written => changeIndex f r.2
  | _ => r.2

/-- The reply of an ACCOUNT record other than LOAD (R13, R149). -/
def accountSpoken (r : Reached) (body : ReplyBody) : Spoken :=
  match r with
  | .withheld => (.accountDamaged, .empty)
  | _ => (.ok, body)

/-- The record a CREATE writes (R15). -/
def newRecord (n : NewAccount) (month : Nat) : Account :=
  { state := .active, meter := n.meter, area := n.area, keyGen := n.gen, forceKeyChange := false,
    tariffClass := n.tariffClass, allowanceFlag := n.allowanceFlag, issueSeq := 0, counterMonth := month,
    monthUnits := 0, allowanceIssued := 0, debt := n.debt, rate := n.rate, carry := 0, maxPerSale := n.maxPerSale,
    lastSale := none, revokePending := none, lastApplied := 0 }

/-- The changes of an EDIT (R17). -/
def AccountEdit.on (e : AccountEdit) (a : Account) : Account :=
  { a with tariffClass := e.tariffClass.getD a.tariffClass, allowanceFlag := e.allowanceFlag.getD a.allowanceFlag,
           debt := e.debt.getD a.debt, rate := e.rate.getD a.rate, maxPerSale := e.maxPerSale.getD a.maxPerSale,
           state := e.state.getD a.state }

/-- The changes of a REPLACE (R20). -/
def replaceOn (meter area gen : Nat) (a : Account) : Account :=
  { a with meter := meter, area := area, keyGen := gen, forceKeyChange := false, issueSeq := 0, revokePending := none,
           lastSale := none }

/-- The entries without any that points to a slot: those of one kind, or all (R10, R153). -/
def dropEntries (slot : Nat) (liveOnly : Bool) (m : SMap IndexEntry) : SMap IndexEntry :=
  SMap.keep (fun _ e => !(e.slot == slot && (e.kind == .live || !liveOnly))) m

/-- The entries a LOAD leaves (R10, R153). -/
def loadEntries (slot : Nat) (image : Account) (m : SMap IndexEntry) : SMap IndexEntry :=
  if image.state = .free then dropEntries slot false m
  else SMap.put image.meter { slot := slot, kind := .live } (dropEntries slot true m)

/-- A slot leaves the damage list (R146, R153). -/
def leaveDamage (slot : Nat) (s : State) : State :=
  writeItem .damageList (fun a => { a with damage := { a.damage with slots := a.damage.slots.filter (· != slot) } }) s

/-- ACCOUNT LOAD (R153): the eight words are read; the guard applies when all are whole; the image is written, the
slot leaves the damage list, the index follows. The reply tells whether the slot was listed and what the list holds;
listed is judged before the eight words are read, the model's choice (log 43). -/
def applyLoad (slot : Nat) (image : Account) (h : RecordHead) (s : State) : Spoken × State :=
  let s0 := touchItem .damageList s
  let listed := decide (slot ∈ (damageView s0).slots)
  let held := slotRecord slot s0
  let s1 := readSlot slot s0
  let s2 :=
    if held.all (fun a => decide (a.lastApplied < h.seq)) then
      changeIndex (loadEntries slot image) (leaveDamage slot (writeSlot slot { image with lastApplied := h.seq } s1))
    else s1
  ((.ok, .loaded slot listed (damageView s2).slots.length), s2)

/-- The effects and the reply of an ACCOUNT record (R15 to R21, R153). -/
def applyAccountRecord (h : RecordHead) (a : AccountRecord) (s : State) : Spoken × State :=
  match a with
  | .create slot n =>
    let r := applyAccount slot h (fun _ => newRecord n (monthOf h.time)) s
    (accountSpoken r.1 (.created slot), indexWhen r (SMap.put n.meter { slot := slot, kind := .live }))
  | .edit slot _ e =>
    let r := applyAccount slot h e.on s
    (accountSpoken r.1 .empty, r.2)
  | .close slot _ =>
    let r := applyAccount slot h (fun _ => Account.blank 0) s
    (accountSpoken r.1 .empty, indexWhen r (dropEntries slot false))
  | .replace slot old meter area gen =>
    let r := applyAccount slot h (replaceOn meter area gen) s
    (accountSpoken r.1 .empty,
      indexWhen r (fun m => SMap.put meter { slot := slot, kind := .live }
        (SMap.put old { slot := slot, kind := .retired h.time } m)))
  | .load slot image => applyLoad slot image h s
  | .rekey slot _ =>
    let r := applyAccount slot h (fun b => { b with forceKeyChange := true }) s
    (accountSpoken r.1 .empty, r.2)

/-! ### Terminal entries and shift totals (R103, R115) -/

/-- An entry is written under the guard of its last applied (R103). -/
def applyTerm (t : Fin 8) (seq : Nat) (f : TermEntry → TermEntry) (s : State) : State :=
  writeTerm t (fun e => if e.lastApplied < seq then { f e with lastApplied := seq } else e) s

/-- The terminal a record's head names. A number above 7, in a record read from bytes, names none, and the record reaches
no terminal's entry: the model's choice (log 21). -/
def headTerminal (h : RecordHead) : Option (Fin 8) := if p : h.terminal < 8 then some ⟨h.terminal, p⟩ else none

/-- A shift total increased; it saturates (R115). -/
def totalUp (a b : Nat) : Nat := satAdd 4294967295 a b

/-- The totals of the record's terminal are increased, under the guard and when the shift numbers agree (R115). -/
def applyTotals (h : RecordHead) (f : ShiftTotals → ShiftTotals) (s : State) : State :=
  match headTerminal h with
  | none => s
  | some t => applyTerm t h.seq (fun e => if e.shiftNo = h.shiftNo then { e with totals := f e.totals } else e) s

/-- What a SALE adds (R80, R115). -/
def saleTotals (b : SaleBody) (t : ShiftTotals) : ShiftTotals :=
  { t with sales := totalUp t.sales 1, tokens := totalUp t.tokens b.tokenCount,
           tendered := totalUp t.tendered b.tendered, tax := totalUp t.tax b.tax,
           recovered := totalUp t.recovered b.recovered, sold := totalUp t.sold b.purchased,
           allowance := totalUp t.allowance b.allowance }

/-- What a PAYMENT adds (R81, R115). -/
def paymentTotals (b : PaymentBody) (t : ShiftTotals) : ShiftTotals :=
  { t with payments := totalUp t.payments 1, tendered := totalUp t.tendered b.tendered, tax := totalUp t.tax b.tax,
           recovered := totalUp t.recovered b.recovered }

/-- What a REVERSAL adds (R89, R115). -/
def reversalTotals (b : ReversalBody) (t : ShiftTotals) : ShiftTotals :=
  { t with reversals := totalUp t.reversals 1, reversed := totalUp t.reversed (b.purchased + b.allowance) }

/-! ### The reserve (R92, R94, R95, R97) -/

/-- The reserve record is written whole under the guard of its last applied (R92). -/
def applyReserve (seq : Nat) (f : ReserveRecord → ReserveRecord) (s : State) : State :=
  writeItem .reserve (fun a => if a.reserve.lastApplied < seq then
    { a with reserve := { f a.reserve with lastApplied := seq } } else a) s

/-- A sale's debit (R94). -/
def debit (n : Nat) (r : ReserveRecord) : ReserveRecord :=
  { r with balance := dropBy 2000000000 r.balance n, totalIssued := r.totalIssued + n }

/-- A reversal's credit (R95). -/
def creditBack (n : Nat) (r : ReserveRecord) : ReserveRecord :=
  { r with balance := r.balance + n, totalIssued := dropBy 281474976710655 r.totalIssued n }

/-- A grant (R97). -/
def addGrant (v : Voucher) (r : ReserveRecord) : ReserveRecord :=
  { r with balance := r.balance + v.amount, totalGranted := r.totalGranted + v.amount, lastVoucher := v.number }

/-- The voucher floor is raised to a number it is below (R97). -/
def raiseFloor (n : Nat) (s : State) : State :=
  s.setSecure { s.secure with voucherFloor := max s.secure.voucherFloor n }

/-! ### Sales, payments, reissues, reversals (R78 to R82, R86, R89) -/

/-- The account after a SALE (R63, R78). -/
def saleOn (h : RecordHead) (b : SaleBody) (a : Account) : Account :=
  { a with debt := dropBy 99999999 a.debt b.recovered
           carry := b.carryAfter
           monthUnits := b.monthBefore + b.purchased
           allowanceIssued := a.allowanceIssued + b.allowance
           keyGen := if b.keyChange then b.newGen else a.keyGen
           issueSeq := if b.keyChange then 1 else b.tokenSeq
           forceKeyChange := if b.keyChange then false else a.forceKeyChange
           revokePending := none
           lastSale := some { seq := h.seq, time := h.time, tokenSeq := b.tokenSeq, reversed := false,
                              keyChange := b.keyChange, reissues := 0 } }

/-- The pending sale that a record completes or ends: the COMMITTING sale of its terminal that holds its sequence. -/
def saleOf? (h : RecordHead) (s : State) : Option (Fin 8 × PendingSale) :=
  match headTerminal h with
  | none => none
  | some t =>
    match (s.term t).sale with
    | some p => if p.state = .committing ∧ p.journalSeq = some h.seq then some (t, p) else none
    | none => none

/-- The pending sale ends with its record: its set-aside leaves the sum (R80, R82). -/
def endSale (h : RecordHead) (s : State) : State :=
  match saleOf? h s with
  | some x => releaseSale x.1 s
  | none => s

/-- The reply to the confirm of a sale (R80). -/
def soldSpoken (h : RecordHead) (b : SaleBody) (s : State) : Spoken :=
  match saleOf? h s with
  | some x => (.ok, .sold (figuresOf x.2) h.seq b.tokenSeq b.revokeDelta x.2.tokens)
  | none => (.ok, .empty)

/-- The effects and the reply of a SALE record (R78 to R80, R94). -/
def applySale (h : RecordHead) (b : SaleBody) (s : State) : Spoken × State :=
  let s1 := (applyAccount b.slot h (saleOn h b) s).2
  let s2 := applyReserve h.seq (debit (b.purchased + b.allowance)) s1
  let s3 := applyTotals h (saleTotals b) s2
  (soldSpoken h b s3, endSale h s3)

/-- The reply to the confirm of a payment (R81). -/
def paidSpoken (h : RecordHead) (b : PaymentBody) (s : State) : Spoken :=
  match saleOf? h s with
  | some x => (.ok, .paid b.tendered b.tax b.recovered x.2.result.debtAfter)
  | none => (.ok, .empty)

/-- The effects and the reply of a PAYMENT record (R81). -/
def applyPayment (h : RecordHead) (b : PaymentBody) (s : State) : Spoken × State :=
  let s1 := (applyAccount b.slot h (fun a => { a with debt := dropBy 99999999 a.debt b.recovered }) s).2
  let s2 := applyTotals h (paymentTotals b) s1
  (paidSpoken h b s2, endSale h s2)

/-- The account after a REISSUE (R86). -/
def reissueOn (a : Account) : Account :=
  { a with lastSale := a.lastSale.map (fun l => { l with reissues := satAdd 9 l.reissues 1 }) }

/-- The reply to a REISSUE: the ciphertexts held with the queue entry (R86). -/
def reissueSpoken (link : Nat) (figures : Figures) : Spoken :=
  match figures with
  | .reissue seq ciphers => (.ok, .reissued link seq (ciphers.map tokenOf))
  | _ => (.ok, .empty)

/-- The effects and the reply of a REISSUE record (R86). -/
def applyReissue (h : RecordHead) (slot link : Nat) (figures : Figures) (s : State) : Spoken × State :=
  let s1 := (applyAccount slot h reissueOn s).2
  (reissueSpoken link figures, applyTotals h (fun t => { t with reissues := totalUp t.reissues 1 }) s1)

/-- The account after a REVERSAL (R89). -/
def reversalOn (b : ReversalBody) (a : Account) : Account :=
  { a with debt := satAdd 99999999 a.debt b.recovered
           monthUnits := dropBy 16777215 a.monthUnits b.purchased
           allowanceIssued := dropBy 100000 a.allowanceIssued b.allowance
           carry := b.carryBefore
           revokePending := some b.tokenSeq
           lastSale := a.lastSale.map (fun l => { l with reversed := true }) }

/-- The debt a REVERSE's reply gives: the account's as it stands after the completion, or a free value when the
account could not be read (log 11). -/
def debtAfter (slot : Nat) (r : Reached) (s : State) : Nat × State :=
  match r with
  | .withheld => (Config.unreadDebt s.draws % 100000000, s.setDraws (s.draws + 1))
  | _ => ((s.mem.accounts.read slot).debt, s)

/-- The effects and the reply of a REVERSAL record (R89, R95). -/
def applyReversal (h : RecordHead) (b : ReversalBody) (s : State) : Spoken × State :=
  let r := applyAccount b.slot h (reversalOn b) s
  let d := debtAfter b.slot r.1 r.2
  let s1 := applyReserve h.seq (creditBack (b.purchased + b.allowance)) d.2
  ((.ok, .reversed b.backLink b.tendered (b.purchased + b.allowance) d.1), applyTotals h (reversalTotals b) s1)

/-- The effects and the reply of a GRANT record (R97): the floor is raised whether or not the guard applied it. With the
reserve record unreadable, the balance and the total granted of the reply are free values (log 11). -/
def applyGrant (h : RecordHead) (v : Voucher) (s : State) : Spoken × State :=
  let s1 := raiseFloor v.number (applyReserve h.seq (addGrant v) s)
  ((.ok, .granted v.number v.amount (reserveView s1).balance (reserveView s1).totalGranted), s1)

/-! ### Shifts and roles (R108, R111, R114) -/

/-- The effects and the reply of a SHIFT_OPEN record: OPEN in service, SUSPENDED at roll-forward (R108). With the
terminal's entry unreadable nothing is written, and the reply is as if it were: the model's choice (log 24), here and for
SHIFT_CLOSE and TERMINAL records. -/
def applyShiftOpen (inService : Bool) (h : RecordHead) (s : State) : Spoken × State :=
  match headTerminal h with
  | none => ((.ok, .empty), s)
  | some t =>
    ((.ok, .shiftOpened h.shiftNo),
      applyTerm t h.seq (fun e =>
        { TermEntry.opened h.shiftNo h.operator e with shift := if inService then .opened else .suspended }) s)

/-- The effects and the reply of a SHIFT_CLOSE record (R111; log 24). -/
def applyShiftClose (h : RecordHead) (b : ShiftCloseBody) (s : State) : Spoken × State :=
  ((.ok, .shiftClosed b), applyTerm b.target h.seq (fun e => { e with shift := .closed }) s)

/-- The effects and the reply of a TERMINAL record (R114; log 24). -/
def applyTerminal (h : RecordHead) (target : Fin 8) (role : Role) (s : State) : Spoken × State :=
  ((.ok, .terminalSet target role), applyTerm target h.seq (fun e => { e with role := role }) s)

/-! ### The key store (R49, R51) -/

/-- The key store after a KEY record that its guard lets through (R49, R51). A load under a set TAMPER latch leaves its
slot EMPTY; a record whose slot no longer holds its area and generation changes no slot; in neither does the counter
move. A record read from bytes is applied with the slot, area and generation it reads as, even outside their ranges: the
model's choice (log 21). -/
def keyOn (seq : Nat) (k : KeyBody) (m : SecureMemory) : SecureMemory :=
  let m1 := { m with keyLastApplied := seq }
  match k.action with
  | .load =>
    if m.tamperLatch then m1
    else { m1 with
      slots := SMap.put k.slot
        { state := .active, area := k.area, gen := k.gen, key := openKeyBlock m.factory.transportKey k.keyBlock } m.slots
      counter := nextCounter m.counter }
  | .retire =>
    match SMap.find k.slot m.slots with
    | some x =>
      if x.area = k.area ∧ x.gen = k.gen then
        { m1 with slots := SMap.put k.slot { x with state := .retired } m.slots, counter := nextCounter m.counter }
      else m1
    | none => m1
  | .erase =>
    match SMap.find k.slot m.slots with
    | some x =>
      if x.area = k.area ∧ x.gen = k.gen then
        { m1 with slots := SMap.erase k.slot m.slots, counter := nextCounter m.counter }
      else m1
    | none => m1

/-- The effects and the reply of a KEY record (R48 to R51). -/
def applyKey (h : RecordHead) (k : KeyBody) (s : State) : Spoken × State :=
  ((.ok, match k.action with
    | .load => .keyLoaded k.slot
    | .retire => .keyRetired .retire
    | .erase => .keyRetired .erase),
    if s.secure.keyLastApplied < h.seq then s.setSecure (keyOn h.seq k s.secure) else s)

/-! ### Tariffs, clock, settings (R28, R162, R178) -/

/-- The banks after a TARIFF record (R28). -/
def tariffOn (seq reading : Nat) (b : TariffBank) (effective : Nat) (t : TariffStore) : TariffStore :=
  if reading < effective then { t with pending := some (b, effective), lastId := b.id, lastApplied := seq }
  else { t with active := some b, lastId := b.id, lastApplied := seq }

/-- The alarm is set to a PENDING bank's effective time, if there is one (R28, R184). -/
def alarmFromPending (t : TariffStore) (s : State) : State :=
  match t.pending with
  | some x => setAlarm x.2 s
  | none => s

/-- The alarm is set to a PENDING bank that can be read. -/
def alarmFromMemory (s : State) : State :=
  let s1 := touchItem .pendingBank s
  if itemBad .pendingBank s then s1 else alarmFromPending s1.mem.sys.tariffs s1

/-- A TARIFF record installs its bank, with the last bank id and the tariff last applied, in one write, and the alarm is
set to the PENDING bank installed or kept (R28). With the bank it replaces unreadable the one write is left unmade whole:
the model's choice (log 49). -/
def installBank (seq : Nat) (b : TariffBank) (effective : Nat) (s : State) : State :=
  let reading := s.clock.reading
  let place : SysItem := if reading < effective then .pendingBank else .activeBank
  let s1 := writeItems [place, .bankIds]
    (fun a => { a with tariffs := tariffOn seq reading b effective a.tariffs }) s
  if itemBad place s then s1 else alarmFromMemory s1

/-- The effects and the reply of a TARIFF record (R28). When no bank is installed for an unreadable item, the reply still
says ACTIVE or PENDING by the effective time: the model's choice (log 24). -/
def applyTariff (h : RecordHead) (b : TariffBank) (effective : Nat) (s : State) : Spoken × State :=
  let s1 := touchItem .bankIds s
  ((.ok, .tariffLoaded b.id (decide (effective ≤ s.clock.reading))),
    if itemBad .bankIds s then s1
    else if s1.mem.sys.tariffs.lastApplied < h.seq then installBank h.seq b effective s1
    else s1)

/-- The reading a CLOCK record moves the clock to: the reading plus the difference, not before the current month, not
beyond the last second (R162). -/
def clockResult (reading new time : Nat) : Nat :=
  let moved := reading + new - time
  let kept := if monthOf moved < monthOf reading then firstOfMonth (monthOf reading) else moved
  min lastReading kept

/-- The clock moves from one reading to another past the alarm (R162, R164). -/
def passesAlarm (before after : Nat) (alarm : Option Nat) : Bool :=
  alarm.any (fun a => decide (before < a) && decide (a ≤ after))

/-- The effects and the reply of a CLOCK record (R162). -/
def applyClock (h : RecordHead) (new : Nat) (s : State) : Spoken × State :=
  let before := s.clock.reading
  if s.clock.lastApplied < h.seq then
    let after := clockResult before new h.time
    let raised := passesAlarm before after s.clock.alarm
    ((.ok, .clockSet before after (monthOf after) (monthOf after != monthOf before) raised),
      s.setClock { s.clock with reading := after, state := .running, lastApplied := h.seq,
                                tariffRaised := s.clock.tariffRaised || raised })
  else ((.ok, .clockSet before before (monthOf before) false false), s)

/-- The settings with those present in a record replaced (R178). -/
def SettingsChange.on (c : SettingsChange) (t : Settings) : Settings :=
  { holdTime := c.holdTime.getD t.holdTime, idleLimit := c.idleLimit.getD t.idleLimit,
    reversalWindow := c.reversalWindow.getD t.reversalWindow, reissueLimit := c.reissueLimit.getD t.reissueLimit,
    scrubInterval := c.scrubInterval.getD t.scrubInterval, reserveLow := c.reserveLow.getD t.reserveLow,
    journalNearFull := c.journalNearFull.getD t.journalNearFull }

/-- The scrub interval timer for an interval; none for 0 (R150). -/
def scrubTimer (interval : Nat) : Option Nat := if interval = 0 then none else some interval

/-- The scrub timer restarts at the new interval when a SETTINGS record changes it; it does not run while STARTING
(R151). -/
def restartScrub (c : SettingsChange) (s : State) : State :=
  match c.scrubInterval with
  | some n => if starting s then s else s.setScrub { s.scrub with timer := scrubTimer n }
  | none => s

/-- The settings written under the guard of the settings last applied (R178). With the item unreadable nothing is
written, and the reply is as if it were: the model's choice (log 24). -/
def applySettings (h : RecordHead) (c : SettingsChange) (s : State) : State :=
  let s1 := touchItem .settings s
  if itemBad .settings s then s1
  else if s1.mem.sys.settingsApplied < h.seq then
    restartScrub c (storeItems [.settings]
      (fun a => { a with settings := c.on a.settings, settingsApplied := h.seq }) s1)
  else s1

/-- One setting in the reply (R178). -/
def settingAnswer (requested applied : Option Nat) : Option SettingAnswer :=
  match requested, applied with
  | some r, some a => some { requested := r, applied := a, clamped := decide (r ≠ a) }
  | _, _ => none

/-- The reply to a SETTINGS_SET (R178). -/
def settingsSpoken (figures : Figures) (c : SettingsChange) : Spoken :=
  match figures with
  | .settings r =>
    (.ok, .settingsSet [settingAnswer r.holdTime c.holdTime, settingAnswer r.idleLimit c.idleLimit,
      settingAnswer r.reversalWindow c.reversalWindow, settingAnswer r.reissueLimit c.reissueLimit,
      settingAnswer r.scrubInterval c.scrubInterval, settingAnswer r.reserveLow c.reserveLow,
      settingAnswer r.journalNearFull c.journalNearFull])
  | _ => (.ok, .empty)

/-! ### INIT and the end of start-up (R184, R187) -/

/-- Start-up ends (R184): the alarm is set from the PENDING bank, the Tariff Unit takes its own TARIFF_EFFECTIVE, the
scrubber starts at position 0, and the module goes IN_SERVICE, or OUT_OF_SERVICE when a system fault address is present
(R179). -/
def endStartUp (s : State) : State :=
  let s2 := touchItem .settings (takeTariffEffective (alarmFromMemory s))
  let s3 := s2.setScrub { pos := 0, timer := scrubTimer (settingsView s2).scrubInterval }
  (freeBus s3).setMode (if s3.sysFault.isSome then .outOfService else .inService)

/-- Whether an INIT record is applied: its sequence is greater than the init sequence (R187). A signature that cannot be
read, or that reads without its fixed pattern, holds none to compare with, and the record is applied: the model's choice
(log 32). -/
def initApplies (seq : Nat) (s : State) : Bool :=
  itemBad .signature s || s.mem.sys.signature.all (fun n => decide (n < seq))

/-- The volatile part of every terminal's entry discarded: pending sales, lookups and idle timers (R118, R187). -/
def dropTerminals (s : State) : State :=
  ((s.setTerms (.all8 .idleNone)).setSetAsides 0).setReads []

/-- The initialisation of an INIT record (R187): account memory is written afresh with its sequence, the pointers as
they stand past it, the clock and the key store kept but for their last applied. The write queue is empty after it
(R141): an entry that a lookup queued behind the INIT is discarded like the lookups still waiting (log 31). -/
def initialiseAll (seq : Nat) (s : State) : State :=
  let head := (s.copy.map (·.head)).getD (seq + 1)
  let tail := (s.copy.map (·.tail)).getD (seq + 1)
  let s1 := dropTerminals ((s.setMem (AccountMemory.initial seq s.secure.voucherFloor head tail)).setQueue [])
  let s2 := s1.setCopy (some { head := head, tail := tail, mark := none })
  let s3 := s2.setClock { s2.clock with lastApplied := seq, alarm := none, tariffRaised := false }
  let s4 := s3.setSecure { s3.secure with keyLastApplied := seq }
  s4.setSysFault none

/-- INITIALISE ends without an initialisation: the module returns to the state it held, the idle timer of each OPEN
shift and the scrub timer are started again (R186). -/
def returnFromInit (s : State) : State :=
  match s.init with
  | none => s
  | some i =>
    let back := if i.wasInService && s.sysFault.isNone then ModuleMode.inService else .outOfService
    let s1 := (s.setMode back).setInit none
    let s2 := allTerminals.foldl (fun acc t => restartIdle t acc) s1
    let s3 := touchItem .settings s2
    s3.setScrub { s3.scrub with timer := scrubTimer (settingsView s3).scrubInterval }

/-- The effects and the reply of an INIT record (R187): applied, it ends start-up; otherwise it is passed over, and an
INITIALISE that waited for it ends. -/
def applyInit (h : RecordHead) (s : State) : Spoken × State :=
  ((.ok, .initialised h.seq (s.init.bind (·.released))),
    let s1 := touchItem .signature s
    if initApplies h.seq s1 then (endStartUp (initialiseAll h.seq s1)).setInit none else returnFromInit s1)

/-! ### The effects of a record (R121, R134 step 2) -/

/-- The effects of a record on the blocks R121 names, and the reply its owner forms. `inService` tells a completion with
an entry from a roll-forward; `figures` are the entry's. -/
def applyRecord (inService : Bool) (figures : Figures) (r : Record) (s : State) : Spoken × State :=
  match r.body with
  | .init _ => applyInit r.head s
  | .void _ => ((.ok, .empty), s)
  | .sale b => applySale r.head b s
  | .payment b => applyPayment r.head b s
  | .reissue slot _ link => applyReissue r.head slot link figures s
  | .reversal b => applyReversal r.head b s
  | .grant v => applyGrant r.head v s
  | .shiftOpen => applyShiftOpen inService r.head s
  | .shiftClose b => applyShiftClose r.head b s
  | .account a => applyAccountRecord r.head a s
  | .key k => applyKey r.head k s
  | .tariff b eff => applyTariff r.head b eff s
  | .clock new => applyClock r.head new s
  | .settings c => (settingsSpoken figures c, applySettings r.head c s)
  | .terminal t role => applyTerminal r.head t role s
  | .other _ => ((.ok, .empty), s)

/-- The request kind whose reply a record's completion owes. -/
def RecordBody.kind : RecordBody → Kind
  | .sale _ => .confirm
  | .payment _ => .confirm
  | .reissue _ _ _ => .reissue
  | .reversal _ => .reverse
  | .grant _ => .grant
  | .shiftOpen => .shiftOpen
  | .shiftClose _ => .shiftClose
  | .account (.create _ _) => .accountCreate
  | .account (.edit _ _ _) => .accountEdit
  | .account (.close _ _) => .accountClose
  | .account (.replace _ _ _ _ _) => .meterReplace
  | .account (.load _ _) => .accountLoad
  | .account (.rekey _ _) => .rekey
  | .key k => match k.action with
    | .load => .keyLoad
    | _ => .keyRetire
  | .tariff _ _ => .tariffLoad
  | .clock _ => .clockSet
  | .settings _ => .settingsSet
  | .terminal _ _ => .terminalSet
  | .init _ => .initialise
  | .void _ => .journalRetry
  | .other _ => .status

/-- The terminal whose idle timer a record's entry holds while it is queued: that of a sale, and that of a shift change
(R116). -/
def RecordBody.holder (h : RecordHead) (b : RecordBody) : Option (Fin 8) :=
  match b with
  | .sale _ => headTerminal h
  | .payment _ => headTerminal h
  | .shiftOpen => headTerminal h
  | .shiftClose c => some c.target
  | .terminal t _ => some t
  | _ => none

/-- The hold that a record's entry had on an idle timer ends, and the timer is restarted where the shift is OPEN
(R116). -/
def endHold (r : Record) (s : State) : State :=
  match r.body.holder r.head with
  | some t => restartIdle t s
  | none => s

/-- The reply an entry owes enters the transmit reply queue, or is discarded (R126, R134 step 4). -/
def answerEntry (e : QueueEntry) (spoken : Spoken) (s : State) : State :=
  match e.owner with
  | some o => replyIf e.replyDue e.record.body.kind.byte o.terminal o.tag spoken.1 spoken.2 s
  | none => s

/-- The completion of the entry at the front of the queue (R134): the head is raised, the effects applied, the entry
leaves, its reply enters, the controller is free. -/
def completeEntry (e : QueueEntry) (s : State) : State :=
  let r := applyRecord true e.figures e.record (raiseHead s)
  let s1 := freeBus (r.2.setQueue r.2.queue.tail)
  answerEntry e r.1 (endHold e.record s1)

/-! ### Fault answers (R82, R135) -/

/-- What the owner of an entry does at its fault answer (R82, R108, R111, R114, R186). -/
def faultOwner (e : QueueEntry) (s : State) : State :=
  match e.record.body with
  | .sale _ => endHold e.record (endSale e.record.head s)
  | .payment _ => endHold e.record (endSale e.record.head s)
  | .init _ => returnFromInit s
  | _ => endHold e.record s

/-- An entry leaves the queue and is answered with JOURNAL_FAULT (R135 step 2). The body is empty, an INIT's with a
released sequence too: the model's choice (log 31). -/
def faultEntry (s : State) (e : QueueEntry) : State :=
  answerEntry e (.journalFault, .empty) (faultOwner e (s.setQueue s.queue.tail))

/-- A fault of a record write at a sequence and a position: the mark and the cause (R135 step 1). -/
def markFault (seq pos : Nat) (cause : FaultCause) (s : State) : State :=
  setCause cause (setMark (some { seq := seq, pos := pos }) s)

/-- A write fault of the entry being written (R135): every entry is answered, the queue is empty, the controller
free. -/
def writeFault (w : BusWrite) (cause : FaultCause) (s : State) : State :=
  let s1 := freeBus (markFault w.record.head.seq w.pos cause s)
  s1.queue.foldl faultEntry s1

end Sys2Proof.Machine
end

