-- ==== Sys2Proof/Machine/Journal.lean ====
section
/-!
DEFINITION. Machine/Journal.lean: the journal requests JOURNAL_READ, JOURNAL_RELEASE, JOURNAL_RETRY (R137, R139, R140)
and INITIALISE (R186), the arbiter (R132), the steps of a record write (R128 to R131), the ends of lookups (R84, R86,
R88), of reads (R139) and of a retry (R137).
-/
namespace Sys2Proof.Machine

/-! ### JOURNAL_READ (R139) -/

/-- The items the journal information reads: the cause of the last fault and the settings (R135, R139). -/
def touchInfo (s : State) : State := touchItem .settings (touchItem .cause s)

/-- The cause of the last fault, or a free value when it cannot be read (log 11). -/
def causeView (s : State) : FaultCause := if itemBad .cause s then Config.unreadCause s.draws else s.mem.sys.cause

/-- The journal items that every reply to JOURNAL_READ gives (R139). -/
def journalInfo (s : State) : JournalInfo :=
  { state := journalState s
    pointers := s.copy.map (fun c => { head := c.head, tail := c.tail })
    unreleased := unreleased s
    queued := s.queue.length
    mark := s.copy.bind (·.mark)
    cause := causeView s
    nearFull := (settingsView s).journalNearFull }

/-- A check of JOURNAL_READ, whose refusal carries the journal items. -/
def needInfo (p : State → Bool) (r : ResultCode) : Judge Unit := do
  let s ← get
  needWith (p s) r (.journal (journalInfo s) [])

/-- JOURNAL_READ (R139): whatever the service state. Its count is judged by this rule (R174 check 6). -/
def ownJournalRead (o : Owner) (r : Nat × Nat) : Judge Answer := do
  modify touchInfo
  needInfo (fun _ => decide (1 ≤ r.2) && decide (r.2 ≤ 3)) .badField
  needInfo (fun s => (s.term o.terminal).lookup.isNone) .saleBusy
  needInfo (fun s => s.copy.isSome) .outOfService
  needInfo (inRange r.1) .badRange
  modify (fun s =>
    let s1 := setLookup o.terminal
      (some (.journalRead { tag := o.tag, start := r.1, count := r.2, replyDue := true })) s
    s1.setReads (s1.reads ++ [o.terminal]))
  pure .later

/-- JOURNAL_READ. -/
def execJournalRead (s : State) : Host.Outcome State Fault Refusal :=
  .next (takeRequest .journalRead parseJournalRead ownJournalRead s)

/-- The end of a JOURNAL_READ: its lookup item is free and its reply enters, or is discarded (R139). -/
def endJournalRead (t : Fin 8) (w : JournalReadWork) (result : ResultCode) (reads : List PositionView) (s : State) :
    State :=
  let s1 := touchInfo (setLookup t none s)
  replyIf w.replyDue Kind.journalRead.byte t w.tag result (.journal (journalInfo s1) reads) s1

/-- The positions from `seq` on, one for each of the `n` sequences, as read: what each read brings stands in `got`, in
order (R139). -/
def readRange : Nat → Nat → List ReadGot → SMap Page → List PositionView
  | 0, _, _, _ => []
  | n + 1, seq, got, device =>
    let p := readPage (positionOf seq) seq (got.headD .held) device
    { seq := seq, outcome := p.outcome, bytes := p.bytes } :: readRange n (seq + 1) got.tail device

/-- JOURNAL_READ_END (R139): the reads of the operation in hand end. -/
def execJournalReadEnd (got : List ReadGot) (s : State) : Host.Outcome State Fault Refusal :=
  .next (match s.bus with
    | some (.journalRead t last) =>
      match (s.term t).lookup with
      | some (.journalRead w) =>
        if s.powered then
          endJournalRead t w .ok (readRange (last + 1 - w.start) w.start got s.device) (freeBus s)
        else s
      | _ => s
    | _ => s)

/-! ### JOURNAL_RELEASE (R140) -/

/-- JOURNAL_RELEASE (R140): the tail moves past the sequence named. -/
def ownJournalRelease (_ : Owner) (m : Nat) : Judge Answer := do
  needInService
  check (inRange m) .badRange
  modify (fun s => setPointers ((s.copy.map (·.head)).getD 0) (m + 1) s)
  pure (.now (.released (m + 1) (unreleased (← get))))

/-- JOURNAL_RELEASE. -/
def execJournalRelease (s : State) : Host.Outcome State Fault Refusal :=
  .next (takeRequest .journalRelease parseRelease ownJournalRelease s)

/-! ### JOURNAL_RETRY (R137) -/

/-- JOURNAL_RETRY (R137): a VOID write waits for the arbiter, and the terminal's idle timer is held. -/
def ownJournalRetry (o : Owner) (_ : Unit) : Judge Answer := do
  needInService
  check faulted .notFaulted
  check (fun s => s.retry.isNone) .retryBusy
  modify (fun s => holdIdle o.terminal (s.setRetry (some
    { terminal := o.terminal, tag := o.tag, time := s.clock.reading, shiftNo := (termView o.terminal s).shiftNo,
      operator := (termView o.terminal s).operator, replyDue := true })))
  pure .later

/-- JOURNAL_RETRY. -/
def execJournalRetry (s : State) : Host.Outcome State Fault Refusal :=
  .next (takeRequest .journalRetry parseNothing ownJournalRetry s)

/-- A retry ends: the controller is free, the idle timer's hold ends, and its reply enters or is discarded (R137). -/
def endRetry (w : RetryWork) (result : ResultCode) (body : ReplyBody) (s : State) : State :=
  let s1 := restartIdle w.terminal ((freeBus s).setRetry none)
  replyIf w.replyDue Kind.journalRetry.byte w.terminal w.tag result body s1

/-- The VOID record of a retry (R137). -/
def retryRecord (w : RetryWork) (m : FaultMark) : Record :=
  { head := { seq := m.seq, time := w.time, terminal := w.terminal.val, shiftNo := w.shiftNo, operator := w.operator }
    body := .void .retry }

/-- RETRY_VOID_END (R137): the read-back of the retry's VOID ends. -/
def execRetryVoidEnd (got : ReadGot) (s : State) : Host.Outcome State Fault Refusal :=
  .next (match s.bus, s.retry with
    | some (.write w), some r =>
      if s.powered && w.job == .retryVoid && w.phase == .readBack then
        if readBackPasses w.record w.pos got s.device then
          endRetry r .ok (.retried w.record.head.seq) (closeMark s)
        else endRetry r .journalFault .empty s
      else s
    | _, _ => s)

/-! ### INITIALISE (R186) -/

/-- The idle timers no longer run while STARTING (R179). -/
def stopIdle (w : TermWork) : TermWork :=
  match w.idle with
  | .running _ => { w with idle := .stopped }
  | _ => w

/-- The INIT record is written outside the write queue: the copy holds no ring pointers, or the journal is FAULTED
(R186). -/
def initOutside (s : State) : Bool := s.copy.isNone || faulted s

/-- The oldest unreleased record is released, when the INIT record would otherwise find no position (R186). -/
def releaseOldest (s : State) : Option Nat × State :=
  match s.copy with
  | some c =>
    if 4096 ≤ c.head - c.tail + s.queue.length then (some c.tail, setPointers c.head (c.tail + 1) s) else (none, s)
  | none => (none, s)

/-- The sequence an INIT written outside the queue would take at its acceptance: the fault mark's (R186). -/
def initSeqOk (s : State) : Bool :=
  match s.copy.bind (·.mark) with
  | some m => decide (m.seq ≤ 4294967295)
  | none => true

/-- The work item an accepted INITIALISE becomes (R186). -/
def initWork (o : Owner) (outside : Bool) (released : Option Nat) (s : State) : InitWork :=
  { terminal := o.terminal, tag := o.tag, time := s.clock.reading, shiftNo := (termView o.terminal s).shiftNo,
    operator := (termView o.terminal s).operator, replyDue := true, wasInService := s.mode == .inService,
    outside := outside, released := released }

/-- INITIALISE is accepted: the module is STARTING (R179, R186). -/
def acceptInit (w : InitWork) (s : State) : State :=
  (((s.setTerms (s.terms.map stopIdle)).setInit (some w)).setMode (.starting .initialising))

/-- INITIALISE (R186): whatever the service state and the journal's state. QUEUE_FULL is judged before JOURNAL_FULL, the
model's choice (log 31). -/
def ownInitialise (o : Owner) (_ : Unit) : Judge Answer := do
  let s ← get
  if initOutside s then do
    need (initSeqOk s) .journalFull
    modify (acceptInit (initWork o true none s))
    pure .later
  else do
    check admitEntry .queueFull
    need (decide (nextSeq s ≤ 4294967295)) .journalFull
    let r := releaseOldest s
    let s1 := queueRecord o (headNow o.terminal s) (.init .initialise) .none true r.2
    set (acceptInit (initWork o false r.1 s) s1)
    pure .later

/-- INITIALISE. -/
def execInitialise (s : State) : Host.Outcome State Fault Refusal :=
  .next (takeRequest .initialise parseNothing ownInitialise s)

/-- An INITIALISE whose record is written outside the queue is answered (R186). -/
def answerInit (i : InitWork) (result : ResultCode) (body : ReplyBody) (s : State) : State :=
  replyIf (i.outside && i.replyDue) Kind.initialise.byte i.terminal i.tag result body s

/-- An INITIALISE that ends with nothing initialised: the module returns to the state it held and the request is
answered (R186). -/
def abandonInit (i : InitWork) (result : ResultCode) (s : State) : State :=
  answerInit i result .empty (returnFromInit (freeBus s))

/-- The INIT record of an INITIALISE at a sequence (R186). -/
def initRecord (i : InitWork) (seq : Nat) : Record :=
  { head := { seq := seq, time := i.time, terminal := i.terminal.val, shiftNo := i.shiftNo, operator := i.operator }
    body := .init .initialise }

/-- The INIT write is granted with pointers to go by: at the fault mark, or at the head when a retry has meanwhile
cleared it, the oldest record being released when every position is taken (R186, R120). -/
def grantInitAt (i : InitWork) (c : RingCopy) (s : State) : State :=
  match c.mark with
  | some m => beginWrite .initOutside (initRecord i m.seq) m.pos s
  | none =>
    if 4294967295 < c.head then abandonInit i .journalFull s
    else
      let r := releaseOldest s
      beginWrite .initOutside (initRecord i c.head) (positionOf c.head) (r.2.setInit (some { i with released := r.1 }))

/-- The INIT write is granted (R186): with no pointers in the copy, the device is first scanned. -/
def grantInit (i : InitWork) (reads : SMap ReadGot) (s : State) : State :=
  match s.copy with
  | some c => grantInitAt i c s
  | none =>
    let h := highestSeq reads s.device
    if h = 4294967295 then abandonInit i .journalFull s
    else
      let c : RingCopy := { head := h + 1, tail := h + 1, mark := none }
      beginWrite .initOutside (initRecord i (h + 1)) (positionOf (h + 1)) (s.setCopy (some c))

/-! ### The ends of lookups (R84, R86, R88) -/

/-- The record a lookup found: a SALE of its slot (R84). -/
def lookupFound (v : VendLookup) (got : ReadGot) (s : State) : Option SaleBody :=
  let p := readPage (positionOf v.seq) v.seq got s.device
  match p.outcome, p.record with
  | .good, some r =>
    match r.body with
    | .sale b => if b.slot = v.slot then some b else none
    | _ => none
  | _, _ => none

/-- The head of the record a lookup's end queues: its time is that of the request (R85, R87). -/
def lookupHead (t : Fin 8) (v : VendLookup) (s : State) : RecordHead := { headNow t s with time := v.time }

/-- The last steps of a lookup's end: the terminal's entry is read, the record admitted and queued; the entry owes the
reply the lookup owed (R86, R88, R173): after a link reset it owes none, the model's choice (log 39). -/
def queueVend (t : Fin 8) (v : VendLookup) (body : RecordBody) (figures : Figures) : Judge Answer := do
  readItem (.terminal t)
  needAdmission
  modify (fun s => queueRecord { terminal := t, tag := v.tag } (lookupHead t v s) body figures v.replyDue s)
  pure .later

/-- The end of a REISSUE's lookup that found its record (R86). -/
def reissueEnd (t : Fin 8) (v : VendLookup) (b : SaleBody) : Judge Answer := do
  let a ← readAccount v.slot
  let l ← needLastSale a
  needReissue l
  check (fun s => !busy v.slot s) .accountBusy
  need (l.seq == v.seq) .notAvailable
  queueVend t v (.reissue v.slot a.meter v.seq) (.reissue b.tokenSeq b.ciphers)

/-- The body of a REVERSAL record (R88). -/
def reversalBody (slot meter seq : Nat) (b : SaleBody) : ReversalBody :=
  { slot := slot, meter := meter, backLink := seq, tendered := b.tendered, recovered := b.recovered,
    purchased := b.purchased, allowance := b.allowance, carryBefore := b.carryBefore, tokenSeq := b.tokenSeq }

/-- The reserve can take back the token amount (R88, R95). -/
def creditFits (n : Nat) (s : State) : Bool :=
  decide (prospectiveBalance s.mem.sys.reserve s + n ≤ 2000000000)

/-- The end of a REVERSE's lookup that found its record (R88). The reversal window is not judged again here, though R67
has a change of it apply to a lookup that ends after the change: the model's choice (log 38). -/
def reverseEnd (t : Fin 8) (v : VendLookup) (b : SaleBody) : Judge Answer := do
  let a ← readAccount v.slot
  let l ← needLastSale a
  need (!l.keyChange) .keyChangeVend
  check (fun s => !busy v.slot s) .accountBusy
  need (l.seq == v.seq) .notAvailable
  need (a.counterMonth == monthOf l.time) .monthClosed
  readItem .reserve
  check (creditFits (b.purchased + b.allowance)) .reserveFull
  queueVend t v (.reversal (reversalBody v.slot a.meter v.seq b)) .none

/-- The judgement at the end of a lookup: not available, or the steps of its kind (R84). -/
def vendEnd (t : Fin 8) (v : VendLookup) (found : Option SaleBody) : Judge Answer := do
  match found with
  | none => throw (.notAvailable, .empty)
  | some b =>
    match v.kind with
    | .reissue => reissueEnd t v b
    | .reverse => reverseEnd t v b

/-- The kind byte of a lookup's request. -/
def vendByte (k : VendKind) : Byte :=
  match k with
  | .reissue => Kind.reissue.byte
  | .reverse => Kind.reverse.byte

/-- The reply of a lookup's end, when one is due and no record was queued. -/
def concludeVend (t : Fin 8) (v : VendLookup) : EStateM.Result Spoken State Answer → State
  | .ok (.now body) s => replyIf v.replyDue (vendByte v.kind) t v.tag .ok body s
  | .ok .later s => s
  | .error (r, body) s => replyIf v.replyDue (vendByte v.kind) t v.tag r body s

/-- A lookup ends (R84): the terminal's lookup item is free, and the Sale Controller takes R86 or R88. -/
def endLookup (t : Fin 8) (v : VendLookup) (found : Option SaleBody) (s : State) : State :=
  concludeVend t v ((vendEnd t v found).run (setLookup t none s))

/-- JOURNAL_LOOKUP_END (R84): the read of the lookup in hand ends. -/
def execJournalLookupEnd (got : ReadGot) (s : State) : Host.Outcome State Fault Refusal :=
  .next (match s.bus with
    | some (.lookup t) =>
      match (s.term t).lookup with
      | some (.vend v) => if s.powered then endLookup t v (lookupFound v got s) (freeBus s) else s
      | _ => s
    | _ => s)

/-! ### The arbiter (R132) -/

/-- The oldest waiting read operation is granted: its range is judged again (R84, R139). -/
def grantRead (t : Fin 8) (s : State) : State :=
  match (s.term t).lookup with
  | some (.vend v) => if inRange v.seq s then s.setBus (some (.lookup t)) else endLookup t v none s
  | some (.journalRead w) =>
    if inRange w.start s then
      s.setBus (some (.journalRead t (min (w.start + w.count - 1) ((s.copy.map (·.head)).getD 0 - 1))))
    else endJournalRead t w .badRange [] s
  | none => s

/-- A waiting VOID write is granted: the device is probed, and a withheld acknowledge ends the retry (R137). -/
def grantRetry (w : RetryWork) (probeAck : Bool) (s : State) : State :=
  match s.copy.bind (·.mark) with
  | some m => if probeAck then beginWrite .retryVoid (retryRecord w m) m.pos s else endRetry w .journalFault .empty s
  | none => endRetry w .journalFault .empty s

/-- The write of the entry at the front of the queue is granted, at the head position (R128). -/
def grantEntry (e : QueueEntry) (s : State) : State :=
  beginWrite .entry e.record (positionOf ((s.copy.map (·.head)).getD 0)) s

/-- What waits behind the write queue: a VOID write, then an INIT write outside the queue, then the oldest read
(R132). -/
def grantBehind (probeAck : Bool) (reads : SMap ReadGot) (s : State) : State :=
  match s.retry with
  | some w => grantRetry w probeAck s
  | none =>
    if s.init.any (·.outside) then
      match s.init with
      | some i => grantInit i reads s
      | none => s
    else
      match s.reads with
      | t :: rest => grantRead t (s.setReads rest)
      | [] => s

/-- The controller is granted to the next operation (R132): the front of the write queue while the journal is not
FAULTED, or what waits behind it. -/
def grant (probeAck : Bool) (reads : SMap ReadGot) (s : State) : State :=
  match s.queue with
  | e :: _ => if admitReady s then grantEntry e s else grantBehind probeAck reads s
  | [] => grantBehind probeAck reads s

/-- ARBITER_GRANT (R132): the controller is free. -/
def execArbiterGrant (probeAck : Bool) (reads : SMap ReadGot) (s : State) : Host.Outcome State Fault Refusal :=
  .next (if s.powered && s.bus.isNone then grant probeAck reads s else s)

end Sys2Proof.Machine
end

