-- ==== Sys2Proof/Machine/Startup.lean ====
section
/-!
DEFINITION. Machine/Startup.lean: supply reset and start-up (R180 to R185), the steps of a record write and their faults
for every operation that writes one (R128 to R131, R135), and the tamper monitor (R188, R189).
-/
namespace Sys2Proof.Machine

/-! ### The end of a record write outside the queue -/

/-- An INIT record written outside the queue is durable: its completion (R134, R187) and the reply to INITIALISE. At a
mark whose sequence is the init sequence, R187 passes it over, and the head is raised with the mark kept: the model's
choice (log 41). -/
def completeInit (w : BusWrite) (i : InitWork) (s : State) : State :=
  let r := applyInit w.record.head (raiseHead s)
  answerInit i r.1.1 r.1.2 (freeBus r.2)

/-- An INIT record written outside the queue faults: its sequence and position stand in the mark, and the INITIALISE is
answered with JOURNAL_FAULT (R135, R186). -/
def faultInit (w : BusWrite) (i : InitWork) (cause : FaultCause) (s : State) : State :=
  abandonInit i .journalFault (markFault w.record.head.seq w.pos cause s)

/-- A record write faults, for the operation it belongs to: an entry of the queue or an INIT record by R135, the
memory-loss INIT by R185 step 4, a VOID without a new mark (R137, R182). -/
def faultWrite (w : BusWrite) (cause : FaultCause) (s : State) : State :=
  match w.job with
  | .entry => writeFault w cause s
  | .retryVoid =>
    match s.retry with
    | some r => endRetry r .journalFault .empty s
    | none => freeBus s
  | .startUpVoid => endStartUp s
  | .initOutside =>
    match s.init with
    | some i => faultInit w i cause s
    | none => freeBus (markFault w.record.head.seq w.pos cause s)
  | .memoryLossInit => endStartUp (markFault w.record.head.seq w.pos cause s)

/-! ### The steps of a record write (R128 to R131) -/

/-- The write in hand, in another phase. -/
def setPhase (w : BusWrite) (p : WritePhase) (s : State) : State := s.setBus (some (.write { w with phase := p }))

/-- BUS_NAK (R131): an acknowledge is withheld in steps 1 to 3. The first attempt is followed by a poll and a second;
the second attempt's refusal is a fault. -/
def execBusNak (left : PageLeft) (s : State) : Host.Outcome State Fault Refusal :=
  .next (match s.bus with
    | some (.write w) =>
      if s.powered && w.phase == .sending then
        let s1 := leavePage w.pos w.record left s
        if w.secondAttempt then faultWrite w .secondRefusal s1 else setPhase w (.recovering 20) s1
      else s
    | _ => s)

/-- WRITE_STOP (R128 step 4): the page is programmed, and the poll limit of 20 ticks begins (R129). -/
def execWriteStop (left : PageLeft) (s : State) : Host.Outcome State Fault Refusal :=
  .next (match s.bus with
    | some (.write w) =>
      if s.powered && w.phase == .sending then setPhase w (.programming 20) (leavePage w.pos w.record left s) else s
    | _ => s)

/-- POLL_ACK (R129): the page is programmed and the read-back follows, or the second attempt begins (R131). -/
def execPollAck (s : State) : Host.Outcome State Fault Refusal :=
  .next (match s.bus with
    | some (.write w) =>
      if s.powered then
        match w.phase with
        | .programming _ => setPhase w .readBack s
        | .recovering _ => setPhase { w with secondAttempt := true } .sending s
        | _ => s
      else s
    | _ => s)

/-- The poll limit has run out. -/
def pollOut (w : BusWrite) : Bool := w.phase == .programming 0 || w.phase == .recovering 0

/-- POLL_LIMIT_EXPIRY (R129, R131): the write is a fault. -/
def execPollLimitExpiry (s : State) : Host.Outcome State Fault Refusal :=
  .next (match s.bus with
    | some (.write w) => if s.powered && pollOut w then faultWrite w .pollLimit s else s
    | _ => s)

/-- A record is durable, for the operation it belongs to: the completion of an entry (R134), of an INIT record written
outside the queue (R187), or of the memory-loss INIT (R185). -/
def writeDone (w : BusWrite) (s : State) : State :=
  match w.job with
  | .entry =>
    match s.queue with
    | e :: _ => completeEntry e s
    | [] => freeBus s
  | .initOutside =>
    match s.init with
    | some i => completeInit w i s
    | none => freeBus s
  | .memoryLossInit => endStartUp (raiseHead s)
  | .retryVoid => s
  | .startUpVoid => s

/-- The operations whose read-back is READ_BACK_END's: those of the two VOIDs have commands of their own. -/
def plainJob (j : WriteJob) : Bool :=
  match j with
  | .retryVoid | .startUpVoid => false
  | _ => true

/-- READ_BACK_END (R130): the read-back passes and the record is durable, or fails and the write is a fault. -/
def execReadBackEnd (got : ReadGot) (s : State) : Host.Outcome State Fault Refusal :=
  .next (match s.bus with
    | some (.write w) =>
      if s.powered && w.phase == .readBack && plainJob w.job then
        if readBackPasses w.record w.pos got s.device then writeDone w s else faultWrite w .failedReadBack s
      else s
    | _ => s)

/-! ### Supply loss and supply reset (R180) -/

/-- A write in hand leaves its page as far as it had gone (R126, R180). The device programs nothing before the STOP that
ends a transfer (R127), so a write cut off while it is being sent, like one past its programming, leaves its page. -/
def cutWrite (left : PageLeft) (s : State) : State :=
  match s.bus with
  | some (.write w) =>
    match w.phase with
    | .sending => s
    | .programming _ => leavePage w.pos w.record left s
    | .recovering _ => leavePage w.pos w.record left s
    | .readBack => s
  | _ => s

/-- SUPPLY_LOSS (R180): the module is without supply; the operation in hand ends. The volatile items take their values
at the supply reset that follows. -/
def execSupplyLoss (left : PageLeft) (s : State) : Host.Outcome State Fault Refusal :=
  .next (if s.powered then (freeBus (cutWrite left s)).setPowered false else s)

/-- The volatile items take their reset values (R180). R159 does not say how many ticks after a reset the next second step
comes: the count of ticks since the last one is kept, the model's choice (log 3). -/
def resetVolatile (strap : LineSpeed) (s : State) : State :=
  let s1 := dropTerminals (((s.setPowered true).setLine (.afterReset strap)).setTx [])
  let s2 := (((s1.setQueue []).setBus none).setRetry none).setInit none
  let s3 := (s2.setCopy none).setClock { s2.clock with alarm := none, tariffRaised := false }
  (s3.setScrub { pos := 0, timer := none }).setSysFault none

/-- The battery of account memory has failed: its content is lost. Whatever its cells hold then, the signature is not
valid (R181, R185; log 10). What the clock holds then, R156 and R185 do not say before step 3 is taken: it is kept as it
stood, the model's choice (log 10). -/
def loseMemory (s : State) : State :=
  let m := Config.lostMemory s.draws
  (s.setMem { accounts := m.accounts.normal
              index := { m.index with entries := m.index.entries.normal }
              sys := { m.sys with signature := none,
                                  damage := m.sys.damage.cut }
              ecc := [] }).setDraws (s.draws + 1)

/-! ### Start-up (R181 to R184) -/

/-- The signature is valid: its words read and its pattern is the fixed one (R181). -/
def signatureValid (s : State) : Bool := !itemBad .signature s && s.mem.sys.signature.isSome

/-- The Journal Controller loads its copy, or holds none when the pointers or the mark cannot be read (R120, R181). -/
def loadCopy (s : State) : State :=
  s.setCopy (if itemBad .ring s || itemBad .mark s then none
    else some { head := s.mem.sys.ring.head, tail := s.mem.sys.ring.tail, mark := s.mem.sys.mark })

/-- An entry that can be read and whose shift is OPEN becomes SUSPENDED (R181). -/
def suspendOpen (s : State) (t : Fin 8) : State :=
  if !itemBad (.terminal t) s && (s.mem.sys.terms.get t).shift == .opened then
    storeItems [.terminal t] (fun a => { a with terms := a.terms.put t { a.terms.get t with shift := .suspended } }) s
  else s

/-- The scan of the roll-forward begins: with the record of head − 1 where there is one and no VOID was just written,
or at the head (R183). -/
def beginScan (afterVoid : Bool) (s : State) : State :=
  (s.setBus (some .scan)).setMode (.starting (if !afterVoid && decide (1 ≤ unreleased s) then .lastRecord false
    else .scan false))

/-- The VOID record of start-up (R182). -/
def startUpVoid (m : FaultMark) (s : State) : Record :=
  { head := { seq := m.seq, time := s.clock.reading, terminal := 0, shiftNo := (termView 0 s).shiftNo,
              operator := (termView 0 s).operator }
    body := .void .startUp }

/-- Start-up once the terminal table is written: no journal without pointers, a VOID at a fault mark, or the scan
(R181 to R183). -/
def startJournal (s : State) : State :=
  match s.copy with
  | none => endStartUp s
  | some c =>
    match c.mark with
    | some m => (beginWrite .startUpVoid (startUpVoid m s) m.pos s).setMode (.starting .startUpVoid)
    | none => beginScan false s

/-- Start-up from its first step (R181): every word of the system area is read; without a valid signature the
memory-loss initialisation begins with its scan (R185), and no system fault address is held. -/
def startUp (s : State) : State :=
  let valid := signatureValid s
  let s1 := readWords inSystem (s.setMode (.starting .memoryLoss))
  if valid then startJournal (allTerminals.foldl suspendOpen (loadCopy s1))
  else (s1.setSysFault none).setBus (some .scan)

/-- A supply reset with what it finds (R180): a write in hand is cut off, the battery may have failed, cells may have
been disturbed, and start-up begins. -/
def supplyReset (r : ResetInputs) (s : State) : State :=
  let s1 := resetVolatile r.strap (cutWrite r.left s)
  let s2 := if r.batteryFailed then loseMemory s1 else s1
  startUp (disturb r.disturbed s2)

/-- SUPPLY_RESET (R180). -/
def execSupplyReset (r : ResetInputs) (s : State) : Host.Outcome State Fault Refusal := .next (supplyReset r s)

/-- START_UP_VOID_END (R182): the probe is not acknowledged, or the read-back of the VOID ends. -/
def execStartUpVoidEnd (got : ReadGot) (s : State) : Host.Outcome State Fault Refusal :=
  .next (match s.bus with
    | some (.write w) =>
      if s.powered && w.job == .startUpVoid then
        match w.phase with
        | .sending => if got = .noAck ∧ w.secondAttempt = false then endStartUp s else s
        | .readBack =>
          if readBackPasses w.record w.pos got s.device then beginScan true (closeMark s) else endStartUp s
        | _ => s
      else s
    | _ => s)

/-- A rolled-forward record's effects are applied, without an entry and without a reply; an INIT record that is applied
has ended start-up (R183, R187). -/
def rollForward (r : Record) (s : State) : State := (applyRecord false .none r s).2

/-- Start-up goes on at the head, unless the record just applied has ended it. -/
def scanOn (s : State) : State := if starting s then s.setMode (.starting (.scan false)) else s

/-- The end of the read of head − 1 (R183 step 1): its completion is taken again when it is GOOD. -/
def lastRecordRead (again : Bool) (p : PageRead) (s : State) : State :=
  match p.outcome, p.record with
  | .good, some r => scanOn (rollForward r s)
  | .noAck, _ => if again then scanOn s else s.setMode (.starting (.lastRecord true))
  | _, _ => scanOn s

/-- The end of a read at the head (R183 steps 2 to 4). A second NO_ACK sets the fault mark at the head, whatever the head
is: past the last sequence too, and with 4,096 records unreleased too, the model's choice where R183 step 4 meets R120
and R122 (log 32). -/
def headRead (again : Bool) (c : RingCopy) (p : PageRead) (s : State) : State :=
  match p.outcome, p.record with
  | .good, some r => scanOn (rollForward r (raiseHead s))
  | .noAck, _ =>
    if again then endStartUp (setMark (some { seq := c.head, pos := positionOf c.head }) s)
    else s.setMode (.starting (.scan true))
  | _, _ => endStartUp s

/-- ROLL_FORWARD_READ (R183): a start-up scan read ends. -/
def execRollForwardRead (got : ReadGot) (s : State) : Host.Outcome State Fault Refusal :=
  .next (match s.mode, s.copy with
    | .starting (.lastRecord again), some c =>
      if s.powered then
        lastRecordRead again (readPage (positionOf (c.head - 1)) (c.head - 1) got s.device) s
      else s
    | .starting (.scan again), some c =>
      if s.powered then headRead again c (readPage (positionOf c.head) c.head got s.device) s else s
    | _, _ => s)

/-! ### Memory loss (R185) -/

/-- No head can be set past the highest sequence found: the module leaves STARTING as OUT_OF_SERVICE, its copy without
ring pointers, and nothing is written to account memory (R185 step 1). The clock's reading, state and last applied, of
which no rule speaks then (R156, R185), are kept as they stood: the model's choice (log 10). -/
def journalSpent (s : State) : State :=
  let s0 := touchItem .settings s
  let s1 := s0.setScrub { pos := 0, timer := scrubTimer (settingsView s0).scrubInterval }
  ((freeBus s1).setCopy none).setMode .outOfService

/-- The memory-loss INIT record (R185 step 4). -/
def memoryLossRecord (head : Nat) : Record :=
  { head := { seq := head, time := 0, terminal := 0, shiftNo := 0, operator := 0 }, body := .init .memoryLoss }

/-- Account memory, the clock and the key store take the values of a memory loss at a head, and the INIT record's write
begins (R185 steps 2 to 4). -/
def memoryLossAt (head : Nat) (s : State) : State :=
  let s1 := s.setMem (AccountMemory.initial head s.secure.voucherFloor head head)
  let s2 := s1.setCopy (some { head := head, tail := head, mark := none })
  let s3 := s2.setClock { s2.clock with reading := 0, state := .notSet, lastApplied := head, alarm := none,
                                        tariffRaised := false }
  let s4 := s3.setSecure { s3.secure with keyLastApplied := head }
  (beginWrite .memoryLossInit (memoryLossRecord head) (positionOf head) s4).setMode (.starting .memoryLossInit)

/-- MEMORY_LOSS_INIT (R185): the scan of the device ends. -/
def execMemoryLossInit (reads : SMap ReadGot) (s : State) : Host.Outcome State Fault Refusal :=
  .next (if s.powered && s.mode == .starting .memoryLoss && s.bus == some .scan then
    if highestSeq reads s.device = 4294967295 then journalSpent s
    else memoryLossAt (highestSeq reads s.device + 1) s
  else s)

/-! ### The tamper monitor (R188, R189) -/

/-- TAMPER_SWITCH_OPENING (R188): the zeroise and the latch, on battery or not; a powered module is then forced through
a supply reset. -/
def execTamperSwitchOpening (r : ResetInputs) (s : State) : Host.Outcome State Fault Refusal :=
  .next (if s.enclosureOpen then s
    else
      let s1 := (s.setEnclosureOpen true).setSecure { zeroise s.secure with tamperLatch := true }
      if s.powered then supplyReset r s1 else s1)

/-- ENCLOSURE_SWITCH_CLOSING (R189): the switch is closed; the latch stays. -/
def execEnclosureSwitchClosing (s : State) : Host.Outcome State Fault Refusal := .next (s.setEnclosureOpen false)

end Sys2Proof.Machine
end

