-- ==== Sys2Proof/Machine/Time.lean ====
section
/-!
DEFINITION. Machine/Time.lean: the tick and the second step (R156, R159), and the scrub event (R150).
-/
namespace Sys2Proof.Machine

/-! ### The tick (R159) -/

/-- A timer that has not run out loses one tick. -/
def tickDown (t : Option Nat) : Option Nat := t.map (· - 1)

/-- A pending sale's timer (R71). -/
def tickSale (p : PendingSale) : PendingSale := { p with timer := tickDown p.timer }

/-- An idle timer (R116); it counts nothing while STARTING (R179). -/
def tickIdle (counts : Bool) (i : IdleTimer) : IdleTimer :=
  match i with
  | .running left => if counts then .running (left - 1) else i
  | _ => i

/-- The timers of a terminal. -/
def tickTerm (counts : Bool) (w : TermWork) : TermWork :=
  { w with sale := w.sale.map tickSale, idle := tickIdle counts w.idle }

/-- The poll limit (R129). -/
def tickPhase (p : WritePhase) : WritePhase :=
  match p with
  | .programming left => .programming (left - 1)
  | .recovering left => .recovering (left - 1)
  | _ => p

/-- The poll limit of the operation in hand. -/
def tickBus (b : BusOp) : BusOp :=
  match b with
  | .write w => .write { w with phase := tickPhase w.phase }
  | _ => b

/-- The gap timer and the break timer (R168, R171). -/
def tickLine (l : LineState) : LineState := { l with gap := tickDown l.gap, breakTimer := tickDown l.breakTimer }

/-- The scrub interval timer; it does not run while STARTING (R151). -/
def tickScrub (counts : Bool) (r : Scrubber) : Scrubber := if counts then { r with timer := tickDown r.timer } else r

/-- One tick: every running timer counts it (R159). -/
def countTick (s : State) : State :=
  let counts := !starting s
  let s1 := (s.setTerms (s.terms.map (tickTerm counts))).setBus (s.bus.map tickBus)
  (s1.setLine (tickLine s1.line)).setScrub (tickScrub counts s1.scrub)

/-! ### The second step (R156, R164) -/

/-- The reading after a second step; it is saturated at the last second of 2099 (R156). -/
def nextReading (n : Nat) : Nat := if n < lastReading then n + 1 else n

/-- The clock after a second step: the alarm's time, when the step carries the reading to it, raises TARIFF_EFFECTIVE
while the module is powered (R163, R164). -/
def stepClock (powered : Bool) (c : Clock) : Clock :=
  { c with reading := nextReading c.reading, ticks := 0,
           tariffRaised := c.tariffRaised || (powered && passesAlarm c.reading (nextReading c.reading) c.alarm) }

/-- A second step, with what has become of account memory's cells since the last one. While the module is powered it is a
tick as well, the thousandth (R159). -/
def secondStep (d : Disturbance) (s : State) : State :=
  let s1 := disturb d (s.setClock (stepClock s.powered s.clock))
  if s1.powered then countTick s1 else s1

/-- SECOND_STEP (R156). -/
def execSecondStep (d : Disturbance) (s : State) : Host.Outcome State Fault Refusal := .next (secondStep d s)

/-- What passes while no command waits: a tick of one millisecond while the module is powered; every thousandth is a
second step (R159; log 3). -/
def tick (s : State) : State :=
  if s.powered then
    if 999 ≤ s.clock.ticks then secondStep .quiet s
    else countTick (s.setClock { s.clock with ticks := s.clock.ticks + 1 })
  else s

/-! ### The scrub event (R150) -/

/-- The scrub position after another (R150). -/
def nextScrub (pos : Nat) : Nat := (pos + 1) % 262144

/-- The word at the scrub position is passed over: it lies in the account region and its slot is busy or listed as
damaged (R150 step 1). -/
def scrubPasses (pos : Nat) (s : State) : Bool :=
  decide (pos < 131072) && (busy (pos / 8) s || decide (pos / 8 ∈ (damageView s).slots))

/-- The word at the scrub position is read, or passed over (R150). -/
def scrubWord (s : State) : State :=
  let s1 := if s.scrub.pos < 131072 then touchItem .damageList s else s
  if scrubPasses s.scrub.pos s1 then s1 else readWords (· == s.scrub.pos) s1

/-- SCRUB_EVENT (R150): the interval timer has run out; the position advances and the timer is started again. -/
def execScrubEvent (s : State) : Host.Outcome State Fault Refusal :=
  .next (if s.powered && !starting s && s.scrub.timer == some 0 then
    let s1 := touchItem .settings (scrubWord s)
    s1.setScrub { pos := nextScrub s.scrub.pos, timer := scrubTimer (settingsView s1).scrubInterval }
  else s)

end Sys2Proof.Machine
end

