-- ==== Sys2Proof/Machine/Reply.lean ====
section
/-!
DEFINITION. Machine/Reply.lean: the bytes of a reply on the line (R167, R190): its header, its body's fields in the order
of the rule that gives it, each in its width where R190 gives one, the account image, the CRC and the escapes.
-/
namespace Sys2Proof.Machine

/-- The values of the result codes (R190). -/
def ResultCode.code : ResultCode → Nat
  | .ok => 0x00
  | .unknownRequest => 0x01
  | .badLength => 0x02
  | .badField => 0x03
  | .notPermitted => 0x04
  | .terminalState => 0x05
  | .outOfService => 0x06
  | .clockNotSet => 0x07
  | .clockBack => 0x08
  | .clockBusy => 0x09
  | .noMeter => 0x0A
  | .retired => 0x0B
  | .indexDamaged => 0x0C
  | .accountBlocked => 0x0D
  | .accountDamaged => 0x0E
  | .accountBusy => 0x0F
  | .meterExists => 0x10
  | .storeFull => 0x11
  | .indexFull => 0x12
  | .debtOutstanding => 0x13
  | .noTariff => 0x14
  | .badTariff => 0x15
  | .noKey => 0x16
  | .keyMissing => 0x17
  | .seqExhausted => 0x18
  | .badKey => 0x19
  | .keyExists => 0x1A
  | .keyStoreFull => 0x1B
  | .tamperLatched => 0x1C
  | .tamperOpen => 0x1D
  | .belowMinimum => 0x1E
  | .noDebt => 0x1F
  | .overpayment => 0x20
  | .amountHigh => 0x21
  | .nothingToIssue => 0x22
  | .reserveShort => 0x23
  | .reserveFull => 0x24
  | .badVoucher => 0x25
  | .voucherUsed => 0x26
  | .saleBusy => 0x27
  | .noSale => 0x28
  | .keyBusy => 0x29
  | .staleQuote => 0x2A
  | .reissueLimit => 0x2B
  | .notAvailable => 0x2C
  | .alreadyReversed => 0x2D
  | .reversalWindow => 0x2E
  | .keyChangeVend => 0x2F
  | .monthClosed => 0x30
  | .journalFault => 0x31
  | .journalFull => 0x32
  | .queueFull => 0x33
  | .badRange => 0x34
  | .notFaulted => 0x35
  | .retryBusy => 0x36
  | .operatorMismatch => 0x37
  | .tariffBusy => 0x38

/-- The byte of a role (R190). -/
def Role.code : Role → Nat
  | .clerk => 0
  | .supervisor => 1
  | .auditor => 2
  | .disabled => 3

/-- The byte of an account state (R190). -/
def AcctState.code : AcctState → Nat
  | .free => 0
  | .active => 1
  | .blocked => 2

/-- The flags byte of an account image (R190). -/
def imageFlags (a : Account) : Nat :=
  a.forceKeyChange.toNat + 2 * a.allowanceFlag.toNat + 4 * a.lastSale.isSome.toNat
    + 8 * (a.lastSale.any (·.reversed)).toNat + 16 * (a.lastSale.any (·.keyChange)).toNat
    + 32 * a.revokePending.isSome.toNat

/-- A number of the last sale part; zero when the part is absent (R190). -/
def lastField (a : Account) (f : LastSale → Nat) : Nat :=
  match a.lastSale with
  | some l => f l
  | none => 0

/-- The 53-byte account image (R190). -/
def accountImage (a : Account) : List Byte :=
  natBytes 1 a.state.code ++ natBytes 1 a.area ++ natBytes 1 a.keyGen ++ natBytes 1 a.tariffClass
    ++ natBytes 1 (imageFlags a) ++ natBytes 1 (lastField a (·.reissues)) ++ natBytes 5 a.meter
    ++ natBytes 2 a.issueSeq ++ natBytes 2 a.counterMonth ++ natBytes 4 a.monthUnits
    ++ natBytes 4 a.allowanceIssued ++ natBytes 4 a.debt ++ natBytes 2 a.rate ++ natBytes 4 a.carry
    ++ natBytes 4 a.maxPerSale ++ natBytes 4 (lastField a (·.seq)) ++ natBytes 4 (lastField a (·.time))
    ++ natBytes 2 (lastField a (·.tokenSeq)) ++ natBytes 2 (a.revokePending.getD 0) ++ natBytes 4 a.lastApplied

/-- The value of the outcome of a read of a position (R190). -/
def ReadOutcome.code : ReadOutcome → Nat
  | .good => 0
  | .wrongSequence => 1
  | .badCrc => 2
  | .noAck => 3

/-- The value of the cause of the last fault (R190). -/
def FaultCause.code : FaultCause → Nat
  | .none => 0
  | .secondRefusal => 1
  | .pollLimit => 2
  | .failedReadBack => 3

/-! ### The fields of a body (R190) -/

/-- A yes/no byte (R190). -/
def yesNo (b : Bool) : List Byte := natBytes 1 b.toNat

/-- The figures of a quote's reply in their order and widths (R69, R190). -/
def quoteBytes (q : QuoteFigures) : List Byte :=
  natBytes 4 q.tendered ++ natBytes 4 q.tax ++ natBytes 4 q.recovered ++ natBytes 4 q.debtAfter
    ++ natBytes 4 q.purchased ++ natBytes 4 q.allowance ++ natBytes 4 q.tokenAmount ++ natBytes 1 q.tokenCount
    ++ yesNo q.keyChange ++ natBytes 4 q.expiryTime

/-- An optional item of a reply: how its presence or absence is shown, and its value in its width when it is there. -/
def optional {α : Type} (item : OptionalItem) (f : α → List Byte) (o : Option α) : List Byte :=
  match o with
  | some a => Config.openBytes (.present item true) ++ f a
  | none => Config.openBytes (.present item false)

/-- A token: its ciphertext in 8 bytes and its rendering (R59, R80, R86, R190). -/
def tokenBytes (t : Token) : List Byte := cipherBytes t.cipher ++ Config.openBytes (.digits t.digits)

/-- The figures of RESERVE_READ in their order and widths (R99, R190). -/
def reserveBytes (r : ReserveReply) : List Byte :=
  natBytes 4 r.balance ++ natBytes 6 r.totalGranted ++ natBytes 6 r.totalIssued ++ natBytes 4 r.lastVoucher
    ++ natBytes 4 r.voucherFloor ++ natBytes 4 r.lastApplied ++ natBytes 4 r.setAsides ++ natBytes 4 r.available
    ++ natBytes 1 r.holding ++ natBytes 4 r.prospective ++ natBytes 4 r.highestVoucher ++ natBytes 4 r.threshold

/-- The two ring pointers, in the order a rule lists them, or their absence. -/
def pointerBytes (p : Option (Nat × Nat)) : List Byte :=
  match p with
  | some (a, b) => natBytes 4 a ++ natBytes 4 b
  | none => Config.openBytes .noPointers

/-- The figures of STATUS (R176). A count that can pass 255 (the unreleased count, the index entries) has no width in
R190, which gives a count one byte: the model's choice (log 45), here and wherever such a count is sent. -/
def statusBytes (b : StatusReply) : List Byte :=
  Config.openBytes (.serviceState b.inService) ++ yesNo b.sysFaultPresent ++ natBytes 4 b.serial.toNat
    ++ Config.openBytes (.lineSpeed b.speed) ++ natBytes 4 b.reading ++ Config.openBytes (.clockState b.clockState)
    ++ Config.openBytes (.journalState b.journalState) ++ pointerBytes (b.pointers.map (fun p => (p.head, p.tail)))
    ++ Config.openBytes (.wideCount b.unreleased) ++ natBytes 1 b.queued ++ Config.openBytes (.wideCount b.indexCount)
    ++ yesNo b.indexDamaged ++ natBytes 1 b.freeReplies ++ natBytes 1 b.repliesOwed ++ natBytes 1 b.role.code
    ++ Config.openBytes (.shiftState b.shift) ++ natBytes 2 b.shiftNo ++ Config.openBytes (.saleState b.sale)

/-- The figures of CLOCK_READ (R160). -/
def clockBytes (b : ClockReply) : List Byte :=
  natBytes 4 b.reading ++ Config.openBytes (.calendar b.calendar) ++ natBytes 2 b.monthIndex
    ++ Config.openBytes (.clockState b.state) ++ yesNo b.saturated ++ natBytes 4 b.lastApplied ++ yesNo b.recordWaiting
    ++ optional .alarm (natBytes 4) b.alarm

/-- The eleven shift totals (R115): five counts, then three of cents and three of tenth-units. -/
def totalsBytes (t : ShiftTotals) : List Byte :=
  [t.sales, t.tokens, t.payments, t.reissues, t.reversals].flatMap (fun n => Config.openBytes (.wideCount n))
    ++ [t.tendered, t.tax, t.recovered, t.sold, t.allowance, t.reversed].flatMap (natBytes 4)

/-- The byte of a mode (R190). -/
def SaleMode.code : SaleMode → Nat
  | .sale => 0
  | .payment => 1

/-- The pending sale of a SHIFT_READ: its state, or none, and with a state its slot, meter number, mode, token amount,
set-aside and expiry time (R113). -/
def saleViewBytes (v : Option SaleView) : List Byte :=
  Config.openBytes (.saleState (v.map (·.state)))
    ++ (match v with
      | some p => natBytes 2 p.slot ++ natBytes 5 p.meter ++ natBytes 1 p.mode.code ++ natBytes 4 p.tokenAmount
          ++ natBytes 4 p.setAside ++ natBytes 4 p.expiryTime
      | none => [])

/-- The figures of SHIFT_READ (R113). -/
def shiftBytes (b : ShiftReply) : List Byte :=
  natBytes 1 b.role.code ++ Config.openBytes (.shiftState b.shift) ++ natBytes 2 b.operator ++ natBytes 2 b.shiftNo
    ++ natBytes 4 b.lastApplied ++ totalsBytes b.totals ++ yesNo b.changeInFlight ++ saleViewBytes b.sale
    ++ yesNo b.lookupInFlight ++ Config.openBytes (.idle b.idle)

/-- A key slot of a KEY_LIST: its state, and when it is not EMPTY its area, generation and 32-bit check value (R47,
R52). -/
def keySlotBytes (v : Option KeySlotView) : List Byte :=
  Config.openBytes (.keyState (v.map (·.state)))
    ++ (match v with
      | some k => natBytes 1 k.area ++ natBytes 1 k.gen ++ natBytes 4 k.checkValue.toNat
      | none => [])

/-- The figures of KEY_LIST (R52). -/
def keyListBytes (b : KeyListReply) : List Byte :=
  b.slots.flatMap keySlotBytes ++ Config.openBytes (.keyCounter b.counter)
    ++ natBytes 4 b.lastApplied ++ natBytes 4 b.serial.toNat
    ++ b.currentGens.flatMap (optional .generation (natBytes 1))

/-- The byte of a bank selector (R190). -/
def bankSelector (active : Bool) : List Byte := natBytes 1 (if active then 0 else 1)

/-- A class of a bank in 37 bytes: its basic allowance, its count of tariff blocks and four pairs of bound and price, zero
past the count (R31, R190). R190 gives this layout for the request; that the reply has it too is the model's choice
(log 46). -/
def classBytes (c : TariffClass) : List Byte :=
  natBytes 4 c.allowance ++ natBytes 1 c.blocks.length
    ++ padTo 32 (c.blocks.flatMap (fun b => natBytes 4 b.bound ++ natBytes 4 b.price))

/-- The selected bank of a TARIFF_READ: its id, tax rate, minimum sale, effective time when PENDING, and its classes
(R31). -/
def bankBytes (b : TariffBank) (effective : Option Nat) : List Byte :=
  Config.openBytes (.bankId b.id) ++ natBytes 2 b.tax ++ natBytes 4 b.minSale
    ++ (match effective with
      | some e => natBytes 4 e
      | none => [])
    ++ b.classes.toList.flatMap classBytes

/-- The items of TARIFF_READ (R31). -/
def tariffBytes (b : TariffReply) : List Byte :=
  (match b.bank with
    | some k => bankBytes k b.effective
    | none => [])
    ++ Config.openBytes (.bankId b.lastId) ++ yesNo b.activePresent ++ yesNo b.pendingPresent

/-- One position of a JOURNAL_READ: the sequence sought, the outcome and the 128 bytes as received, zero where none were
(R139, R190). -/
def positionBytes (p : PositionView) : List Byte := natBytes 4 p.seq ++ natBytes 1 p.outcome.code ++ padTo 128 p.bytes

/-- The fault mark of a JOURNAL_READ: its sequence and position (R139). -/
def markBytes (m : FaultMark) : List Byte := natBytes 4 m.seq ++ Config.openBytes (.position m.pos)

/-- The journal items of a JOURNAL_READ (R139). -/
def journalBytes (i : JournalInfo) : List Byte :=
  Config.openBytes (.journalState i.state) ++ pointerBytes (i.pointers.map (fun p => (p.tail, p.head)))
    ++ Config.openBytes (.wideCount i.unreleased) ++ natBytes 1 i.queued ++ optional .mark markBytes i.mark
    ++ natBytes 1 i.cause.code ++ natBytes 4 i.nearFull

/-- The last error of an INTEGRITY_READ: address, syndrome and kind (R144, R154). -/
def lastErrorBytes (e : LastError) : List Byte :=
  Config.openBytes (.wordAddress e.addr) ++ Config.openBytes (.syndrome e.syndrome) ++ Config.openBytes (.errorKind e.kind)

/-- The error log of an INTEGRITY_READ: the last error or its absence, its slot when it lies in the account region, and
the two counts (R154). -/
def errorLogBytes (l : Option ErrorLog) (slot : Option Nat) : List Byte :=
  match l with
  | some l => optional .lastError lastErrorBytes l.last ++ optional .errorSlot (natBytes 2) slot
      ++ Config.openBytes (.wideCount l.corrected) ++ Config.openBytes (.wideCount l.uncorrectable)
  | none => Config.openBytes .unreadableLog

/-- The damage list of an INTEGRITY_READ: how many slots follow, the slots in order of entry, and the overflow flag
(R154). -/
def damageBytes (d : Option DamageList) : List Byte :=
  match d with
  | some d => Config.openBytes (.listLength d.slots.length) ++ d.slots.flatMap (natBytes 2) ++ yesNo d.overflow
  | none => Config.openBytes .unreadableDamage

/-- The items of INTEGRITY_READ (R154). -/
def integrityBytes (b : IntegrityReply) : List Byte :=
  errorLogBytes b.log b.lastErrorSlot ++ damageBytes b.damage ++ yesNo b.indexDamaged
    ++ Config.openBytes (.wideCount b.indexCount)
    ++ optional .sysFault (fun a => Config.openBytes (.wordAddress a)) b.sysFault
    ++ Config.openBytes (.wordAddress b.scrubPos) ++ natBytes 4 b.scrubInterval

/-- One setting of the SETTINGS_SET reply: the value requested, the value applied, whether it was clamped (R178). -/
def answerBytes (a : SettingAnswer) : List Byte := natBytes 4 a.requested ++ natBytes 4 a.applied ++ yesNo a.clamped

/-- The seven settings in the order of the table of R177. -/
def settingBytes (s : Settings) : List Byte :=
  [s.holdTime, s.idleLimit, s.reversalWindow, s.reissueLimit, s.scrubInterval, s.reserveLow, s.journalNearFull].flatMap
    (natBytes 4)

/-- The fields of a reply's body in the order of its rule, each in the width of R190; a field whose kind of value has no
width there is in bytes of the module's own (log 21). The key slot of a KEY_LOAD takes the two bytes that R190 gives a
slot: the model's choice (log 47). -/
def ReplyBody.fields (b : ReplyBody) : List Byte :=
  match b with
  | .empty => []
  | .status b => statusBytes b
  | .clock b => clockBytes b
  | .clockSet before after month ms te =>
    natBytes 4 before ++ natBytes 4 after ++ natBytes 2 month ++ yesNo ms ++ yesNo te
  | .clockBack month => natBytes 2 month
  | .shiftOpened n => natBytes 2 n
  | .shiftOpenedUnrecorded n => natBytes 2 n ++ yesNo true
  | .shiftClosed b => natBytes 1 b.target.val ++ natBytes 2 b.shiftNo ++ natBytes 2 b.operator ++ totalsBytes b.totals
  | .shiftResumed n op => natBytes 2 n ++ natBytes 2 op
  | .shift b => shiftBytes b
  | .terminalSet t r => natBytes 1 t.val ++ natBytes 1 r.code
  | .quoted q => quoteBytes q
  | .sold q seq tokenSeq delta tokens =>
    quoteBytes q ++ natBytes 4 seq ++ natBytes 2 tokenSeq ++ Config.openBytes (.revokeDelta delta)
      ++ tokens.flatMap tokenBytes
  | .paid a t r d => natBytes 4 a ++ natBytes 4 t ++ natBytes 4 r ++ natBytes 4 d
  | .stale c => Config.openBytes (.staleCause c)
  | .cancelled n => natBytes 4 n
  | .reissued link tokenSeq tokens => natBytes 4 link ++ natBytes 2 tokenSeq ++ tokens.flatMap tokenBytes
  | .reversed link refund units owed => natBytes 4 link ++ natBytes 4 refund ++ natBytes 4 units ++ natBytes 4 owed
  | .retiredMeter m t => natBytes 5 m ++ natBytes 4 t
  | .created slot => natBytes 2 slot
  | .account a busy holder => accountImage a ++ yesNo busy ++ optional .holder (fun t : Fin 8 => natBytes 1 t.val) holder
  | .freeAccount => natBytes 1 AcctState.free.code
  | .debt c => natBytes 4 c
  | .loaded slot was n => natBytes 2 slot ++ yesNo was ++ natBytes 1 n
  | .rebuilt made passed => Config.openBytes (.wideCount made) ++ Config.openBytes (.wideCount passed)
  | .keyLoaded slot => natBytes 2 slot
  | .keyRetired a => Config.openBytes (.keyAction a)
  | .keyList b => keyListBytes b
  | .tariffLoaded id asActive => Config.openBytes (.bankId id) ++ bankSelector asActive
  | .badTariff c n check => optional .tariffClass (natBytes 1) c ++ Config.openBytes (.tariffBlock n)
      ++ Config.openBytes (.tariffCheck check)
  | .tariff b => tariffBytes b
  | .minimum c => natBytes 4 c
  | .overpayment d c => natBytes 4 d ++ natBytes 4 c
  | .amountHigh t m => natBytes 4 t ++ natBytes 4 m
  | .available n => natBytes 4 n
  | .granted v a bal g => natBytes 4 v ++ natBytes 4 a ++ natBytes 4 bal ++ natBytes 6 g
  | .voucherUsed n => natBytes 4 n
  | .prospective n => natBytes 4 n
  | .reserve r => reserveBytes r
  | .journal i reads => reads.flatMap positionBytes ++ journalBytes i
  | .released tail n => natBytes 4 tail ++ Config.openBytes (.wideCount n)
  | .retried n => natBytes 4 n
  | .integrity b => integrityBytes b
  | .settingsSet answers => answers.flatMap (fun a => (a.map answerBytes).getD [])
  | .settings s lastApplied waiting => settingBytes s ++ natBytes 4 lastApplied ++ yesNo waiting
  | .initialised seq gone => natBytes 4 seq ++ optional .released (natBytes 4) gone

/-- The body of a reply on the line: its fields, in the 480 bytes that R167 allows it. -/
def ReplyBody.bytes (b : ReplyBody) : List Byte := b.fields.take 480

/-- The content of a reply: header, body, CRC (R167, R190). -/
def replyContent (r : Reply) : List Byte :=
  withCrc ([r.kind, r.terminal] ++ natBytes 2 r.tag.toNat ++ natBytes 1 r.result.code ++ natBytes 2 r.flags.toNat
    ++ r.body.bytes)

/-- What the Line Interface sends for a reply (R167, R172). -/
def sentBytes (r : Reply) : List Byte := frameBytes (replyContent r)

end Sys2Proof.Machine
end

