-- ==== Sys2Proof/Machine/Reserve.lean ====
section
/-!
DEFINITION. Machine/Reserve.lean: GRANT and RESERVE_READ (R96, R99).
-/
namespace Sys2Proof.Machine

/-- The amounts of the queued GRANT records (R96 check 6). -/
def queuedGrants (s : State) : Nat :=
  (s.queue.map (fun e => match e.record.body with
    | .grant v => v.amount
    | _ => 0)).sum

/-- The balance and total granted stay within their limits once all that is queued has completed (R96 check 6). -/
def grantFits (amount : Nat) (s : State) : Bool :=
  decide (prospectiveBalance s.mem.sys.reserve s + amount ≤ 2000000000)
    && decide (s.mem.sys.reserve.totalGranted + queuedGrants s + amount ≤ 281474976710655)

/-- GRANT (R96). -/
def ownGrant (o : Owner) (v : Voucher) : Judge Answer := do
  needInService
  needClock
  check (fun s => v.serial == s.secure.factory.serial) .badVoucher
  check (fun s => authorityGood s.secure.factory v) .badVoucher
  readItem .reserve
  let s ← get
  needWith (decide (highestVoucher s.mem.sys.reserve s < v.number)) .voucherUsed
    (.voucherUsed (highestVoucher s.mem.sys.reserve s))
  needWith (grantFits v.amount s) .reserveFull (.prospective (prospectiveBalance s.mem.sys.reserve s))
  journaled o (.grant v) .none

/-- GRANT. -/
def execGrant (s : State) : Host.Outcome State Fault Refusal := .next (takeRequest .grant parseGrant ownGrant s)

/-- The figures of a RESERVE_READ (R99). -/
def reserveReply (s : State) : ReserveReply :=
  { balance := s.mem.sys.reserve.balance
    totalGranted := s.mem.sys.reserve.totalGranted
    totalIssued := s.mem.sys.reserve.totalIssued
    lastVoucher := s.mem.sys.reserve.lastVoucher
    voucherFloor := s.secure.voucherFloor
    lastApplied := s.mem.sys.reserve.lastApplied
    setAsides := s.setAsides
    available := availableReserve s.mem.sys.reserve s.setAsides
    holding := (s.terms.toList.filter (fun w => w.sale.any (fun p => p.setAside != 0))).length
    prospective := prospectiveBalance s.mem.sys.reserve s
    highestVoucher := highestVoucher s.mem.sys.reserve s
    threshold := s.mem.sys.settings.reserveLow }

/-- RESERVE_READ (R99). -/
def ownReserveRead (_ : Owner) (_ : Unit) : Judge Answer := do
  needInService
  readItem .reserve
  readItem .settings
  pure (.now (.reserve (reserveReply (← get))))

/-- RESERVE_READ. -/
def execReserveRead (s : State) : Host.Outcome State Fault Refusal :=
  .next (takeRequest .reserveRead parseNothing ownReserveRead s)

end Sys2Proof.Machine
end

