-- ==== Sys2Proof/Machine/Dispatch.lean ====
section
/-!
DEFINITION. Machine/Dispatch.lean: which meaning each command has, one arm per constructor of `Instr`.
-/
namespace Sys2Proof.Machine

/-- The effect of a command on everything but the queue of waiting commands. -/
def exec (i : Instr) (s : State) : Host.Outcome State Fault Refusal :=
  match i with
  | .frameArrival => Sys2Proof.Machine.execFrameArrival s
  | .framingError => Sys2Proof.Machine.execFramingError s
  | .gapTimerExpiry => Sys2Proof.Machine.execGapTimerExpiry s
  | .linkReset => Sys2Proof.Machine.execLinkReset s
  | .replySent => Sys2Proof.Machine.execReplySent s
  | .unknownRequest => Sys2Proof.Machine.execUnknownRequest s
  | .status => Sys2Proof.Machine.execStatus s
  | .clockRead => Sys2Proof.Machine.execClockRead s
  | .clockSet => Sys2Proof.Machine.execClockSet s
  | .shiftOpen => Sys2Proof.Machine.execShiftOpen s
  | .shiftClose => Sys2Proof.Machine.execShiftClose s
  | .shiftResume => Sys2Proof.Machine.execShiftResume s
  | .shiftRead => Sys2Proof.Machine.execShiftRead s
  | .terminalSet => Sys2Proof.Machine.execTerminalSet s
  | .quote => Sys2Proof.Machine.execQuote s
  | .confirm => Sys2Proof.Machine.execConfirm s
  | .cancel => Sys2Proof.Machine.execCancel s
  | .reissue => Sys2Proof.Machine.execReissue s
  | .reverse => Sys2Proof.Machine.execReverse s
  | .accountCreate => Sys2Proof.Machine.execAccountCreate s
  | .accountEdit => Sys2Proof.Machine.execAccountEdit s
  | .accountRead => Sys2Proof.Machine.execAccountRead s
  | .accountClose => Sys2Proof.Machine.execAccountClose s
  | .meterReplace => Sys2Proof.Machine.execMeterReplace s
  | .accountLoad => Sys2Proof.Machine.execAccountLoad s
  | .rekey => Sys2Proof.Machine.execRekey s
  | .indexRebuild => Sys2Proof.Machine.execIndexRebuild s
  | .keyLoad => Sys2Proof.Machine.execKeyLoad s
  | .keyRetire => Sys2Proof.Machine.execKeyRetire s
  | .keyList => Sys2Proof.Machine.execKeyList s
  | .tariffLoad => Sys2Proof.Machine.execTariffLoad s
  | .tariffRead => Sys2Proof.Machine.execTariffRead s
  | .grant => Sys2Proof.Machine.execGrant s
  | .reserveRead => Sys2Proof.Machine.execReserveRead s
  | .journalRead => Sys2Proof.Machine.execJournalRead s
  | .journalRelease => Sys2Proof.Machine.execJournalRelease s
  | .journalRetry => Sys2Proof.Machine.execJournalRetry s
  | .integrityRead => Sys2Proof.Machine.execIntegrityRead s
  | .integrityClear => Sys2Proof.Machine.execIntegrityClear s
  | .settingsSet => Sys2Proof.Machine.execSettingsSet s
  | .settingsRead => Sys2Proof.Machine.execSettingsRead s
  | .tamperClear => Sys2Proof.Machine.execTamperClear s
  | .initialise => Sys2Proof.Machine.execInitialise s
  | .secondStep disturbed => Sys2Proof.Machine.execSecondStep disturbed s
  | .tariffEffective => Sys2Proof.Machine.execTariffEffective s
  | .saleTimerExpiry t => Sys2Proof.Machine.execSaleTimerExpiry t s
  | .idleExpiry t => Sys2Proof.Machine.execIdleExpiry t s
  | .scrubEvent => Sys2Proof.Machine.execScrubEvent s
  | .arbiterGrant probeAck reads => Sys2Proof.Machine.execArbiterGrant probeAck reads s
  | .busNak left => Sys2Proof.Machine.execBusNak left s
  | .pollAck => Sys2Proof.Machine.execPollAck s
  | .pollLimitExpiry => Sys2Proof.Machine.execPollLimitExpiry s
  | .readBackEnd got => Sys2Proof.Machine.execReadBackEnd got s
  | .retryVoidEnd got => Sys2Proof.Machine.execRetryVoidEnd got s
  | .journalLookupEnd got => Sys2Proof.Machine.execJournalLookupEnd got s
  | .journalReadEnd got => Sys2Proof.Machine.execJournalReadEnd got s
  | .supplyReset r => Sys2Proof.Machine.execSupplyReset r s
  | .startUpVoidEnd got => Sys2Proof.Machine.execStartUpVoidEnd got s
  | .rollForwardRead got => Sys2Proof.Machine.execRollForwardRead got s
  | .memoryLossInit reads => Sys2Proof.Machine.execMemoryLossInit reads s
  | .tamperSwitchOpening r => Sys2Proof.Machine.execTamperSwitchOpening r s
  | .characterReceived b => Sys2Proof.Machine.execCharacterReceived b s
  | .lineEntersSpacing => Sys2Proof.Machine.execLineEntersSpacing s
  | .lineReturnsToMarking => Sys2Proof.Machine.execLineReturnsToMarking s
  | .supplyLoss left => Sys2Proof.Machine.execSupplyLoss left s
  | .enclosureSwitchClosing => Sys2Proof.Machine.execEnclosureSwitchClosing s
  | .writeStop left => Sys2Proof.Machine.execWriteStop left s

end Sys2Proof.Machine
end

