-- ==== Sys2Proof/Safety.lean ====
section
/-!
DEFINITION. Safety.lean: the terms claims are made in: the laws the spec gives as holding in every state, and the
conditions under which a request reaches its owning block, the bytes of the line, and the ranges of the figures.
-/
namespace Sys2Proof.Machine

/-! ### Laws of every state -/

/-- The law of the damage list: no slot twice, never more than 32 slots (R146). -/
def DamageList.lawful (d : DamageList) : Prop := d.slots.Nodup ∧ d.slots.length ≤ 32

/-- The sum of set-asides is the total of those the pending sales hold (R91). -/
def setAsideSum (s : State) : Nat := (s.terms.toList.map (fun w => (w.sale.map (·.setAside)).getD 0)).sum

/-- The free entries of the transmit reply queue are never fewer than the replies owed, and the queue is never
overfull (R172, R173). -/
def RepliesFit (s : State) : Prop := s.tx.length + repliesOwed s ≤ 16

/-- The receive buffer holds at most four arrived frames and 2,048 bytes, no more than three arrived frames while
another is in reception, and no content longer than 486 bytes in reception (R168, R169). -/
def BufferFits (s : State) : Prop :=
  s.line.arrived.length ≤ 4 ∧ s.line.used ≤ 2048 ∧ (s.line.reception.isSome → s.line.arrived.length ≤ 3) ∧
    ∀ r, s.line.reception = some r → r.content.length ≤ 486

/-- PAUSE stands asserted where the buffer asserts it and released where the buffer releases it (R170). -/
def PauseJudged (s : State) : Prop :=
  ((3 ≤ s.line.arrived.length ∨ s.line.free < 512) → s.line.pause = true) ∧
    (s.line.arrived.length ≤ 1 → 1024 ≤ s.line.free → s.line.pause = false)

/-- The bounds of the write queue, the reading and the scrub position (R123, R150, R156). -/
def CountsFit (s : State) : Prop :=
  s.queue.length ≤ 8 ∧ s.clock.reading ≤ lastReading ∧ s.scrub.pos < 262144

/-- The journal device and the key store in their canonical form: positions rising, slots rising. -/
def storesWf (s : State) : Bool := SMap.rising s.device && SMap.rising s.secure.slots

/-- A module with a system fault address is not IN_SERVICE (R148, R179). -/
def FaultHeld (s : State) : Prop := s.sysFault.isSome → s.mode ≠ .inService

/-- The law of the reserve: total granted equals the balance plus total issued (R92). -/
def ReserveRecord.balanced (r : ReserveRecord) : Prop := r.totalGranted = r.balance + r.totalIssued

/-! ### The conditions of a request -/

/-- No word of account memory is disturbed. -/
def Sound (s : State) : Prop := s.mem.ecc = []

/-- The module is IN_SERVICE with its clock RUNNING. -/
def Serving (s : State) : Prop := s.mode = .inService ∧ s.clock.state = .running

/-- The oldest arrived frame is a request of a kind from a terminal, with a tag and a body, and the dispatcher may take
it (R173, R190). -/
structure Presents (k : Kind) (t : Fin 8) (tag : Tag) (body : List Byte) (s : State) : Prop where
  frame : ∃ f rest, s.line.arrived = f :: rest ∧ frameKind f = k.byte ∧ frameTerminal f = terminalByte t
    ∧ frameTag f = tag ∧ frameBody f = body
  length : body.length = k.bodyLength
  room : mayTake s = true

/-- The sending terminal's role allows the request, and its shift is OPEN with no shift change in flight (R104,
R106). -/
structure OpenAt (k : Kind) (t : Fin 8) (body : List Byte) (s : State) : Prop where
  role : allowed k (roleFor t s) t body = true
  shift : (s.mem.sys.terms.get t).shift = .opened
  settled : shiftChange t s = false

/-- A request that reaches its owning block with no word of account memory disturbed: it is presented, its role allows
it, and its terminal's shift is OPEN. -/
structure Asks (k : Kind) (t : Fin 8) (tag : Tag) (body : List Byte) (s : State) : Prop where
  sound : Sound s
  presents : Presents k t tag body s
  opened : OpenAt k t body s

/-- The state as the dispatcher hands it to the owning block: the frame has left the buffer and the terminal's idle
timer has taken its condition afresh (R116, R168). -/
def handed (t : Fin 8) (s : State) : State := restartIdle t (takeFrame s)

/-- The reply the module gives from a state: its flags are those of that state (R175). -/
def replyFrom (k : Kind) (t : Fin 8) (tag : Tag) (result : ResultCode) (body : ReplyBody) (s : State) : Reply :=
  { kind := k.byte ||| 0x80, terminal := terminalByte t, tag := tag, result := result, flags := statusFlags s,
    body := body }

/-- The state with a reply entered and LINK_OVERFLOW cleared by it, all else as it stands (R169, R172). -/
def withReply (r : Reply) (s : State) : State := { s with tx := s.tx ++ [r], line := { s.line with overflow := false } }

/-- The state with a reply of the owning block entered, judged as that state stands (R172, R175). -/
def answered (k : Kind) (t : Fin 8) (tag : Tag) (result : ResultCode) (body : ReplyBody) (s : State) : State :=
  withReply (replyFrom k t tag result body s) s

/-- The state with a record queued under a shift number and an operator, all else as it stands (R119, R123): the record
takes the next sequence and the reading, and its entry owes a reply to its request. -/
def withRecordAs (t : Fin 8) (tag : Tag) (shiftNo operator : Nat) (body : RecordBody) (figures : Figures) (s : State) :
    State :=
  { s with queue := s.queue ++
      [{ record :=
          { head := { seq := nextSeq s, time := s.clock.reading, terminal := t.val, shiftNo := shiftNo,
                      operator := operator }
            body := body }
         owner := some { terminal := t, tag := tag }, replyDue := true, figures := figures }] }

/-- The state with a record queued for the request of a terminal, with the terminal's shift number and operator. -/
def withRecord (t : Fin 8) (tag : Tag) (body : RecordBody) (figures : Figures) (s : State) : State :=
  withRecordAs t tag (s.mem.sys.terms.get t).shiftNo (s.mem.sys.terms.get t).operator body figures s

/-- The Journal Controller admits a record (R124). -/
def Admits (s : State) : Prop := admission s = none

/-- A meter number's LIVE entry leads to a slot, the index is sound, and the slot is not damaged (R9, R13). -/
structure Leads (meter slot : Nat) (s : State) : Prop where
  sound : s.mem.index.damaged = false
  entry : SMap.find meter s.mem.index.entries = some { slot := slot, kind := .live }
  listed : slot ∉ s.mem.sys.damage.slots

/-! ### What a position of the journal device reads as -/

/-- The reading of a position brings a record: the one the module wrote there, or that of 128 bytes with a good CRC
(R119, R133). -/
def ReadsAs (got : ReadGot) (pos : Nat) (device : SMap Page) (r : Record) : Prop :=
  (got = .held ∧ SMap.find pos device = some (.record r)) ∨
    ∃ b, (got = .bytes b ∨ got = .held ∧ SMap.find pos device = some (.bytes b)) ∧ crcGood b = true ∧ r = recordOf b

/-! ### Bytes on the line -/

/-- The numbers of a request's body lie in the ranges of R2, R33, R105, R107, R114, R139, R161, R178 and R190 that the
dispatcher's check 6 holds them to; a field whose presence bit is clear is not judged (log 17). -/
def fieldsInRange (k : Kind) (body : List Byte) : Bool :=
  let n (off len : Nat) : Nat := fieldNat off len body
  let meter (off : Nat) : Bool := decide (n off 5 ≤ 99999999999)
  let within (lo x hi : Nat) : Bool := decide (lo ≤ x) && decide (x ≤ hi)
  let present (bit : Nat) (ok : Bool) : Bool := !(n 5 1).testBit bit || ok
  match k with
  | .clockSet => within 0 (n 0 4) 3155759999
  | .shiftOpen | .shiftResume => within 0 (n 0 2) 9999
  | .shiftClose | .shiftRead => within 0 (n 0 1) 7
  | .terminalSet => within 0 (n 0 1) 7 && within 0 (n 1 1) 3
  | .quote => meter 0 && within 0 (n 5 1) 1 && within 1 (n 6 4) 5000000
  | .reissue | .reverse | .accountClose | .rekey => meter 0
  | .accountCreate =>
    meter 0 && within 0 (n 5 1) 63 && within 0 (n 6 1) 15 && within 0 (n 7 1) 7 && within 0 (n 8 1) 1
      && within 0 (n 9 4) 99999999 && within 0 (n 13 2) 5000 && within 1 (n 15 4) 999999
  | .accountEdit =>
    meter 0 && within 1 (n 5 1) 63 && within 0 (n 7 1) 1 && present 0 (within 0 (n 6 1) 7)
      && present 2 (within 0 (n 8 4) 99999999) && present 3 (within 0 (n 12 2) 5000)
      && present 4 (within 1 (n 14 4) 999999) && present 5 (within 1 (n 18 1) 2)
  | .accountRead =>
    within 0 (n 0 1) 0 && meter 1 || within 1 (n 0 1) 1 && within 0 (n 1 5) 16383
  | .meterReplace => meter 0 && meter 5 && within 0 (n 10 1) 63 && within 0 (n 11 1) 15
  | .accountLoad =>
    within 0 (n 0 2) 16383 && within 0 (n 2 1) 2 && within 0 (n 3 1) 63 && within 0 (n 4 1) 15
      && within 0 (n 5 1) 7 && within 0 (n 6 1) 63 && within 0 (n 7 1) 9 && meter 8 && within 0 (n 15 2) 1199
      && within 0 (n 17 4) 16777215 && within 0 (n 21 4) 100000 && within 0 (n 25 4) 99999999
      && within 0 (n 29 2) 5000 && within 0 (n 31 4) 999999 && within 1 (n 35 4) 999999
  | .keyLoad | .keyRetire => within 0 (n 0 1) 63 && within 0 (n 1 1) 15
  | .tariffRead => within 0 (n 0 1) 1
  | .grant => within 1 (n 8 4) 100000000
  | .settingsSet => within 0 (n 0 1) 127
  | .status | .clockRead | .confirm | .cancel | .indexRebuild | .keyList | .tariffLoad | .reserveRead
  | .journalRead | .journalRelease | .journalRetry | .integrityRead | .integrityClear | .settingsRead
  | .tamperClear | .initialise => true

/-- The mask of presence bits, the first from bit 0 (R190). -/
def presenceMask : List Bool → Nat
  | [] => 0
  | b :: r => b.toNat + 2 * presenceMask r

/-- The body of an ACCOUNT_EDIT: the meter number, the mask, and the six fields in their order, zero where absent
(R17, R190). -/
def editBody (meter : Nat) (e : AccountEdit) : List Byte :=
  natBytes 5 meter
    ++ natBytes 1 (presenceMask [e.tariffClass.isSome, e.allowanceFlag.isSome, e.debt.isSome, e.rate.isSome,
        e.maxPerSale.isSome, e.state.isSome])
    ++ natBytes 1 (e.tariffClass.getD 0) ++ natBytes 1 (e.allowanceFlag.getD false).toNat
    ++ natBytes 4 (e.debt.getD 0) ++ natBytes 2 (e.rate.getD 0) ++ natBytes 4 (e.maxPerSale.getD 0)
    ++ natBytes 1 (e.state.getD .free).code

/-- The body of a SETTINGS_SET: the mask and the seven settings in their order, zero where absent (R178, R190). -/
def settingsBody (c : SettingsChange) : List Byte :=
  let all := [c.holdTime, c.idleLimit, c.reversalWindow, c.reissueLimit, c.scrubInterval, c.reserveLow, c.journalNearFull]
  natBytes 1 (presenceMask (all.map Option.isSome)) ++ all.flatMap (fun x => natBytes 4 (x.getD 0))

/-- The body of a TARIFF_LOAD: tax rate, minimum sale, effective time, and for each class its basic allowance, its count
and four pairs of bound and price (R26, R190). -/
def tariffLoadBody (r : TariffLoadReq) : List Byte :=
  natBytes 2 r.tax ++ natBytes 4 r.minSale ++ natBytes 4 r.effective
    ++ r.classes.toList.flatMap (fun c => natBytes 4 c.allowance ++ natBytes 1 c.count
      ++ c.pairs.flatMap (fun b => natBytes 4 b.bound ++ natBytes 4 b.price))

/-- The command that takes a request of a kind (R190). -/
def Kind.command : Kind → Instr
  | .status => .status
  | .clockRead => .clockRead
  | .clockSet => .clockSet
  | .shiftOpen => .shiftOpen
  | .shiftClose => .shiftClose
  | .shiftResume => .shiftResume
  | .shiftRead => .shiftRead
  | .terminalSet => .terminalSet
  | .quote => .quote
  | .confirm => .confirm
  | .cancel => .cancel
  | .reissue => .reissue
  | .reverse => .reverse
  | .accountCreate => .accountCreate
  | .accountEdit => .accountEdit
  | .accountRead => .accountRead
  | .accountClose => .accountClose
  | .meterReplace => .meterReplace
  | .accountLoad => .accountLoad
  | .rekey => .rekey
  | .indexRebuild => .indexRebuild
  | .keyLoad => .keyLoad
  | .keyRetire => .keyRetire
  | .keyList => .keyList
  | .tariffLoad => .tariffLoad
  | .tariffRead => .tariffRead
  | .grant => .grant
  | .reserveRead => .reserveRead
  | .journalRead => .journalRead
  | .journalRelease => .journalRelease
  | .journalRetry => .journalRetry
  | .integrityRead => .integrityRead
  | .integrityClear => .integrityClear
  | .settingsSet => .settingsSet
  | .settingsRead => .settingsRead
  | .tamperClear => .tamperClear
  | .initialise => .initialise

/-- The command that a character on the line is: an end byte completes a frame, every other is received (R168). -/
def characterCommand (b : Byte) : Instr := if b = 0x03 then .frameArrival else .characterReceived b

/-- The state after a sequence of commands, each run in turn; none when one does not answer a next state. -/
def runCommands : List Instr → State → Option State
  | [], s => some s
  | c :: rest, s =>
    match exec c s with
    | .next t => runCommands rest t
    | _ => none

/-! ### Ranges (R2, R3, R119, R191) -/

/-- The numbers of a record's head fit their widths. -/
def RecordHead.fits (h : RecordHead) : Prop :=
  h.seq < 4294967296 ∧ h.time < 4294967296 ∧ h.terminal < 256 ∧ h.shiftNo < 65536 ∧ h.operator < 65536

/-- The figures of a SALE body fit their widths: at most four tariff blocks, and as many ciphertexts as tokens. -/
def SaleBody.fits (b : SaleBody) : Prop :=
  b.slot < 65536 ∧ b.meter < 256 ^ 5 ∧ b.tendered < 4294967296 ∧ b.tax < 4294967296 ∧ b.recovered < 4294967296 ∧
    b.purchased < 16777216 ∧ b.allowance < 16777216 ∧ b.carryBefore < 16777216 ∧ b.carryAfter < 16777216 ∧
    b.monthBefore < 16777216 ∧ b.tokenCount ≤ 3 ∧ b.tokenSeq < 65536 ∧ b.newGen < 256 ∧ b.revokeDelta < 256 ∧
    b.touched.length ≤ 4 ∧ b.ciphers.length = b.tokenCount ∧
    ∀ x ∈ b.touched, x.number < 256 ∧ x.units < 16777216 ∧ x.price < 16777216

/-- An account's fields lie in the ranges of R2 and R3. -/
def Account.inRange (a : Account) : Prop :=
  a.meter ≤ 99999999999 ∧ a.area ≤ 63 ∧ a.keyGen ≤ 15 ∧ a.tariffClass ≤ 7 ∧ a.issueSeq ≤ 65535 ∧
    a.counterMonth ≤ 1199 ∧ a.monthUnits ≤ 16777215 ∧ a.allowanceIssued ≤ 100000 ∧ a.debt ≤ 99999999 ∧
    a.rate ≤ 5000 ∧ a.carry ≤ 999999 ∧ 1 ≤ a.maxPerSale ∧ a.maxPerSale ≤ 999999 ∧ a.lastApplied ≤ 4294967295 ∧
    (∀ l, a.lastSale = some l →
      l.seq ≤ 4294967295 ∧ l.time ≤ 4294967295 ∧ l.tokenSeq ≤ 65535 ∧ l.reissues ≤ 9) ∧
    ∀ r, a.revokePending = some r → r ≤ 65535

/-- The fields of an ACCOUNT_EDIT lie in their ranges, and at least one is present (R17). -/
def AccountEdit.inRange (e : AccountEdit) : Prop :=
  (∀ n, e.tariffClass = some n → n ≤ 7) ∧ (∀ n, e.debt = some n → n ≤ 99999999) ∧
    (∀ n, e.rate = some n → n ≤ 5000) ∧ (∀ n, e.maxPerSale = some n → 1 ≤ n ∧ n ≤ 999999) ∧ e.state ≠ some .free ∧
    e ≠ { tariffClass := none, allowanceFlag := none, debt := none, rate := none, maxPerSale := none, state := none }

/-- Settings fit the four bytes of each. -/
def SettingsChange.fits (c : SettingsChange) : Prop :=
  ∀ x ∈ [c.holdTime, c.idleLimit, c.reversalWindow, c.reissueLimit, c.scrubInterval, c.reserveLow, c.journalNearFull],
    ∀ n, x = some n → n < 4294967296

/-- The fields of a TARIFF_LOAD fit their widths, four pairs to a class. -/
def TariffLoadReq.fits (r : TariffLoadReq) : Prop :=
  r.tax < 65536 ∧ r.minSale < 4294967296 ∧ r.effective < 4294967296 ∧
    ∀ c ∈ r.classes.toList, c.allowance < 4294967296 ∧ c.count < 256 ∧ c.pairs.length = 4 ∧
      ∀ b ∈ c.pairs, b.bound < 4294967296 ∧ b.price < 4294967296

end Sys2Proof.Machine
end

