-- ==== Sys2Proof/Certificates/Slice0/Obligations.lean ====
section
/-!
DEFINITION. Certificates/Slice0/Obligations.lean: the statements for the provers, each a proposition, in the order of
OBLIGATIONS.json: the machine as a whole, the laws every step keeps, the line, the dispatcher, the requests by family,
the events, the effects of records, and the computations.
-/
open Sys2Proof Sys2Proof.Machine

/-! ### The machine as a whole -/

/-- A step with a command at the front of the queue is that command run on the state with the queue's rest. -/
def Obligations.StepRunsFrontCommand : Prop :=
  ∀ (s : State) (c : Instr) (rest : List Instr), s.pending = c :: rest → step s = exec c { s with pending := rest }

/-- With no command waiting (the model's choice, log 3): an unpowered block stands still; a powered one takes a tick,
which every running timer counts, and every thousandth tick is a second step with no word disturbed (R159). -/
def Obligations.EmptyQueueTakesTick : Prop :=
  ∀ s : State, s.pending = [] →
    (s.powered = false → step s = .next s) ∧
    (s.powered = true → s.clock.ticks < 999 → step s = .next
      { s with
        clock := { s.clock with ticks := s.clock.ticks + 1 }
        terms := s.terms.map (tickTerm (!starting s))
        bus := s.bus.map tickBus
        line := tickLine s.line
        scrub := tickScrub (!starting s) s.scrub }) ∧
    (s.powered = true → 999 ≤ s.clock.ticks → step s = exec (.secondStep .quiet) s)

/-- What reset leaves of the items whose values the rules give: no volatile item holds anything, PAUSE is released and
LINK_OVERFLOW clear, the module is STARTING with no journal pointers held, the key store leaves manufacture EMPTY with
its counter, its last applied and the voucher floor 0 and the latch clear, and the clock NOT_SET at reading 0; the
journal device never written (the model's choice, log 1); and every law that the statements below say a step keeps. -/
def Obligations.ResetLeavesManufacturedModuleLawful : Prop :=
  State.reset.pending = [] ∧ starting State.reset = true ∧ State.reset.tx = [] ∧ State.reset.queue = [] ∧
    State.reset.setAsides = 0 ∧ State.reset.copy = none ∧ State.reset.retry = none ∧ State.reset.init = none ∧
    State.reset.reads = [] ∧ State.reset.sysFault = none ∧
    (∀ t, State.reset.term t = { sale := none, lookup := none, idle := .stopped }) ∧
    State.reset.line.arrived = [] ∧ State.reset.line.reception = none ∧ State.reset.line.pause = false ∧
    State.reset.line.overflow = false ∧ State.reset.line.gap = none ∧ State.reset.line.breakTimer = none ∧
    State.reset.secure.slots = [] ∧ State.reset.secure.counter = 0 ∧ State.reset.secure.keyLastApplied = 0 ∧
    State.reset.secure.voucherFloor = 0 ∧ State.reset.secure.tamperLatch = false ∧
    State.reset.clock.reading = 0 ∧ State.reset.clock.state = .notSet ∧ State.reset.clock.alarm = none ∧
    State.reset.mem.sys.signature = none ∧ State.reset.device = [] ∧
    State.reset.mem.wf = true ∧ storesWf State.reset = true ∧ CountsFit State.reset ∧
    State.reset.mem.sys.damage.lawful ∧ State.reset.setAsides = setAsideSum State.reset ∧ RepliesFit State.reset ∧
    BufferFits State.reset ∧ PauseJudged State.reset ∧ FaultHeld State.reset

/-! ### The laws every step keeps -/

/-- Every step keeps the canonical form of account memory, of the journal device and of the key store, whatever words of
memory are disturbed, and the bounds of the write queue, the reading and the scrub position. That other content which a
word of the index hands on comes in canonical form (log 13), and the content of memory after its battery failed too (log
10), is the model's choice. -/
def Obligations.StepKeepsStoresAndBounds : Prop :=
  ∀ s t : State, s.mem.wf = true → storesWf s = true → CountsFit s → step s = .next t →
    t.mem.wf = true ∧ storesWf t = true ∧ CountsFit t

/-- Every step keeps the law of the damage list: no slot twice, never more than 32 slots. That a list which a misread
word or a failed battery leaves comes cut to the law is the model's choice (logs 10 and 13). -/
def Obligations.StepKeepsDamageListLaw : Prop :=
  ∀ s t : State, s.mem.sys.damage.lawful → step s = .next t → t.mem.sys.damage.lawful

/-- Every step keeps the sum of set-asides equal to the total of the set-asides the pending sales hold. -/
def Obligations.StepKeepsSetAsideSum : Prop :=
  ∀ s t : State, s.setAsides = setAsideSum s → step s = .next t → t.setAsides = setAsideSum t

/-- Every step keeps the free entries of the transmit reply queue no fewer than the replies owed. -/
def Obligations.StepKeepsReplyRoom : Prop :=
  ∀ s t : State, RepliesFit s → step s = .next t → RepliesFit t

/-- Every step keeps the receive buffer within its frames and bytes, and PAUSE as the buffer demands it. -/
def Obligations.StepKeepsReceiveBuffer : Prop :=
  ∀ s t : State, BufferFits s → PauseJudged s → step s = .next t → BufferFits t ∧ PauseJudged t

/-- No step changes a factory item; none lowers the voucher floor; and of all commands TAMPER_CLEAR alone clears a set
TAMPER latch. -/
def Obligations.StepKeepsFactoryItemsFloorLatch : Prop :=
  ∀ s t : State, step s = .next t →
    t.secure.factory = s.secure.factory ∧ s.secure.voucherFloor ≤ t.secure.voucherFloor ∧
      (s.secure.tamperLatch = true → s.pending.head? ≠ some .tamperClear → t.secure.tamperLatch = true)

/-- The month index never falls but at the memory-loss initialisation. That the reading is kept when account memory's
battery failed, until that initialisation or for good where R185 step 1 takes no further step, is the model's choice
(log 10). -/
def Obligations.StepNeverLowersMonth : Prop :=
  ∀ s t : State, s.clock.reading ≤ lastReading → (∀ r, s.pending.head? ≠ some (.memoryLossInit r)) →
    step s = .next t → s.month ≤ t.month

/-- Every step keeps a module with a system fault address out of IN_SERVICE: OUT_OF_SERVICE, or STARTING, as one STARTING
by INITIALISE stays when it meets such a word (the model's choice, log 31). -/
def Obligations.StepKeepsFaultOutOfService : Prop :=
  ∀ s t : State, FaultHeld s → step s = .next t → FaultHeld t

/-- A record's effects taken a second time change nothing: every block passes the record over under its own last
applied, as R183 step 1 asks of the record before the head. (A REVERSAL of a damaged slot alone uses a free value afresh
for its reply, so it is left out.) -/
def Obligations.CompletionTakenAgainChangesNothing : Prop :=
  ∀ (s : State) (r : Record) (inService : Bool) (figures : Figures), Sound s →
    (∀ b, r.body = .reversal b → b.slot ∉ s.mem.sys.damage.slots) →
    (applyRecord inService figures r (applyRecord inService figures r s).2).2 = (applyRecord inService figures r s).2

/-- A command whose event cannot occur leaves the state as it stands (the model's choice for every such command, log 2):
without supply, any command other than the second step, the supply's return and the enclosure switch; and a request
while no frame has arrived or behind a frame of another kind. A request the dispatcher may not take waits unchanged too:
while the module is STARTING, and while the replies owed leave no free entry for another (R173, R179). -/
def Obligations.CommandWithoutItsEventChangesNothing : Prop :=
  (∀ (c : Instr) (s : State), s.powered = false →
    (∀ d, c ≠ .secondStep d) → (∀ r, c ≠ .supplyReset r) → (∀ r, c ≠ .tamperSwitchOpening r) →
    c ≠ .enclosureSwitchClosing → exec c s = .next s) ∧
  ∀ (k : Kind) (s : State),
    (starting s = true ∨ 16 ≤ s.tx.length + repliesOwed s ∨ s.line.arrived = [] ∨
      ∃ f rest, s.line.arrived = f :: rest ∧ frameKind f ≠ k.byte) →
    exec k.command s = .next s

/-! ### The line -/

/-- A frame sent as R167 frames and escapes it arrives as its unescaped content: from a powered module whose line is
marking, with no frame in reception, at most three frames waiting and room for the content, a content of 6 to 486 bytes
that ends in its own CRC, taken character by character, ends among the arrived frames, with PAUSE judged again and
nothing else changed. -/
def Obligations.FrameSentIsFrameTaken : Prop :=
  ∀ (s : State) (content : List Byte), s.powered = true → s.line.spacing = false → s.line.reception = none →
    s.line.gap = none → PauseJudged s → s.line.arrived.length ≤ 3 → 4 ≤ content.length → content.length ≤ 484 →
    s.line.used + content.length + 2 ≤ 2048 →
    runCommands ((frameBytes (withCrc content)).map characterCommand) s =
      some { s with line := { s.line with arrived := s.line.arrived ++ [withCrc content] }.judgePause }

/-- What a character other than an end byte does on a powered, marking line: a start byte begins a frame afresh, or
overflows with four frames waiting; outside a frame any other byte is passed over; the escape byte is held; the byte
after it is taken exclusive-OR 0x20; a byte is taken while there is room for it, overflows the buffer past 2,048 bytes,
and ends the frame past 486. PAUSE is judged at each. That the escape byte starts the gap timer again, and that a byte
past both limits is an overflow, is the model's choice (log 23). -/
def Obligations.CharacterIsTaken : Prop :=
  ∀ (s : State) (b : Byte), s.powered = true → s.line.spacing = false → b ≠ 0x03 →
    let l := s.line
    let took (x : Byte) (r : Reception) : LineState :=
      if 2048 < l.used + 1 then { l with reception := none, gap := none, overflow := true }
      else if 486 < r.content.length + 1 then { l with reception := none, gap := none }
      else { l with reception := some { content := r.content ++ [x], escape := false }, gap := some 50 }
    (b = 0x02 → l.arrived.length ≤ 3 → exec (.characterReceived b) s = .next
      { s with line := { l with reception := some { content := [], escape := false }, gap := some 50 }.judgePause }) ∧
    (b = 0x02 → 4 ≤ l.arrived.length → exec (.characterReceived b) s = .next
      { s with line := { l with reception := none, gap := none, overflow := true }.judgePause }) ∧
    (b ≠ 0x02 → l.reception = none → exec (.characterReceived b) s = .next s) ∧
    (∀ r, b = 0x10 → l.reception = some r → r.escape = false → exec (.characterReceived b) s = .next
      { s with line := { l with reception := some { r with escape := true }, gap := some 50 }.judgePause }) ∧
    (∀ r, b ≠ 0x02 → l.reception = some r → r.escape = true →
      exec (.characterReceived b) s = .next { s with line := (took (b ^^^ 0x20) r).judgePause }) ∧
    (∀ r, b ≠ 0x02 → b ≠ 0x10 → l.reception = some r → r.escape = false →
      exec (.characterReceived b) s = .next { s with line := (took b r).judgePause })

/-- The other events of the line: the end byte completes the frame in reception, which arrives when it has at least 6
bytes, its CRC matches and no escape byte stands before the end byte, and is discarded without a reply otherwise; a
framing error and the gap timer's running out each discard the frame in reception alone; the line's entering the spacing
state starts the break timer for 100 ms and its return to marking stops it; and the end of a sent reply frees the entry
at the front of the transmit reply queue. -/
def Obligations.LineEventsTouchLineAlone : Prop :=
  ∀ s : State, s.powered = true →
    let discarded : State := { s with line := { s.line with reception := none, gap := none }.judgePause }
    (∀ r, s.line.spacing = false → s.line.reception = some r →
      let good := 6 ≤ r.content.length ∧ crcMatches r.content = true ∧ r.escape = false
      (good → exec .frameArrival s = .next
        { s with line := { s.line with reception := none, gap := none,
                                       arrived := s.line.arrived ++ [r.content] }.judgePause }) ∧
      (¬ good → exec .frameArrival s = .next discarded)) ∧
    (∀ r, s.line.reception = some r → exec .framingError s = .next discarded) ∧
    (s.line.gap = some 0 → exec .gapTimerExpiry s = .next discarded) ∧
    (s.line.spacing = false → exec .lineEntersSpacing s = .next
      { s with line := { s.line with spacing := true, breakTimer := some 100 } }) ∧
    exec .lineReturnsToMarking s = .next { s with line := { s.line with spacing := false, breakTimer := none } } ∧
    ∀ r rest, s.tx = r :: rest → exec .replySent s = .next { s with tx := rest }

/-- A link reset empties the receive buffer and the transmit reply queue, discards the frame in reception, stops the gap
timer, releases PAUSE, clears LINK_OVERFLOW and the reply indication of every work item, and leaves all else, the work
itself among it: no reply is owed after it, and no second reset follows before the line has returned to marking. -/
def Obligations.LinkResetDropsRepliesNotWork : Prop :=
  ∀ s : State, s.powered = true → s.line.breakTimer = some 0 →
    ∃ t, exec .linkReset s = .next t ∧
      t = { s with
        tx := []
        line := { s.line with reception := none, gap := none, arrived := [], pause := false, overflow := false,
                              breakTimer := none }
        queue := s.queue.map (fun e => { e with replyDue := false })
        terms := s.terms.map (fun w => { w with lookup := w.lookup.map Lookup.silence })
        retry := s.retry.map (fun r => { r with replyDue := false })
        init := s.init.map (fun i => { i with replyDue := false }) } ∧
      repliesOwed t = 0 ∧ exec .linkReset t = .next t

/-! ### The dispatcher -/

/-- The dispatcher's own refusals: UNKNOWN_REQUEST for a frame of no known kind, its kind byte returned with bit 7 set;
and for every kind of request, in their order: BAD_FIELD for a terminal byte above 7, BAD_LENGTH for a body of another
length, NOT_PERMITTED for a role without access, TERMINAL_STATE for a terminal whose shift is not OPEN or is changing,
BAD_FIELD for a field out of its range. The first three change nothing else; at the last three the idle timer takes its
condition afresh. -/
def Obligations.DispatcherRefusesInOrder : Prop :=
  (∀ (s : State) (f : List Byte) (rest : List (List Byte)), Sound s → s.line.arrived = f :: rest → mayTake s = true →
    knownKind (frameKind f) = false →
    exec .unknownRequest s = .next (withReply
      { kind := frameKind f ||| 0x80, terminal := frameTerminal f, tag := frameTag f, result := .unknownRequest,
        flags := statusFlags s, body := .empty } (takeFrame s))) ∧
  ∀ (k : Kind) (s : State) (f : List Byte) (rest : List (List Byte)), Sound s → s.line.arrived = f :: rest →
    mayTake s = true → frameKind f = k.byte →
    (8 ≤ (frameTerminal f).toNat → exec k.command s = .next (withReply
      { kind := k.byte ||| 0x80, terminal := frameTerminal f, tag := frameTag f, result := .badField,
        flags := statusFlags s, body := .empty } (takeFrame s))) ∧
    ∀ t : Fin 8, frameTerminal f = terminalByte t →
      ((frameBody f).length ≠ k.bodyLength → exec k.command s = .next (withReply
        { kind := k.byte ||| 0x80, terminal := frameTerminal f, tag := frameTag f, result := .badLength,
          flags := statusFlags s, body := .empty } (takeFrame s))) ∧
      ((frameBody f).length = k.bodyLength → allowed k (roleFor t s) t (frameBody f) = false →
        exec k.command s = .next (answered k t (frameTag f) .notPermitted .empty (handed t s))) ∧
      ((frameBody f).length = k.bodyLength → allowed k (roleFor t s) t (frameBody f) = true → shiftFree k = false →
        rescue k t s = false → ((s.mem.sys.terms.get t).shift ≠ .opened ∨ shiftChange t s = true) →
        exec k.command s = .next (answered k t (frameTag f) .terminalState .empty (handed t s))) ∧
      ((frameBody f).length = k.bodyLength → allowed k (roleFor t s) t (frameBody f) = true →
        (shiftFree k = true ∨ rescue k t s = true ∨
          (s.mem.sys.terms.get t).shift = .opened ∧ shiftChange t s = false) →
        fieldsInRange k (frameBody f) = false →
        exec k.command s = .next (answered k t (frameTag f) .badField .empty (handed t s)))

/-- A DISABLED terminal has STATUS alone; an AUDITOR changes nothing of the accounts, the keys, the tariffs, the sale or
the reserve; a CLERK reaches no request of the supervisor; and CLERK and AUDITOR act on their own shift alone. -/
def Obligations.RolesHaveTheirAccess : Prop :=
  (∀ (k : Kind) (t : Fin 8) (body : List Byte), allowed k .disabled t body = true ↔ k = .status) ∧
    (∀ (k : Kind) (t : Fin 8) (body : List Byte), allowed k .supervisor t body = true) ∧
    (∀ (k : Kind) (t : Fin 8) (body : List Byte), allowed k .clerk t body = true ↔
      k ∈ [Kind.status, .clockRead, .accountRead, .shiftOpen, .shiftResume, .quote, .confirm, .cancel, .reissue] ∨
        k ∈ [Kind.shiftClose, .shiftRead] ∧ byteAt 0 body = t.val) ∧
    ∀ (k : Kind) (t : Fin 8) (body : List Byte), allowed k .auditor t body = true ↔
      k ∈ [Kind.status, .clockRead, .accountRead, .shiftOpen, .shiftResume, .tariffRead, .keyList, .reserveRead,
        .settingsRead, .integrityRead, .journalRead, .journalRelease] ∨
        k ∈ [Kind.shiftClose, .shiftRead] ∧ byteAt 0 body = t.val

/-- The bodies of requests hold their fields in the order and widths of R190, most significant byte first: the numbers
written so are the numbers read. An absent field of ACCOUNT_EDIT and SETTINGS_SET is written as zero. That the pairs of
a TARIFF_LOAD beyond the count of tariff blocks are read whatever they hold is the model's choice (log 17). -/
def Obligations.RequestBodiesReadAsLaidOut : Prop :=
  (∀ m t, m ≤ 99999999999 → 1 ≤ t → t ≤ 5000000 →
    parseQuote (natBytes 5 m ++ natBytes 1 0 ++ natBytes 4 t) = some { meter := m, mode := .sale, tendered := t } ∧
    parseQuote (natBytes 5 m ++ natBytes 1 1 ++ natBytes 4 t) =
      some { meter := m, mode := .payment, tendered := t }) ∧
  (∀ m, m ≤ 99999999999 → parseMeter (natBytes 5 m) = some m ∧
    parseAccountRead (natBytes 1 0 ++ natBytes 5 m) = some (.meter m)) ∧
  (∀ n, n ≤ 16383 → parseAccountRead (natBytes 1 1 ++ natBytes 5 n) = some (.slot n)) ∧
  (∀ r, r ≤ lastReading → parseReading (natBytes 4 r) = some r) ∧
  (∀ op, op ≤ 9999 → parseOperator (natBytes 2 op) = some op) ∧
  (∀ m a g c d r x, m ≤ 99999999999 → a ≤ 63 → g ≤ 15 → c ≤ 7 → d ≤ 99999999 → r ≤ 5000 → 1 ≤ x → x ≤ 999999 →
    ∀ flag : Bool, parseCreate (natBytes 5 m ++ natBytes 1 a ++ natBytes 1 g ++ natBytes 1 c ++ natBytes 1 flag.toNat
      ++ natBytes 4 d ++ natBytes 2 r ++ natBytes 4 x) =
      some { meter := m, area := a, gen := g, tariffClass := c, allowanceFlag := flag, debt := d, rate := r,
             maxPerSale := x }) ∧
  (∀ m n a g, m ≤ 99999999999 → n ≤ 99999999999 → a ≤ 63 → g ≤ 15 →
    parseReplace (natBytes 5 m ++ natBytes 5 n ++ natBytes 1 a ++ natBytes 1 g) =
      some { meter := m, newMeter := n, area := a, gen := g }) ∧
  (∀ (n amount : Nat) (serial : BitVec 32) (code : BitVec 64), n ≤ 4294967295 → 1 ≤ amount → amount ≤ 100000000 →
    parseGrant (natBytes 4 n ++ natBytes 4 serial.toNat ++ natBytes 4 amount ++ natBytes 8 code.toNat) =
      some { number := n, serial := serial, amount := amount, authority := code }) ∧
  (∀ (a g : Nat) (block : Key128) (check : BitVec 32), a ≤ 63 → g ≤ 15 →
    parseKeyLoad (natBytes 1 a ++ natBytes 1 g ++ natBytes 16 block.toNat ++ natBytes 4 check.toNat) =
      some { area := a, gen := g, keyBlock := block, checkValue := check }) ∧
  (∀ t : Fin 8, parseTarget (natBytes 1 t.val) = some t) ∧
  (∀ p : Bool, parseSelector (natBytes 1 p.toNat) = some p) ∧
  (∀ (t : Fin 8) (r : Role), parseTerminalSet (natBytes 1 t.val ++ natBytes 1 r.code) = some (t, r)) ∧
  (∀ a g, a ≤ 63 → g ≤ 15 → parseKeyRetire (natBytes 1 a ++ natBytes 1 g) = some (a, g)) ∧
  (∀ (m : Nat) (e : AccountEdit), m ≤ 99999999999 → e.inRange → parseEdit (editBody m e) = some (m, e)) ∧
  (∀ (n : Nat) (a : Account), n ≤ 16383 → a.inRange →
    parseLoad (natBytes 2 n ++ accountImage a) = some { slot := n, image := a, zeros := a.lastApplied == 0 }) ∧
  (∀ r : TariffLoadReq, r.fits → parseTariffLoad (tariffLoadBody r) = some r) ∧
  (∀ c : SettingsChange, c.fits → parseSettings (settingsBody c) = some c) ∧
  (∀ n c, n ≤ 4294967295 → c ≤ 255 → parseJournalRead (natBytes 4 n ++ natBytes 1 c) = some (n, c) ∧
    parseRelease (natBytes 4 n) = some n)

/-! ### The requests answered at once -/

/-- STATUS and CLOCK_READ, whatever the module's service state (STATUS whatever the shift and the role), and
SETTINGS_READ and INTEGRITY_READ, are answered with the figures of their rules and change nothing but the line and the
idle timer. CLOCK_READ carries no body and is allowed to every role but DISABLED. No word of account memory is
disturbed. The model's choices: the free entries and the replies owed of STATUS are those before its own reply enters
(log 18), its unreleased count is 0 while the copy holds no pointers (log 42), and CLOCK_READ gives the counter as
saturated as soon as the reading stands at its last second (log 50). -/
def Obligations.ReadsInEveryServiceState : Prop :=
  ∀ (t : Fin 8) (tag : Tag) (s : State),
    (Sound s → Presents .status t tag [] s → exec .status s = .next (answered .status t tag .ok
      (.status {
        inService := s.mode == .inService
        sysFaultPresent := s.sysFault.isSome
        serial := s.secure.factory.serial
        speed := s.line.speed
        reading := s.clock.reading
        clockState := s.clock.state
        journalState := journalState s
        pointers := s.copy.map (fun c => { head := c.head, tail := c.tail })
        unreleased := unreleased s
        queued := s.queue.length
        indexCount := s.mem.index.count
        indexDamaged := s.mem.index.damaged
        freeReplies := 16 - s.tx.length
        repliesOwed := repliesOwed s
        role := roleFor t s
        shift := (s.mem.sys.terms.get t).shift
        shiftNo := (s.mem.sys.terms.get t).shiftNo
        sale := (s.term t).sale.map (·.state) }) (handed t s))) ∧
    (Asks .clockRead t tag [] s → exec .clockRead s = .next (answered .clockRead t tag .ok
      (.clock {
        reading := s.clock.reading
        calendar := calendarOf s.clock.reading
        monthIndex := s.month
        state := s.clock.state
        saturated := decide (s.clock.reading = 3155759999)
        lastApplied := s.clock.lastApplied
        recordWaiting := clockQueued s
        alarm := s.clock.alarm }) (handed t s))) ∧
    Kind.clockRead.bodyLength = 0 ∧ (∀ r : Role, allowed .clockRead r t [] = true ↔ r ≠ .disabled) ∧
    (Asks .settingsRead t tag [] s → exec .settingsRead s = .next (answered .settingsRead t tag .ok
      (.settings s.mem.sys.settings s.mem.sys.settingsApplied (settingsQueued s)) (handed t s))) ∧
    (Asks .integrityRead t tag [] s → exec .integrityRead s = .next (answered .integrityRead t tag .ok
      (.integrity {
        log := some s.mem.sys.errorLog
        lastErrorSlot := s.mem.sys.errorLog.last.bind (fun e => if e.addr < 131072 then some (e.addr / 8) else none)
        damage := some s.mem.sys.damage
        indexDamaged := s.mem.index.damaged
        indexCount := s.mem.index.count
        sysFault := s.sysFault
        scrubPos := s.scrub.pos
        scrubInterval := s.mem.sys.settings.scrubInterval }) (handed t s)))

/-- SHIFT_READ, KEY_LIST, TARIFF_READ and RESERVE_READ in an IN_SERVICE module are answered with what their owners hold;
a TARIFF_READ of an absent bank is refused with NO_TARIFF, and one out of service with OUT_OF_SERVICE, each with the
last bank id and the presence of each bank. The available reserve of RESERVE_READ is the balance less the sum of
set-asides, where the law of R93 holds (elsewhere a free value, log 12). The idle figure of SHIFT_READ is taken after the
request's own restart of the timer (the model's choice, log 18). -/
def Obligations.ReadsInService : Prop :=
  ∀ (t : Fin 8) (tag : Tag) (body : List Byte) (s : State),
    (∀ p, Asks .tariffRead t tag body s → parseSelector body = some p → s.mode = .outOfService →
      exec .tariffRead s = .next (answered .tariffRead t tag .outOfService
        (.tariff { bank := none, effective := none, lastId := s.mem.sys.tariffs.lastId,
                   activePresent := s.mem.sys.tariffs.active.isSome,
                   pendingPresent := s.mem.sys.tariffs.pending.isSome }) (handed t s))) ∧
    (s.mode = .inService →
    (∀ u, Asks .shiftRead t tag body s → parseTarget body = some u →
      exec .shiftRead s = .next (answered .shiftRead t tag .ok
        (.shift {
          role := roleFor u s
          shift := (s.mem.sys.terms.get u).shift
          operator := (s.mem.sys.terms.get u).operator
          shiftNo := (s.mem.sys.terms.get u).shiftNo
          lastApplied := (s.mem.sys.terms.get u).lastApplied
          totals := (s.mem.sys.terms.get u).totals
          changeInFlight := shiftChange u s
          sale := (s.term u).sale.map viewSale
          lookupInFlight := (s.term u).lookup.isSome
          idle := idleSeconds ((handed t s).term u).idle }) (handed t s))) ∧
    (Asks .keyList t tag body s → exec .keyList s = .next (answered .keyList t tag .ok
      (.keyList {
        slots := (List.range 16).map (fun n => (SMap.find n s.secure.slots).map (fun k =>
          { state := k.state, area := k.area, gen := k.gen, checkValue := checkValueOf k.key }))
        counter := s.secure.counter
        lastApplied := s.secure.keyLastApplied
        serial := s.secure.factory.serial
        currentGens := (List.range 64).map (fun a => currentGen a s.secure.slots) }) (handed t s))) ∧
    (∀ bank eff, Asks .tariffRead t tag body s → parseSelector body = some true →
      s.mem.sys.tariffs.pending = some (bank, eff) →
      exec .tariffRead s = .next (answered .tariffRead t tag .ok
        (.tariff { bank := some bank, effective := some eff, lastId := s.mem.sys.tariffs.lastId,
                   activePresent := s.mem.sys.tariffs.active.isSome, pendingPresent := true }) (handed t s))) ∧
    (∀ bank, Asks .tariffRead t tag body s → parseSelector body = some false →
      s.mem.sys.tariffs.active = some bank →
      exec .tariffRead s = .next (answered .tariffRead t tag .ok
        (.tariff { bank := some bank, effective := none, lastId := s.mem.sys.tariffs.lastId, activePresent := true,
                   pendingPresent := s.mem.sys.tariffs.pending.isSome }) (handed t s))) ∧
    (Asks .tariffRead t tag body s → parseSelector body = some false → s.mem.sys.tariffs.active = none →
      exec .tariffRead s = .next (answered .tariffRead t tag .noTariff
        (.tariff { bank := none, effective := none, lastId := s.mem.sys.tariffs.lastId, activePresent := false,
                   pendingPresent := s.mem.sys.tariffs.pending.isSome }) (handed t s))) ∧
    (Asks .tariffRead t tag body s → parseSelector body = some true → s.mem.sys.tariffs.pending = none →
      exec .tariffRead s = .next (answered .tariffRead t tag .noTariff
        (.tariff { bank := none, effective := none, lastId := s.mem.sys.tariffs.lastId,
                   activePresent := s.mem.sys.tariffs.active.isSome, pendingPresent := false }) (handed t s))) ∧
    (Asks .reserveRead t tag body s → ∃ available,
      (s.setAsides ≤ s.mem.sys.reserve.balance → available = s.mem.sys.reserve.balance - s.setAsides) ∧
      exec .reserveRead s = .next (answered .reserveRead t tag .ok
      (.reserve {
        balance := s.mem.sys.reserve.balance
        totalGranted := s.mem.sys.reserve.totalGranted
        totalIssued := s.mem.sys.reserve.totalIssued
        lastVoucher := s.mem.sys.reserve.lastVoucher
        voucherFloor := s.secure.voucherFloor
        lastApplied := s.mem.sys.reserve.lastApplied
        setAsides := s.setAsides
        available := available
        holding := (s.terms.toList.filter (fun w => w.sale.any (fun p => p.setAside != 0))).length
        prospective := prospectiveBalance s.mem.sys.reserve s
        highestVoucher := highestVoucher s.mem.sys.reserve s
        threshold := s.mem.sys.settings.reserveLow }) (handed t s))))

/-- ACCOUNT_READ in an IN_SERVICE module, by meter number or by slot: the record of an undamaged slot as it reads in the
current month (R4), whether the slot is busy and the terminal whose pending sale holds it; a FREE slot reads as FREE; a
damaged one is refused with ACCOUNT_DAMAGED. -/
def Obligations.AccountReadGivesRecordOfMonth : Prop :=
  ∀ (t : Fin 8) (tag : Tag) (body : List Byte) (s : State) (slot : Nat), Asks .accountRead t tag body s →
    s.mode = .inService →
    ((∃ m, parseAccountRead body = some (.meter m) ∧ s.mem.index.damaged = false ∧
        SMap.find m s.mem.index.entries = some { slot := slot, kind := .live }) ∨
      parseAccountRead body = some (.slot slot)) →
    let a := s.mem.accounts.read slot
    let read := if a.counterMonth = s.month then a else { a with monthUnits := 0, allowanceIssued := 0 }
    (slot ∉ s.mem.sys.damage.slots → a.state ≠ .free →
      exec .accountRead s = .next (answered .accountRead t tag .ok
        (.account read (busy slot s) (saleHolder slot s)) (handed t s))) ∧
    (slot ∉ s.mem.sys.damage.slots → a.state = .free →
      exec .accountRead s = .next (answered .accountRead t tag .ok .freeAccount (handed t s))) ∧
    (slot ∈ s.mem.sys.damage.slots →
      exec .accountRead s = .next (answered .accountRead t tag .accountDamaged .empty (handed t s)))

/-! ### The requests that queue a record -/

/-- CLOCK_SET, TERMINAL_SET and SETTINGS_SET in an IN_SERVICE module that admits a record queue theirs, and change
nothing else: a reading not of an earlier month with no CLOCK record waiting; a role for a terminal other than 0 whose
shift is CLOSED; the present settings, each clamped to its range, with those requested kept for the reply. That nothing else changes, the
stopped idle timer of the CLOSED target of a TERMINAL_SET among it, is the model's choice where R116 has the timer held:
a hold begins at a running timer alone (log 33). -/
def Obligations.OfficeRequestsQueueTheirRecords : Prop :=
  ∀ (t : Fin 8) (tag : Tag) (body : List Byte) (s : State), s.mode = .inService → Admits s →
    (∀ n, Asks .clockSet t tag body s → parseReading body = some n → clockQueued s = false →
      s.month ≤ monthOf n → exec .clockSet s = .next (withRecord t tag (.clock n) .none (handed t s))) ∧
    (∀ u role, Asks .terminalSet t tag body s → parseTerminalSet body = some (u, role) → u ≠ 0 →
      (s.mem.sys.terms.get u).shift = .closed → shiftChange u s = false →
      exec .terminalSet s = .next (withRecord t tag (.terminal u role) .none (handed t s))) ∧
    (∀ c, Asks .settingsSet t tag body s → parseSettings body = some c → c.any = true →
      exec .settingsSet s = .next (withRecord t tag (.settings
        { holdTime := c.holdTime.map (fun n => max 30 (min 900 n))
          idleLimit := c.idleLimit.map (fun n => max 1 (min 120 n))
          reversalWindow := c.reversalWindow.map (fun n => min 60 n)
          reissueLimit := c.reissueLimit.map (fun n => min 9 n)
          scrubInterval := c.scrubInterval.map (fun n => min 1000 n)
          reserveLow := c.reserveLow.map (fun n => min 2000000000 n)
          journalNearFull := c.journalNearFull.map (fun n => max 1 (min 4096 n)) }) (.settings c) (handed t s)))

/-- SHIFT_OPEN of a CLOSED shift with no change in flight: in service it queues a record with the next shift number and
the operator code carried; from terminal 0, when the module is OUT_OF_SERVICE or the journal is FAULTED or full, it
opens the shift at once without a record, totals zero, its last applied as it stood, and the idle timer started.
SHIFT_CLOSE of an OPEN shift (a SUSPENDED one too when it is not the sender's), with no pending sale, lookup or queued
reissue or reversal of the target, queues a record with the target's shift number, operator and totals and holds the
target's idle timer. SHIFT_RESUME of a SUSPENDED shift with its own operator code makes it OPEN at once and starts the
idle timer. That a hold begins at a running timer alone, a stopped one staying stopped, is the model's choice (log 33).
-/
def Obligations.ShiftRequestsAreTaken : Prop :=
  (∀ (t : Fin 8) (tag : Tag) (body : List Byte) (s : State) (op : Nat), Sound s → Presents .shiftOpen t tag body s →
    allowed .shiftOpen (roleFor t s) t body = true → parseOperator body = some op →
    (s.mem.sys.terms.get t).shift = .closed → shiftChange t s = false →
    let e := s.mem.sys.terms.get t
    let no := (e.shiftNo + 1) % 65536
    (s.mode = .inService → Admits s →
      exec .shiftOpen s = .next (withRecordAs t tag no op .shiftOpen .none (handed t s))) ∧
    (t = 0 → (s.mode = .outOfService ∨ admission s = some .journalFault ∨ admission s = some .journalFull) →
      let opened := (handed t s).setSys { s.mem.sys with
        terms := s.mem.sys.terms.put t { e with shift := .opened, operator := op, shiftNo := no, totals := .zero } }
      exec .shiftOpen s =
        .next (answered .shiftOpen t tag .ok (.shiftOpenedUnrecorded no) (restartIdle t opened)))) ∧
  ∀ (t : Fin 8) (tag : Tag) (body : List Byte) (s : State),
    (∀ u, Asks .shiftClose t tag body s → s.mode = .inService → Admits s → parseTarget body = some u →
      shiftChange u s = false →
      ((s.mem.sys.terms.get u).shift = .opened ∨ u ≠ t ∧ (s.mem.sys.terms.get u).shift = .suspended) →
      (s.term u).sale = none → (s.term u).lookup = none → vendQueued u s = false →
      let e := s.mem.sys.terms.get u
      exec .shiftClose s = .next (holdIdle u (withRecord t tag
        (.shiftClose { target := u, shiftNo := e.shiftNo, operator := e.operator, totals := e.totals }) .none
        (handed t s)))) ∧
    (∀ op, Sound s → Presents .shiftResume t tag body s → allowed .shiftResume (roleFor t s) t body = true →
      parseOperator body = some op → (s.mem.sys.terms.get t).shift = .suspended → shiftChange t s = false →
      (s.mem.sys.terms.get t).operator = op →
      let opened := (handed t s).setSys { s.mem.sys with
        terms := s.mem.sys.terms.put t { s.mem.sys.terms.get t with shift := .opened } }
      exec .shiftResume s = .next (answered .shiftResume t tag .ok
        (.shiftResumed (s.mem.sys.terms.get t).shiftNo op) (restartIdle t opened)))

/-- ACCOUNT_CREATE of a number neither in the index nor claimed takes the lowest slot that is FREE, unclaimed and not
listed as damaged, and queues a record with it. ACCOUNT_EDIT, ACCOUNT_CLOSE (of an account without debt), REKEY and
METER_REPLACE (to a number neither in the index nor claimed, with index space for it) of an account whose meter number
leads to an undamaged slot that is not busy each queue their record. ACCOUNT_LOAD of a slot that is not busy, with an
image not of a later month whose absent parts are zero, queues its record: a FREE image at once; another when the index
is sound, the number is in it for this slot or not at all, it is not claimed, and there is an entry for it. That a FREE
slot which a queued ACCOUNT_LOAD names is not claimed, so that an ACCOUNT_CREATE may take it, is the model's choice (log
48). -/
def Obligations.AccountRequestsQueueTheirRecords : Prop :=
  (∀ (t : Fin 8) (tag : Tag) (body : List Byte) (s : State) (a : NewAccount) (slot : Nat),
    Asks .accountCreate t tag body s → parseCreate body = some a → Serving s → Admits s →
    s.mem.index.damaged = false → SMap.find a.meter s.mem.index.entries = none → claimed a.meter s = false →
    s.mem.index.count + claimedCount s < 24576 →
    let takes (n : Nat) : Prop :=
      (s.mem.accounts.read n).state = .free ∧ claimedSlot n s = false ∧ n ∉ s.mem.sys.damage.slots
    slot < 16384 → takes slot → (∀ n < slot, ¬ takes n) →
    exec .accountCreate s = .next (withRecord t tag (.account (.create slot a)) .none (handed t s))) ∧
  (∀ (t : Fin 8) (tag : Tag) (body : List Byte) (s : State) (slot : Nat), Serving s → Admits s → busy slot s = false →
    (∀ m e, Asks .accountEdit t tag body s → parseEdit body = some (m, e) → Leads m slot s →
      exec .accountEdit s = .next (withRecord t tag (.account (.edit slot m e)) .none (handed t s))) ∧
    (∀ m, Asks .accountClose t tag body s → parseMeter body = some m → Leads m slot s →
      (s.mem.accounts.read slot).debt = 0 →
      exec .accountClose s = .next (withRecord t tag (.account (.close slot m)) .none (handed t s))) ∧
    (∀ m, Asks .rekey t tag body s → parseMeter body = some m → Leads m slot s →
      exec .rekey s = .next (withRecord t tag (.account (.rekey slot m)) .none (handed t s))) ∧
    (∀ r, Asks .meterReplace t tag body s → parseReplace body = some r → Leads r.meter slot s →
      SMap.find r.newMeter s.mem.index.entries = none → claimed r.newMeter s = false →
      s.mem.index.count + claimedCount s < 24576 →
      exec .meterReplace s = .next (withRecord t tag
        (.account (.replace slot r.meter r.newMeter r.area r.gen)) .none (handed t s)))) ∧
  ∀ (t : Fin 8) (tag : Tag) (body : List Byte) (s : State) (r : LoadReq), Asks .accountLoad t tag body s →
    parseLoad body = some r → Serving s → Admits s → r.image.counterMonth ≤ s.month → r.zeros = true →
    busy r.slot s = false →
    (r.image.state = .free ∨
      s.mem.index.damaged = false ∧
        (SMap.find r.image.meter s.mem.index.entries = none ∨
          SMap.find r.image.meter s.mem.index.entries = some { slot := r.slot, kind := .live }) ∧
        claimed r.image.meter s = false ∧
        (liveAt r.slot s = true ∨ s.mem.index.count + claimedCount s < 24576)) →
    exec .accountLoad s = .next (withRecord t tag (.account (.load r.slot r.image)) .none (handed t s))

/-- INDEX_REBUILD in an IN_SERVICE module answers with the rebuilt index, in which a meter number leads to the lowest
slot that holds it among the slots neither FREE nor listed as damaged before it, and to no other; the indication is
clear, the count is the number of LIVE entries, and no record is written. The count of slots passed over or added to the
damage list is the model's (log 26). -/
def Obligations.IndexRebuildFindsLowestHolder : Prop :=
  ∀ (t : Fin 8) (tag : Tag) (s : State), Asks .indexRebuild t tag [] s → s.mode = .inService →
    let r := rebuildFrom 16384 0 { passed := 0, state := emptyIndex (handed t s) }
    exec .indexRebuild s =
      .next (answered .indexRebuild t tag .ok (.rebuilt r.state.mem.index.count r.passed) r.state) ∧
    r.state.mem.index.damaged = false ∧ r.state.mem.accounts = s.mem.accounts ∧ r.state.queue = s.queue ∧
    r.state.mem.index.count = (r.state.mem.index.entries.filter (fun x => x.2.kind == .live)).length ∧
    ∀ (m : Nat) (e : IndexEntry),
      let holds (n : Nat) : Prop :=
        n < 16384 ∧ n ∉ s.mem.sys.damage.slots ∧ (s.mem.accounts.read n).state ≠ .free ∧
          (s.mem.accounts.read n).meter = m
      (SMap.find m r.state.mem.index.entries = some e ↔
        e.kind = .live ∧ holds e.slot ∧ ∀ n < e.slot, ¬ holds n)

/-- KEY_LOAD with the latch clear, of a block whose check value agrees, for an area and generation no slot and no queued
KEY record names, queues a record with the lowest EMPTY slot no queued load names. KEY_RETIRE of one that a slot holds
queues a RETIRE record against an ACTIVE slot and an ERASE record against a RETIRED one. -/
def Obligations.KeyRequestsQueueTheirRecords : Prop :=
  ∀ (t : Fin 8) (tag : Tag) (body : List Byte) (s : State) (slot : Nat), Serving s → Admits s →
    (∀ r, Asks .keyLoad t tag body s → parseKeyLoad body = some r → s.secure.tamperLatch = false →
      checkValueOf (openKeyBlock s.secure.factory.transportKey r.keyBlock) = r.checkValue →
      keySlotOf r.area r.gen s.secure.slots = none → keyClaimed r.area r.gen s = false →
      slot < 16 → SMap.find slot s.secure.slots = none → keySlotClaimed slot s = false →
      (∀ n < slot, SMap.find n s.secure.slots ≠ none ∨ keySlotClaimed n s = true) →
      exec .keyLoad s = .next (withRecord t tag (.key
        { action := .load, area := r.area, gen := r.gen, slot := slot, keyBlock := r.keyBlock,
          checkValue := r.checkValue }) .none (handed t s))) ∧
    (∀ area gen k, Asks .keyRetire t tag body s → parseKeyRetire body = some (area, gen) →
      keySlotOf area gen s.secure.slots = some (slot, k) → keyClaimed area gen s = false →
      exec .keyRetire s = .next (withRecord t tag (.key
        { action := if k.state = .active then .retire else .erase, area := area, gen := gen, slot := slot,
          keyBlock := 0, checkValue := 0 }) .none (handed t s)))

/-- TARIFF_LOAD of a valid bank, with no QUOTED sale under the id it would take, queues a record with that id: one more
than the id of the last TARIFF record queued, or than the last bank id, 0 after 255. A bank that fails the validation is
refused with BAD_TARIFF and the failure. Which failure is named for a bank with several (the first of the nine checks
that fails over all classes and blocks), that a bound of 0 does not fail check 8, and that blocks are numbered from 1,
is the model's choice (log 22). -/
def Obligations.TariffLoadQueuesBank : Prop :=
  ∀ (t : Fin 8) (tag : Tag) (body : List Byte) (s : State) (r : TariffLoadReq), Asks .tariffLoad t tag body s →
    parseTariffLoad body = some r → Serving s →
    (∀ id, bankInvalid r = none → Admits s →
      (∀ b eff, (s.queue.reverse.findSome? (fun e => match e.record.body with
        | .tariff b eff => some (b, eff)
        | _ => none)) = some (b, eff) → id = (b.id + 1) % 256) →
      ((s.queue.reverse.findSome? (fun e => match e.record.body with
        | .tariff b eff => some (b, eff)
        | _ => none)) = none → id = (s.mem.sys.tariffs.lastId + 1) % 256) →
      quotedUnder id s = false →
      exec .tariffLoad s = .next (withRecord t tag (.tariff (r.bank id) r.effective) .none (handed t s))) ∧
    ∀ why, bankInvalid r = some why →
      exec .tariffLoad s = .next (answered .tariffLoad t tag .badTariff why (handed t s))

/-- GRANT of a voucher for this module with a good authority code, a number above every one applied or queued, and room
for its amount once all that is queued has completed, queues a record; a number not above them is refused with
VOUCHER_USED. -/
def Obligations.GrantQueuesVoucher : Prop :=
  ∀ (t : Fin 8) (tag : Tag) (body : List Byte) (s : State) (v : Voucher), Asks .grant t tag body s →
    parseGrant body = some v → Serving s → v.serial = s.secure.factory.serial →
    v.authority = authorityCode s.secure.factory v.number v.amount →
    (highestVoucher s.mem.sys.reserve s < v.number →
      prospectiveBalance s.mem.sys.reserve s + v.amount ≤ 2000000000 →
      s.mem.sys.reserve.totalGranted + queuedGrants s + v.amount ≤ 281474976710655 → Admits s →
      exec .grant s = .next (withRecord t tag (.grant v) .none (handed t s))) ∧
    (v.number ≤ highestVoucher s.mem.sys.reserve s →
      exec .grant s = .next (answered .grant t tag .voucherUsed (.voucherUsed (highestVoucher s.mem.sys.reserve s))
        (handed t s)))

/-! ### The sale -/

/-- A QUOTE that passes its checks stands as the terminal's pending sale, QUOTED with its result, plan, set-aside and a
sale timer of the hold time; an earlier sale of the terminal is released by it, and the sum of set-asides follows. The
checks: the terminal has no COMMITTING sale, the account is ACTIVE and not busy, the ACTIVE bank has tariff blocks for
its class, the keys are there, the computation yields a result against the reserve without the terminal's own set-aside
(the set-asides of the others being within the balance, as R93 has them), and the journal has a position free. A QUOTE accepted keeps the law of the set-asides: when their sum was no more than
the balance, it still is. -/
def Obligations.QuoteStandsAsPendingSale : Prop :=
  (∀ (t : Fin 8) (tag : Tag) (body : List Byte) (s : State) (r : QuoteReq) (slot : Nat) (bank : TariffBank)
    (plan : KeyPlan) (result : CreditResult), Asks .quote t tag body s → parseQuote body = some r → Serving s →
    Leads r.meter slot s →
    let a := s.mem.accounts.read slot
    let own := ((s.term t).sale.map (·.setAside)).getD 0
    (∀ p, (s.term t).sale = some p → p.state = .quoted ∧ p.setAside ≤ s.setAsides) → a.state = .active →
    busyForQuote t slot s = false →
    s.mem.sys.tariffs.active = some bank → (bank.classOf a.tariffClass).blocks ≠ [] →
    keyPlan r.mode a s.secure.slots = .ok plan →
    s.setAsides - own ≤ s.mem.sys.reserve.balance →
    compute (creditInputs r (a.asOf s.month) bank (s.mem.sys.reserve.balance - (s.setAsides - own))) = .ok result →
    admitRoom s = true →
    let setAside := match r.mode with
      | .sale => result.purchased + result.allowance
      | .payment => 0
    let hold := s.mem.sys.settings.holdTime
    let p : PendingSale :=
      { state := .quoted, slot := slot, meter := r.meter, mode := r.mode, tendered := r.tendered, result := result,
        plan := plan, bankId := bank.id, monthIndex := s.month, keyCount := s.secure.counter, setAside := setAside,
        quoteTime := s.clock.reading, expiryTime := s.clock.reading + hold, tokens := [], journalSeq := none,
        timer := some (hold * 1000) }
    exec .quote s = .next (answered .quote t tag .ok (.quoted (figuresOf p))
      (setSale t (some p) ((handed t s).setSetAsides (s.setAsides - own + setAside))))) ∧
  ∀ (s u : State) (f : List Byte) (rest : List (List Byte)), Sound s → s.line.arrived = f :: rest →
    frameKind f = Kind.quote.byte → s.setAsides = setAsideSum s → s.setAsides ≤ s.mem.sys.reserve.balance →
    exec .quote s = .next u → u.setAsides ≤ u.mem.sys.reserve.balance

/-- A CONFIRM of a QUOTED sale that is not stale and whose slot is not damaged builds its tokens, queues its record and
leaves the sale COMMITTING with the record's sequence, its timer stopped and the terminal's idle timer held. A stale one
is refused with STALE_QUOTE and the first thing that differs of the bank id, the month and the key-store counter, in
that order, and the sale is released. A CANCEL of a QUOTED sale releases it, and its reply gives the set-aside that
leaves the sum. -/
def Obligations.ConfirmCommitsCancelReleases : Prop :=
  ∀ (t : Fin 8) (tag : Tag) (s : State) (p : PendingSale), (s.term t).sale = some p → p.state = .quoted →
    let differs : Option StaleCause :=
      if s.mem.sys.tariffs.active.map (·.id) ≠ some p.bankId then some .bank
      else if s.month ≠ p.monthIndex then some .month
      else if s.secure.counter ≠ p.keyCount then some .keyStore
      else none
    (Asks .confirm t tag [] s → s.mode = .inService → differs = none → p.slot ∉ s.mem.sys.damage.slots → Admits s →
      let tokens := match p.mode with
        | .sale => buildTokens p.plan p.meter (p.result.purchased + p.result.allowance) s.secure.slots
        | .payment => []
      exec .confirm s = .next (holdIdle t (setSale t
        (some { p with state := .committing, tokens := tokens, journalSeq := some (nextSeq s), timer := none })
        (withRecord t tag (saleRecord p tokens) .none (handed t s))))) ∧
    (∀ c, Asks .confirm t tag [] s → s.mode = .inService → differs = some c → p.setAside ≤ s.setAsides →
      exec .confirm s = .next (answered .confirm t tag .staleQuote (.stale c)
        (setSale t none ((handed t s).setSetAsides (s.setAsides - p.setAside))))) ∧
    (Asks .cancel t tag [] s → p.setAside ≤ s.setAsides →
      exec .cancel s = .next (answered .cancel t tag .ok (.cancelled p.setAside)
        (setSale t none ((handed t s).setSetAsides (s.setAsides - p.setAside)))))

/-- REISSUE and REVERSE of an account with a last sale still in the journal's range begin a journal lookup of its
record, waiting behind the reads before it: REISSUE below the reissue limit; REVERSE within the reversal window, in the
month of the sale, of a sale without a key change. -/
def Obligations.ReissueAndReverseBeginLookup : Prop :=
  ∀ (t : Fin 8) (tag : Tag) (body : List Byte) (s : State) (m slot : Nat) (l : LastSale) (c : RingCopy), Serving s →
    parseMeter body = some m → Leads m slot s → (s.term t).lookup = none →
    (s.mem.accounts.read slot).lastSale = some l → l.reversed = false → busy slot s = false → s.copy = some c →
    c.tail ≤ l.seq → l.seq < c.head →
    let started (kind : VendKind) : State :=
      (setLookup t (some (.vend { kind := kind, tag := tag, slot := slot, seq := l.seq, time := s.clock.reading,
                                  replyDue := true })) (handed t s)).setReads (s.reads ++ [t])
    (Asks .reissue t tag body s → l.reissues < s.mem.sys.settings.reissueLimit →
      exec .reissue s = .next (started .reissue)) ∧
    (Asks .reverse t tag body s → s.mem.sys.settings.reversalWindow ≠ 0 →
      s.clock.reading - l.time ≤ s.mem.sys.settings.reversalWindow * 60 → l.keyChange = false →
      s.month = monthOf l.time → exec .reverse s = .next (started .reverse))

/-! ### The journal, memory and tamper requests -/

/-- JOURNAL_READ within the range waits as a read operation. JOURNAL_RELEASE moves the tail past the sequence it names,
in the copy and in account memory, and nothing else. JOURNAL_RETRY of a FAULTED journal waits as a VOID write and holds
the terminal's idle timer. INTEGRITY_CLEAR empties the error log and clears the overflow flag, the damage list left as
it stands; its reply's flags are judged after the clear. TAMPER_CLEAR, whatever the module's service state: with the
enclosure switch open it is refused with TAMPER_OPEN and the latch stays; otherwise the latch is clear after it, nothing
of the key store is restored, and the reply is OK; taken while the latch is clear it changes nothing. -/
def Obligations.JournalIntegrityTamperRequestsAreTaken : Prop :=
  (∀ (t : Fin 8) (tag : Tag) (body : List Byte) (s : State) (c : RingCopy), s.copy = some c →
    (Asks .integrityClear t tag body s → s.mode = .inService →
      exec .integrityClear s = .next (answered .integrityClear t tag .ok .empty ((handed t s).setSys
        { s.mem.sys with errorLog := { last := none, corrected := 0, uncorrectable := 0 }
                         damage := { slots := s.mem.sys.damage.slots, overflow := false } }))) ∧
    (∀ m n, Asks .journalRead t tag body s → parseJournalRead body = some (m, n) → 1 ≤ n → n ≤ 3 →
      (s.term t).lookup = none → c.tail ≤ m → m < c.head →
      exec .journalRead s = .next ((setLookup t
        (some (.journalRead { tag := tag, start := m, count := n, replyDue := true })) (handed t s)).setReads
          (s.reads ++ [t]))) ∧
    (∀ m, Asks .journalRelease t tag body s → parseRelease body = some m → s.mode = .inService → c.tail ≤ m →
      m < c.head →
      exec .journalRelease s = .next (answered .journalRelease t tag .ok (.released (m + 1) (c.head - (m + 1)))
        (((handed t s).setCopy (some { c with tail := m + 1 })).setSys
          { s.mem.sys with ring := { head := c.head, tail := m + 1 } }))) ∧
    (∀ k, Asks .journalRetry t tag body s → s.mode = .inService → c.mark = some k → s.retry = none →
      let e := s.mem.sys.terms.get t
      exec .journalRetry s = .next (holdIdle t ((handed t s).setRetry (some
        { terminal := t, tag := tag, time := s.clock.reading, shiftNo := e.shiftNo, operator := e.operator,
          replyDue := true }))))) ∧
  ∀ (t : Fin 8) (tag : Tag) (s : State), Asks .tamperClear t tag [] s →
    (s.enclosureOpen = true →
      exec .tamperClear s = .next (answered .tamperClear t tag .tamperOpen .empty (handed t s))) ∧
    (s.enclosureOpen = false →
      exec .tamperClear s = .next (answered .tamperClear t tag .ok .empty
        ((handed t s).setSecure { s.secure with tamperLatch := false }))) ∧
    (s.enclosureOpen = false → s.secure.tamperLatch = false →
      exec .tamperClear s = .next (answered .tamperClear t tag .ok .empty (handed t s)))

/-- INITIALISE from a supervisor's OPEN shift, or from terminal 0 while the module is OUT_OF_SERVICE whatever its shift,
is accepted whatever the service state, and the module is STARTING from then on with no idle timer running. With ring
pointers and no fault mark its INIT record is queued, the oldest unreleased record being released first when every
position is taken; otherwise the record waits to be written outside the queue. -/
def Obligations.InitialiseIsAccepted : Prop :=
  ∀ (t : Fin 8) (tag : Tag) (s : State), Sound s → Presents .initialise t tag [] s → roleFor t s = .supervisor →
    (t = 0 ∧ s.mode = .outOfService ∨
      (s.mem.sys.terms.get t).shift = .opened ∧ shiftChange t s = false) →
    let e := s.mem.sys.terms.get t
    let work (outside : Bool) (released : Option Nat) : InitWork :=
      { terminal := t, tag := tag, time := s.clock.reading, shiftNo := e.shiftNo, operator := e.operator,
        replyDue := true, wasInService := s.mode == .inService, outside := outside, released := released }
    let starts (w : InitWork) (u : State) : State :=
      { u with terms := (handed t s).terms.map stopIdle, init := some w, mode := .starting .initialising }
    ((s.copy = none ∨ ∃ c k, s.copy = some c ∧ c.mark = some k ∧ k.seq ≤ 4294967295) →
      exec .initialise s = .next (starts (work true none) (handed t s))) ∧
    (∀ c, s.copy = some c → c.mark = none → s.queue.length < 8 → c.head + s.queue.length ≤ 4294967295 →
      (c.head - c.tail + s.queue.length < 4096 →
        exec .initialise s =
          .next (starts (work false none) (withRecord t tag (.init .initialise) .none (handed t s)))) ∧
      (4096 ≤ c.head - c.tail + s.queue.length →
        exec .initialise s = .next (starts (work false (some c.tail)) (withRecord t tag (.init .initialise) .none
          (((handed t s).setCopy (some { c with tail := c.tail + 1 })).setSys
            { s.mem.sys with ring := { head := c.head, tail := c.tail + 1 } })))))

/-! ### The events of time -/

/-- A second step raises the reading by one, unless it stands at the last second of 2099; brings what has become of the
cells since the last (the model's choice, log 13); raises TARIFF_EFFECTIVE in a powered module when it carries the
reading to the alarm's time; and is a tick as well while the module is powered, which every running timer counts; it
starts the count of ticks to the next second anew (the model's choice, log 4). What has become of a word: the bits brought
for it are in error beside those that were, no other word and no content being reached, and a word that a read has found
uncorrectable stays so (that bits gather until a write is the model's choice, log 13). The month index of a reading: the
readings of a month are those from its first second to the second before the next month's first, months follow one
another without a gap from 0 to 1199, and a later reading has no earlier month. -/
def Obligations.SecondStepAdvancesReading : Prop :=
  (∀ (s : State) (d : Disturbance),
    let after := if s.clock.reading < 3155759999 then s.clock.reading + 1 else s.clock.reading
    let raised := s.powered && s.clock.alarm.any (fun a => decide (s.clock.reading < a) && decide (a ≤ after))
    let stepped : State := disturb d
      { s with clock := { s.clock with reading := after, ticks := 0, tariffRaised := s.clock.tariffRaised || raised } }
    (s.powered = false → exec (.secondStep d) s = .next stepped) ∧
    (s.powered = true → exec (.secondStep d) s = .next
      { stepped with
        terms := s.terms.map (tickTerm (!starting s))
        bus := s.bus.map tickBus
        line := tickLine s.line
        scrub := tickScrub (!starting s) s.scrub })) ∧
  (∀ (s : State) (a : Nat) (w : BitVec 72), w ≠ 0#72 →
    let u := disturb { Disturbance.quiet with words := [(a, w)] } s
    u = { s with mem := { s.mem with ecc := u.mem.ecc } } ∧
    (∀ b, b ≠ a → SMap.find b u.mem.ecc = SMap.find b s.mem.ecc) ∧
    (SMap.find a s.mem.ecc = none → SMap.find a u.mem.ecc = some { wrong := w, found := false }) ∧
    ∀ d, SMap.find a s.mem.ecc = some d →
      (d.found = false → SMap.find a u.mem.ecc = some { d with wrong := d.wrong ||| w }) ∧
      (d.found = true → wordOutcome d.syndrome = .uncorrectable →
        ∃ e, SMap.find a u.mem.ecc = some e ∧ e.found = true ∧ wordOutcome e.syndrome = .uncorrectable)) ∧
  (∀ m, m < 1200 → monthOf (firstOfMonth m) = m ∧ firstOfMonth m % 86400 = 0) ∧
  (∀ r, r ≤ lastReading → monthOf r < 1200 ∧ firstOfMonth (monthOf r) ≤ r ∧ r < firstOfMonth (monthOf r + 1)) ∧
  ∀ q r, q ≤ r → r ≤ lastReading → monthOf q ≤ monthOf r

/-- The sale timer's running out releases the QUOTED sale with its set-aside; the idle timer's makes the shift SUSPENDED
without a record, releases a QUOTED sale of the terminal, and stops the timer. -/
def Obligations.TimersRunOut : Prop :=
  ∀ (t : Fin 8) (s : State), s.powered = true →
    (∀ p, (s.term t).sale = some p → p.state = .quoted → p.timer = some 0 → p.setAside ≤ s.setAsides →
      exec (.saleTimerExpiry t) s = .next (setSale t none (s.setSetAsides (s.setAsides - p.setAside)))) ∧
    (Sound s → starting s = false → (s.term t).idle = .running 0 →
      let suspended := s.setSys { s.mem.sys with
        terms := s.mem.sys.terms.put t { s.mem.sys.terms.get t with shift := .suspended } }
      ((∀ p, (s.term t).sale = some p → p.state = .committing) →
        exec (.idleExpiry t) s = .next (setIdle t .stopped suspended)) ∧
      ∀ p, (s.term t).sale = some p → p.state = .quoted → p.setAside ≤ s.setAsides →
        exec (.idleExpiry t) s =
          .next (setIdle t .stopped (setSale t none (suspended.setSetAsides (s.setAsides - p.setAside)))))

/-- TARIFF_EFFECTIVE makes a PENDING bank that is due the ACTIVE bank and clears the alarm, the last bank id and the
tariff last applied as they were; with none due it changes no bank. The completion of a TARIFF record past the tariff
last applied installs its bank: PENDING, with the alarm at its time, when that lies ahead, and ACTIVE when it does not.
-/
def Obligations.TariffBanksSwitch : Prop :=
  ∀ s : State, Sound s →
    let t := s.mem.sys.tariffs
    (∀ b eff, s.powered = true → s.clock.tariffRaised = true → t.pending = some (b, eff) → eff ≤ s.clock.reading →
      exec .tariffEffective s = .next ((s.setSys
        { s.mem.sys with tariffs := { t with active := some b, pending := none } }).setClock
          { s.clock with alarm := none, tariffRaised := false })) ∧
    (s.powered = true → s.clock.tariffRaised = true →
      (∀ b eff, t.pending = some (b, eff) → s.clock.reading < eff) →
      exec .tariffEffective s = .next (s.setClock { s.clock with tariffRaised := false })) ∧
    ∀ (h : RecordHead) (b : TariffBank) (eff : Nat) (inService : Bool) (figures : Figures), t.lastApplied < h.seq →
      let u := (applyRecord inService figures { head := h, body := .tariff b eff } s).2
      (s.clock.reading < eff → u = (s.setSys { s.mem.sys with
          tariffs := { active := t.active, pending := some (b, eff), lastId := b.id, lastApplied := h.seq } }).setClock
            { s.clock with alarm := some eff }) ∧
      (eff ≤ s.clock.reading → u.mem.sys.tariffs =
        { active := some b, pending := t.pending, lastId := b.id, lastApplied := h.seq })

/-- A scrub event moves the position on by one, after 262,143 to 0, and starts its timer again. At a clean word, and at
a disturbed one of a slot that is busy or listed as damaged, that is all. At any other disturbed word the syndrome
decides. A single error is corrected and logged. An uncorrectable word is logged and takes the step of its region: its
slot enters the damage list, or the overflow flag is set when the list is full; the index-damaged indication is set,
with a count of 0 and the header written anew when the word is the header's; or the module goes OUT_OF_SERVICE and the
word, when none is held, becomes the system fault address (a word of the error log's own item is not logged; the
settings' own word leaves the interval free, log 11), and stays disturbed, found uncorrectable by a read. A syndrome of 0
is clean, the others name 72 bits of the word, each by one syndrome, and no bit else; a word with no bit in error reads
clean, one with one bit in error has that bit corrected, and one with two is uncorrectable. -/
def Obligations.ScrubEventReadsItsWord : Prop :=
  (wordOutcome 0 = .clean ∧ (∀ y, y ≠ 0 → wordOutcome y ≠ .clean) ∧
    (∀ b : Fin 72, ∃ y, wordOutcome y = .corrected b ∧ ∀ z, wordOutcome z = .corrected b → z = y) ∧
    ∀ (m : BitVec 72) (found : Bool),
      let d : Disturb := { wrong := m, found := found }
      (m = 0#72 → wordOutcome d.syndrome = .clean) ∧
      (∀ b : Fin 72, m = BitVec.twoPow 72 b → wordOutcome d.syndrome = .corrected b) ∧
      ∀ b c : Fin 72, b ≠ c → m = BitVec.twoPow 72 b ||| BitVec.twoPow 72 c →
        wordOutcome d.syndrome = .uncorrectable) ∧
  ∀ s : State, s.powered = true → starting s = false → s.scrub.timer = some 0 → s.scrub.pos < 262144 →
    let pos := s.scrub.pos
    let slot := pos / 8
    let interval := s.mem.sys.settings.scrubInterval
    let on : Scrubber := { pos := if pos = 262143 then 0 else pos + 1,
                           timer := if interval = 0 then none else some interval }
    (Sound s → exec .scrubEvent s = .next { s with scrub := on }) ∧
    ∀ d : Disturb, s.mem.ecc = [(pos, d)] →
      let log (kind : ErrKind) : ErrorLog :=
        { last := some { addr := pos, syndrome := d.syndrome, kind := kind }
          corrected := if kind = .corrected then min 65535 (s.mem.sys.errorLog.corrected + 1)
            else s.mem.sys.errorLog.corrected
          uncorrectable := if kind = .uncorrectable then min 65535 (s.mem.sys.errorLog.uncorrectable + 1)
            else s.mem.sys.errorLog.uncorrectable }
      let kept : SMap Disturb := [(pos, { d with found := true })]
      let passed := pos < 131072 ∧ (busy slot s = true ∨ slot ∈ s.mem.sys.damage.slots)
      (passed ∨ d.syndrome = 0 → exec .scrubEvent s = .next { s with scrub := on }) ∧
      (∀ b, ¬ passed → wordOutcome d.syndrome = .corrected b → exec .scrubEvent s = .next
        { s with scrub := on
                 mem := { s.mem with ecc := [], sys := { s.mem.sys with errorLog := log .corrected } } }) ∧
      (¬ passed → wordOutcome d.syndrome = .uncorrectable →
        (pos < 131072 → exec .scrubEvent s = .next
          { s with scrub := on
                   mem := { s.mem with ecc := kept, sys := { s.mem.sys with
                     errorLog := log .uncorrectable
                     damage := if s.mem.sys.damage.slots.length < 32 then
                         { s.mem.sys.damage with slots := s.mem.sys.damage.slots ++ [slot] }
                       else { s.mem.sys.damage with overflow := true } } } }) ∧
        (131072 ≤ pos → pos < 184320 → exec .scrubEvent s = .next
          { s with scrub := on
                   mem := { s.mem with
                     ecc := if headerWord pos then [] else kept
                     index := { s.mem.index with
                       damaged := true, count := if headerWord pos then 0 else s.mem.index.count }
                     sys := { s.mem.sys with errorLog := log .uncorrectable } } }) ∧
        (184320 ≤ pos → ∃ t, exec .scrubEvent s = .next t ∧ t.mode = .outOfService ∧
          t.sysFault = s.sysFault.or (some pos) ∧ t.scrub.pos = on.pos ∧ t.mem.ecc = kept ∧
          t.mem.sys.settings = s.mem.sys.settings ∧
          (Config.itemOfWord pos ≠ some .settings → t =
            { s with scrub := on
                     mode := .outOfService
                     sysFault := s.sysFault.or (some pos)
                     mem := { s.mem with ecc := kept, sys := { s.mem.sys with
                       errorLog :=
                         if Config.itemOfWord pos = some .errorLog then s.mem.sys.errorLog
                         else log .uncorrectable } } })))

/-! ### The journal's writes and reads -/

/-- A free controller is granted, in this order, to the front of the write queue while the journal is not FAULTED, at
the head's position; to a waiting retry's VOID at the fault mark, when its probe is acknowledged, and otherwise the
retry ends with JOURNAL_FAULT; to a waiting INIT outside the queue, at the fault mark, at the head when a retry has
cleared it meanwhile, the oldest record being released first when 4,096 are unreleased (the model's choice, log 31), or
past the highest sequence a scan of the device finds; and to the oldest waiting read still in range, while one out of
range ends with NOT_AVAILABLE or BAD_RANGE in the event of the grant itself (the model's choice, log 34). That the heads
of the retry's VOID and of the INIT carry the time, shift number and operator of their acceptance (R119) is the model's
choice (log 25). Nothing else changes, and with nothing waiting nothing does. -/
def Obligations.ArbiterGrantsInOrder : Prop :=
  ∀ (s : State) (ack : Bool) (reads : SMap ReadGot), s.powered = true → s.bus = none →
    let begun (job : WriteJob) (r : Record) (pos : Nat) (u : State) : State :=
      { u with bus := some (.write { job := job, record := r, pos := pos, secondAttempt := false, phase := .sending }) }
    let initOf (i : InitWork) (seq : Nat) : Record :=
      { head := { seq := seq, time := i.time, terminal := i.terminal.val, shiftNo := i.shiftNo, operator := i.operator }
        body := .init .initialise }
    (∀ i, s.copy = none → s.retry = none → s.init = some i → i.outside = true →
      highestSeq reads s.device ≠ 4294967295 →
      let h := highestSeq reads s.device + 1
      exec (.arbiterGrant ack reads) s = .next (begun .initOutside (initOf i h) (h % 4096)
        { s with copy := some { head := h, tail := h, mark := none } })) ∧
    ∀ c, s.copy = some c →
      (∀ e rest, s.queue = e :: rest → c.mark = none →
        exec (.arbiterGrant ack reads) s = .next (begun .entry e.record (c.head % 4096) s)) ∧
      (∀ w k, c.mark = some k → s.retry = some w →
        (ack = true → exec (.arbiterGrant ack reads) s = .next (begun .retryVoid
          { head := { seq := k.seq, time := w.time, terminal := w.terminal.val, shiftNo := w.shiftNo,
                      operator := w.operator }
            body := .void .retry } k.pos s)) ∧
        (ack = false → Sound s →
          let ended := restartIdle w.terminal { s with retry := none }
          exec (.arbiterGrant ack reads) s = .next (if w.replyDue then
            answered .journalRetry w.terminal w.tag .journalFault .empty ended else ended))) ∧
      (∀ i, s.retry = none → s.init = some i → i.outside = true →
        (∀ k, c.mark = some k →
          exec (.arbiterGrant ack reads) s = .next (begun .initOutside (initOf i k.seq) k.pos s)) ∧
        (s.queue = [] → c.mark = none → c.head ≤ 4294967295 → c.head - c.tail < 4096 →
          exec (.arbiterGrant ack reads) s = .next (begun .initOutside (initOf i c.head) (c.head % 4096)
            { s with init := some { i with released := none } })) ∧
        (s.queue = [] → c.mark = none → c.head ≤ 4294967295 → 4096 ≤ c.head - c.tail → Sound s →
          exec (.arbiterGrant ack reads) s = .next (begun .initOutside (initOf i c.head) (c.head % 4096)
            { s with
              init := some { i with released := some c.tail }
              copy := some { c with tail := c.tail + 1 }
              mem := { s.mem with sys := { s.mem.sys with ring := { head := c.head, tail := c.tail + 1 } } } }))) ∧
      (s.queue = [] → s.retry = none → s.init = none →
        (s.reads = [] → exec (.arbiterGrant ack reads) s = .next s) ∧
        (∀ t rest v, s.reads = t :: rest → (s.term t).lookup = some (.vend v) →
          (c.tail ≤ v.seq → v.seq < c.head →
            exec (.arbiterGrant ack reads) s = .next { s with reads := rest, bus := some (.lookup t) }) ∧
          (v.seq < c.tail ∨ c.head ≤ v.seq → Sound s →
            let freed := setLookup t none { s with reads := rest }
            exec (.arbiterGrant ack reads) s = .next (if v.replyDue then answered
              (match v.kind with
                | .reissue => .reissue
                | .reverse => .reverse) t v.tag .notAvailable .empty freed else freed))) ∧
        ∀ t rest w, s.reads = t :: rest → (s.term t).lookup = some (.journalRead w) →
          (c.tail ≤ w.start → w.start < c.head →
            exec (.arbiterGrant ack reads) s = .next
              { s with reads := rest, bus := some (.journalRead t (min (w.start + w.count - 1) (c.head - 1))) }) ∧
          (w.start < c.tail ∨ c.head ≤ w.start → Sound s →
            let freed := setLookup t none { s with reads := rest }
            exec (.arbiterGrant ack reads) s = .next (if w.replyDue then
              answered .journalRead t w.tag .badRange (.journal (journalInfo freed) []) freed else freed)))

/-- The steps of a record write: the STOP begins the programming with a poll limit of 20 ticks and leaves its page; an
acknowledge withheld at the first attempt is followed by a poll, and its acknowledge by the second attempt; the
acknowledge after the STOP is followed by the read-back. -/
def Obligations.RecordWriteTakesItsSteps : Prop :=
  ∀ (s : State) (w : BusWrite) (left : PageLeft), s.powered = true → s.bus = some (.write w) →
    let page := match left with
      | .unchanged => s.device
      | .asSent => SMap.put w.pos (.record w.record) s.device
      | .bytes b => SMap.put w.pos (.bytes b) s.device
    (w.phase = .sending → exec (.writeStop left) s = .next
      { s with device := page, bus := some (.write { w with phase := .programming 20 }) }) ∧
    (w.phase = .sending → w.secondAttempt = false → exec (.busNak left) s = .next
      { s with device := page, bus := some (.write { w with phase := .recovering 20 }) }) ∧
    (∀ n, w.phase = .programming n → exec .pollAck s = .next
      { s with bus := some (.write { w with phase := .readBack }) }) ∧
    (∀ n, w.phase = .recovering n → exec .pollAck s = .next
      { s with bus := some (.write { w with secondAttempt := true, phase := .sending }) })

/-- A fault of an entry's write, by the poll limit, a failed read-back or a second refusal: the mark takes the record's
sequence and position and the cause is held, head and tail as they were; every entry leaves the queue and, where it owes
a reply, is answered with JOURNAL_FAULT under the JOURNAL_FAULTED flag; and no account, no reserve and no key is
touched. The COMMITTING sale of each SALE or PAYMENT record answered is removed and every other pending sale stands, the
sum of set-asides following; the hold that a sale's or a shift change's entry had on an idle timer ends, and the timer
starts for the full idle limit where the shift is OPEN and nothing else holds it; no other terminal's item changes. An
INITIALISE whose record was among the entries ends, and the module returns to the state it held, IN_SERVICE or
OUT_OF_SERVICE: to IN_SERVICE only where no system fault address has come up meanwhile (R148, R179; the model's choice,
log 31). -/
def Obligations.WriteFaultAnswersEveryEntry : Prop :=
  ∀ (s : State) (w : BusWrite) (c : RingCopy) (cmd : Instr) (cause : FaultCause), Sound s → s.powered = true →
    s.bus = some (.write w) → w.job = .entry → s.copy = some c →
    ((cmd = .pollLimitExpiry ∧ cause = .pollLimit ∧ (w.phase = .programming 0 ∨ w.phase = .recovering 0)) ∨
      (∃ got, cmd = .readBackEnd got ∧ cause = .failedReadBack ∧ w.phase = .readBack ∧
        readBackPasses w.record w.pos got s.device = false) ∨
      (cmd = .busNak .unchanged ∧ cause = .secondRefusal ∧ w.phase = .sending ∧ w.secondAttempt = true)) →
    let answers (u : Fin 8) (p : PendingSale) : Prop :=
      p.state = .committing ∧ ∃ e ∈ s.queue, e.record.head.terminal = u.val ∧
        p.journalSeq = some e.record.head.seq ∧
        ((∃ b, e.record.body = .sale b) ∨ ∃ b, e.record.body = .payment b)
    let holds (u : Fin 8) : Prop :=
      ∃ e ∈ s.queue, match e.record.body with
        | .sale _ | .payment _ | .shiftOpen => e.record.head.terminal = u.val
        | .shiftClose b => b.target = u
        | .terminal x _ => x = u
        | _ => False
    ∃ t replies, exec cmd s = .next t ∧ t.queue = [] ∧ t.bus = none ∧
      t.copy = some { c with mark := some { seq := w.record.head.seq, pos := w.pos } } ∧
      t.mem = { s.mem with sys := { s.mem.sys with
        mark := some { seq := w.record.head.seq, pos := w.pos }, cause := cause } } ∧
      t.secure = s.secure ∧ t.clock = s.clock ∧ t.device = s.device ∧ t.tx = s.tx ++ replies ∧
      replies.map (fun r => (r.terminal, r.tag, r.result)) = s.queue.filterMap (fun e =>
        if e.replyDue then e.owner.map (fun o => (terminalByte o.terminal, o.tag, ResultCode.journalFault))
        else none) ∧
      (∀ r ∈ replies, r.flags.journalFaulted = true) ∧
      (∀ u p, (s.term u).sale = some p →
        (answers u p → (t.term u).sale = none) ∧ (¬ answers u p → (t.term u).sale = some p)) ∧
      (s.setAsides = setAsideSum s → t.setAsides = setAsideSum t) ∧
      (∀ u, (t.term u).lookup = (s.term u).lookup) ∧
      (∀ u, (starting s = false ∧ holds u) ∨ (s.init.isSome ∧ ∃ e ∈ s.queue, ∃ k, e.record.body = .init k) →
        (t.term u).idle =
          if (s.mem.sys.terms.get u).shift = .opened then
            if idleHeld u t then .held else .running (s.mem.sys.settings.idleLimit * 60000)
          else .stopped) ∧
      ((∀ e ∈ s.queue, ∀ k, e.record.body ≠ .init k) →
        (∀ u, ¬ holds u → t.term u = s.term u) ∧ t.mode = s.mode ∧ t.init = s.init ∧ t.scrub = s.scrub) ∧
      ∀ i, s.init = some i → (∃ e ∈ s.queue, ∃ k, e.record.body = .init k) →
        t.init = none ∧ t.mode = (if i.wasInService && s.sysFault.isNone then .inService else .outOfService) ∧
        t.scrub = { s.scrub with timer := if s.mem.sys.settings.scrubInterval = 0 then none
                                          else some s.mem.sys.settings.scrubInterval }

/-- The faults of the record writes made outside the write queue, by the poll limit, a failed read-back or a second
refusal. An INIT record of INITIALISE leaves its sequence and position in the mark and its cause held, the INITIALISE is
answered with JOURNAL_FAULT where it owes a reply, and the module returns to the state it held, to IN_SERVICE only where no
system fault address has come up meanwhile (R148, R179; the model's choice, log 31), with the idle timer of each OPEN
shift and the scrub timer started again. The memory-loss INIT sets the mark (and the cause, the model's
choice, log 28) and ends start-up. A retry's VOID leaves the mark and the cause as they stand, and the retry is answered
with JOURNAL_FAULT; a start-up VOID leaves them too and ends start-up. -/
def Obligations.WriteFaultsOutsideQueue : Prop :=
  ∀ (s : State) (w : BusWrite) (c : RingCopy) (cmd : Instr) (cause : FaultCause), Sound s → s.powered = true →
    s.bus = some (.write w) → s.copy = some c →
    ((cmd = .pollLimitExpiry ∧ cause = .pollLimit ∧ (w.phase = .programming 0 ∨ w.phase = .recovering 0)) ∨
      (∃ got, cause = .failedReadBack ∧ w.phase = .readBack ∧ readBackPasses w.record w.pos got s.device = false ∧
        cmd = match w.job with
          | .retryVoid => .retryVoidEnd got
          | .startUpVoid => .startUpVoidEnd got
          | _ => .readBackEnd got) ∨
      (cmd = .busNak .unchanged ∧ cause = .secondRefusal ∧ w.phase = .sending ∧ w.secondAttempt = true)) →
    let mark : FaultMark := { seq := w.record.head.seq, pos := w.pos }
    let marked : State :=
      { s with copy := some { c with mark := some mark }
               mem := { s.mem with sys := { s.mem.sys with mark := some mark, cause := cause } } }
    let idleLimit := s.mem.sys.settings.idleLimit
    let interval := s.mem.sys.settings.scrubInterval
    (∀ i, w.job = .initOutside → s.init = some i → i.outside = true → ∃ u : State,
      exec cmd s = .next (if i.replyDue then answered .initialise i.terminal i.tag .journalFault .empty u else u) ∧
      u = { marked with
        bus := none, init := none, terms := u.terms
        mode := if i.wasInService && s.sysFault.isNone then .inService else .outOfService
        scrub := { s.scrub with timer := if interval = 0 then none else some interval } } ∧
      ∀ x, u.term x = { s.term x with
        idle :=
          if (s.mem.sys.terms.get x).shift = .opened then
            if idleHeld x s then .held else .running (idleLimit * 60000)
          else .stopped }) ∧
    (w.job = .memoryLossInit → exec cmd s = .next (endStartUp marked)) ∧
    (∀ r, w.job = .retryVoid → s.retry = some r →
      let ended : State := restartIdle r.terminal { s with bus := none, retry := none }
      exec cmd s = .next (if r.replyDue then answered .journalRetry r.terminal r.tag .journalFault .empty ended
        else ended)) ∧
    (w.job = .startUpVoid → exec cmd s = .next (endStartUp s))

/-- An entry whose read-back passes completes: the head is raised by one in the copy and in account memory, the effects
of its record are applied, the entry leaves the queue, the controller is free, the hold its record had on an idle timer
ends, and its reply, where one is owed, enters with the result that the effects give. An INIT record written outside the
queue completes so too, and so does that of a memory loss, which ends start-up. At a fault mark whose sequence is the
init sequence such an INIT is passed over, the head raised and the mark kept, and answered with OK: the model's choice
(log 41). The end of a retry's VOID closes the faulted sequence: the head is raised, the mark cleared, and the retry
answered where its reply is owed. -/
def Obligations.ReadBackCompletes : Prop :=
  ∀ (s : State) (w : BusWrite) (c : RingCopy) (got : ReadGot), Sound s → s.powered = true →
    s.bus = some (.write w) → w.phase = .readBack → s.copy = some c →
    readBackPasses w.record w.pos got s.device = true →
    let raised : State :=
      { s with copy := some { c with head := c.head + 1 }
               mem := { s.mem with sys := { s.mem.sys with ring := { head := c.head + 1, tail := c.tail } } } }
    (∀ e rest, w.job = .entry → s.queue = e :: rest →
      let r := applyRecord true e.figures e.record raised
      let done := endHold e.record { r.2 with queue := r.2.queue.tail, bus := none }
      exec (.readBackEnd got) s = .next (match e.owner with
        | some o =>
          if e.replyDue then answered e.record.body.kind o.terminal o.tag r.1.1 r.1.2 done else done
        | none => done) ∧
      ((∀ k, e.record.body ≠ .init k) → done.queue = rest ∧ done.copy = raised.copy ∧
        done.mem.sys.ring = raised.mem.sys.ring ∧ done.device = s.device ∧ done.tx = s.tx)) ∧
    (∀ i, w.job = .initOutside → s.init = some i →
      let r := applyInit w.record.head raised
      let done : State := { r.2 with bus := none }
      exec (.readBackEnd got) s = .next (if i.outside && i.replyDue then
        answered .initialise i.terminal i.tag r.1.1 r.1.2 done else done)) ∧
    (w.job = .memoryLossInit → exec (.readBackEnd got) s = .next (endStartUp raised)) ∧
    (∀ r, w.job = .retryVoid → s.retry = some r →
      let closed : State := restartIdle r.terminal
        { s with bus := none, retry := none, copy := some { head := c.head + 1, tail := c.tail, mark := none }
                 mem := { s.mem with sys := { s.mem.sys with
                   ring := { head := c.head + 1, tail := c.tail }, mark := none } } }
      exec (.retryVoidEnd got) s = .next (if r.replyDue then
        answered .journalRetry r.terminal r.tag .ok (.retried w.record.head.seq) closed else closed))

/-- The end of a REISSUE's lookup that finds the SALE of its slot queues a REISSUE record with the time of the request
and the ciphertexts for its reply; of a REVERSE's, a REVERSAL record with the figures of the sale. The shift number and
the operator are those at the lookup's end (the model's choice, log 25). That the reversal window is not judged again
(log 38), and that the record's entry owes the reply the lookup owed (log 39), is the model's choice too. A lookup that
finds no such record, because the read brings no acknowledge, no good CRC, another sequence, another kind of record or
another slot, ends with NOT_AVAILABLE. The end of a JOURNAL_READ gives each position's outcome and bytes. In each the
terminal's lookup item and the controller are free, and a reply that is not owed is not made. -/
def Obligations.ReadsEnd : Prop :=
  ∀ (s : State) (t : Fin 8), Sound s → s.powered = true →
    let freed := setLookup t none { s with bus := none }
    (∀ v got, s.bus = some (.lookup t) → (s.term t).lookup = some (.vend v) →
      let a := s.mem.accounts.read v.slot
      let found (b : SaleBody) : Prop :=
        ∃ r, ReadsAs got (v.seq % 4096) s.device r ∧ r.head.seq = v.seq ∧ r.body = .sale b ∧ b.slot = v.slot
      let queued (body : RecordBody) (figures : Figures) : State :=
        { freed with queue := s.queue ++
            [{ record :=
                { head := { seq := nextSeq s, time := v.time, terminal := t.val,
                            shiftNo := (s.mem.sys.terms.get t).shiftNo, operator := (s.mem.sys.terms.get t).operator }
                  body := body }
               owner := some { terminal := t, tag := v.tag }, replyDue := v.replyDue, figures := figures }] }
      (∀ b l, found b → v.slot ∉ s.mem.sys.damage.slots → a.lastSale = some l → l.reversed = false →
        l.seq = v.seq → busy v.slot s = false → Admits s →
        (v.kind = .reissue → l.reissues < s.mem.sys.settings.reissueLimit →
          exec (.journalLookupEnd got) s =
            .next (queued (.reissue v.slot a.meter v.seq) (.reissue b.tokenSeq b.ciphers))) ∧
        (v.kind = .reverse → l.keyChange = false → a.counterMonth = monthOf l.time →
          prospectiveBalance s.mem.sys.reserve s + (b.purchased + b.allowance) ≤ 2000000000 →
          exec (.journalLookupEnd got) s = .next (queued (.reversal
            { slot := v.slot, meter := a.meter, backLink := v.seq, tendered := b.tendered, recovered := b.recovered,
              purchased := b.purchased, allowance := b.allowance, carryBefore := b.carryBefore,
              tokenSeq := b.tokenSeq }) .none))) ∧
      ((∀ b, ¬ found b) → exec (.journalLookupEnd got) s = .next (if v.replyDue then answered
        (match v.kind with
          | .reissue => .reissue
          | .reverse => .reverse) t v.tag .notAvailable .empty freed else freed))) ∧
    ∀ w last got, s.bus = some (.journalRead t last) → (s.term t).lookup = some (.journalRead w) →
      exec (.journalReadEnd got) s = .next (if w.replyDue then answered .journalRead t w.tag .ok
        (.journal (journalInfo freed) (readRange (last + 1 - w.start) w.start got s.device)) freed else freed)

/-! ### Supply, start-up, tamper -/

/-- SUPPLY_LOSS ends the operation in hand; a write past its STOP leaves its page as far as it had gone, one before its
STOP or past its programming leaves it as it stood. A supply reset of a module whose account memory reads whole discards
every volatile item, takes the speed of the strap, loads the pointers and the mark, makes every OPEN shift SUSPENDED,
and begins the scan, or, with a fault mark, the write of a VOID at the mark with terminal 0's shift number and operator;
without a valid signature, as after a failed battery of account memory, it begins the memory-loss scan. A reset with a
record write in hand cuts it off as a supply loss does. That it finds the line marking (log 15) and clears a
TARIFF_EFFECTIVE not yet taken (log 16), that the count of ticks to the next second step is kept (log 3), and that a
failed battery leaves the clock as it stood until MEMORY_LOSS_INIT (log 10), is the model's choice. An opening of the enclosure empties the key store, counts
it, sets the latch, and forces the reset of a powered module; its closing leaves the latch. -/
def Obligations.SupplyAndEnclosure : Prop :=
  ∀ (s : State) (left : PageLeft) (strap : LineSpeed),
    let inputs : ResetInputs := { strap := strap, left := left, batteryFailed := false, disturbed := .quiet }
    let cut : SMap Page :=
      match s.bus with
      | some (.write w) =>
        match w.phase, left with
        | .programming _, .asSent | .recovering _, .asSent => SMap.put w.pos (.record w.record) s.device
        | .programming _, .bytes b | .recovering _, .bytes b => SMap.put w.pos (.bytes b) s.device
        | _, _ => s.device
      | _ => s.device
    let dark : State :=
      { s with powered := true, device := cut, line := .afterReset strap, tx := [], terms := .all8 .idleNone
               setAsides := 0, queue := [], reads := [], retry := none, init := none, sysFault := none, bus := some .scan
               scrub := { pos := 0, timer := none }
               clock := { s.clock with alarm := none, tariffRaised := false } }
    let suspended : AccountMemory := { s.mem with sys := { s.mem.sys with terms := s.mem.sys.terms.map (fun e =>
      if e.shift = .opened then { e with shift := .suspended } else e) } }
    let opened : State :=
      { s with enclosureOpen := true
               secure := { s.secure with slots := [], counter := (s.secure.counter + 1) % 4294967296,
                                         tamperLatch := true } }
    (s.powered = true → (∀ w, s.bus ≠ some (.write w)) →
      exec (.supplyLoss left) s = .next { s with powered := false, bus := none }) ∧
    (∀ w, s.powered = true → s.bus = some (.write w) →
      (w.phase = .sending ∨ w.phase = .readBack →
        exec (.supplyLoss left) s = .next { s with powered := false, bus := none }) ∧
      (∀ n, w.phase = .programming n ∨ w.phase = .recovering n →
        exec (.supplyLoss left) s = .next { s with
          powered := false, bus := none
          device := match left with
            | .unchanged => s.device
            | .asSent => SMap.put w.pos (.record w.record) s.device
            | .bytes b => SMap.put w.pos (.bytes b) s.device })) ∧
    (Sound s → s.mem.sys.signature ≠ none →
      (s.mem.sys.mark = none → exec (.supplyReset inputs) s = .next { dark with
        mode := .starting (if s.mem.sys.ring.tail < s.mem.sys.ring.head then .lastRecord false else .scan false)
        copy := some { head := s.mem.sys.ring.head, tail := s.mem.sys.ring.tail, mark := none }
        mem := suspended }) ∧
      ∀ k, s.mem.sys.mark = some k → exec (.supplyReset inputs) s = .next { dark with
        mode := .starting .startUpVoid
        copy := some { head := s.mem.sys.ring.head, tail := s.mem.sys.ring.tail, mark := some k }
        mem := suspended
        bus := some (.write
          { job := .startUpVoid, pos := k.pos, secondAttempt := false, phase := .sending
            record :=
              { head := { seq := k.seq, time := s.clock.reading, terminal := 0
                          shiftNo := (s.mem.sys.terms.get 0).shiftNo, operator := (s.mem.sys.terms.get 0).operator }
                body := .void .startUp } }) }) ∧
    (Sound s → s.mem.sys.signature = none →
      exec (.supplyReset inputs) s = .next { dark with mode := .starting .memoryLoss, copy := none }) ∧
    (∃ lost draws, lost.sys.signature = none ∧ exec (.supplyReset { inputs with batteryFailed := true }) s = .next
      { dark with mode := .starting .memoryLoss, copy := none, mem := lost, draws := draws }) ∧
    (s.enclosureOpen = false → s.powered = false →
      exec (.tamperSwitchOpening inputs) s = .next opened) ∧
    (s.enclosureOpen = false → s.powered = true →
      exec (.tamperSwitchOpening inputs) s = exec (.supplyReset inputs) opened) ∧
    exec .enclosureSwitchClosing s = .next { s with enclosureOpen := false }

/-- The scan of start-up. The record before the head, when it reads with its own sequence, has its effects applied
again; whatever else it reads as, the scan goes on at the head. A record found at the head raises the head and has its
effects applied, and the scan goes on, unless the record is an INIT that ends start-up (log 32). A position that reads
as no record with the head's sequence (never written, log 9; a bad CRC; another sequence) ends start-up. Each read
without an acknowledge is made once more; a second one before the head goes on, and at the head sets the fault mark
there, leaves the cause of the last fault (log 32) and ends start-up. What rests on logs 9 and 32 is the model's choice.
-/
def Obligations.RollForwardReadsTheJournal : Prop :=
  ∀ (s : State) (c : RingCopy) (again : Bool) (got : ReadGot), Sound s → s.powered = true → s.copy = some c →
    let scanning (u : State) : State := if starting u then u.setMode (.starting (.scan false)) else u
    (s.mode = .starting (.lastRecord again) →
      (∀ r, ReadsAs got ((c.head - 1) % 4096) s.device r → r.head.seq = c.head - 1 →
        exec (.rollForwardRead got) s = .next (scanning (applyRecord false .none r s).2)) ∧
      (got ≠ .noAck → (∀ r, ReadsAs got ((c.head - 1) % 4096) s.device r → r.head.seq ≠ c.head - 1) →
        exec (.rollForwardRead got) s = .next (s.setMode (.starting (.scan false)))) ∧
      (again = false → exec (.rollForwardRead .noAck) s = .next (s.setMode (.starting (.lastRecord true)))) ∧
      (again = true → exec (.rollForwardRead .noAck) s = .next (s.setMode (.starting (.scan false))))) ∧
    (s.mode = .starting (.scan again) →
      (∀ r, ReadsAs got (c.head % 4096) s.device r → r.head.seq = c.head →
        let raised : State :=
          { s with copy := some { c with head := c.head + 1 }
                   mem := { s.mem with sys := { s.mem.sys with ring := { head := c.head + 1, tail := c.tail } } } }
        exec (.rollForwardRead got) s = .next (scanning (applyRecord false .none r raised).2) ∧
        ((∀ k, r.body ≠ .init k) → starting (applyRecord false .none r raised).2 = true)) ∧
      (got ≠ .noAck → (∀ r, ReadsAs got (c.head % 4096) s.device r → r.head.seq ≠ c.head) →
        exec (.rollForwardRead got) s = .next (endStartUp s)) ∧
      (again = false → exec (.rollForwardRead .noAck) s = .next (s.setMode (.starting (.scan true)))) ∧
      (again = true →
        let k : FaultMark := { seq := c.head, pos := c.head % 4096 }
        exec (.rollForwardRead .noAck) s = .next (endStartUp
          { s with copy := some { c with mark := some k }
                   mem := { s.mem with sys := { s.mem.sys with mark := some k } } })))

/-- The memory-loss initialisation writes account memory afresh past the highest sequence found on the device, sets the
clock to 0 and NOT_SET, and begins the write of its INIT record; with no sequence left it leaves account memory and the
module OUT_OF_SERVICE without pointers, its scrubber started (log 28) and its clock as it stood (log 10), the model's
choice like the count of ticks kept (log 3). A start-up VOID whose
read-back passes closes the faulted sequence and the scan follows; one whose probe is not acknowledged
(START_UP_VOID_END before anything is sent: the model's choice, log 32) or whose read-back fails leaves the journal
FAULTED and ends start-up. Start-up ends with the alarm set from a PENDING bank, one already due made ACTIVE, the
scrubber at position 0, and the module IN_SERVICE unless a system fault address is present. -/
def Obligations.StartUpBeginsAndEnds : Prop :=
  ∀ (s : State), Sound s → s.powered = true →
    let scrubber : Scrubber :=
      { pos := 0, timer := if s.mem.sys.settings.scrubInterval = 0 then none
                           else some s.mem.sys.settings.scrubInterval }
    (∀ reads, s.mode = .starting .memoryLoss → s.bus = some .scan →
      (highestSeq reads s.device ≠ 4294967295 →
        let head := highestSeq reads s.device + 1
        exec (.memoryLossInit reads) s = .next
          { s with
            mode := .starting .memoryLossInit
            mem := .initial head s.secure.voucherFloor head head
            copy := some { head := head, tail := head, mark := none }
            clock := { reading := 0, state := .notSet, lastApplied := head, alarm := none, tariffRaised := false,
                       ticks := s.clock.ticks }
            secure := { s.secure with keyLastApplied := head }
            bus := some (.write
              { job := .memoryLossInit, pos := head % 4096, secondAttempt := false, phase := .sending
                record := { head := { seq := head, time := 0, terminal := 0, shiftNo := 0, operator := 0 }
                            body := .init .memoryLoss } }) }) ∧
      (highestSeq reads s.device = 4294967295 → exec (.memoryLossInit reads) s = .next
        { s with mode := .outOfService, copy := none, bus := none, scrub := scrubber })) ∧
    (∀ w c got, s.bus = some (.write w) → w.job = .startUpVoid → s.copy = some c →
      (w.phase = .readBack → readBackPasses w.record w.pos got s.device = true →
        exec (.startUpVoidEnd got) s = .next
          { s with mode := .starting (.scan false), bus := some .scan
                   copy := some { head := c.head + 1, tail := c.tail, mark := none }
                   mem := { s.mem with sys := { s.mem.sys with
                     ring := { head := c.head + 1, tail := c.tail }, mark := none } } }) ∧
      (w.phase = .readBack → readBackPasses w.record w.pos got s.device = false →
        exec (.startUpVoidEnd got) s = .next (endStartUp s)) ∧
      (w.phase = .sending → w.secondAttempt = false →
        exec (.startUpVoidEnd .noAck) s = .next (endStartUp s))) ∧
    (let ended : State :=
      { s with bus := none, scrub := scrubber, mode := if s.sysFault.isSome then .outOfService else .inService }
     (s.mem.sys.tariffs.pending = none → endStartUp s = ended) ∧
     (∀ b eff, s.mem.sys.tariffs.pending = some (b, eff) → s.clock.reading < eff →
       endStartUp s = { ended with clock := { s.clock with alarm := some eff } }) ∧
     ∀ b eff, s.mem.sys.tariffs.pending = some (b, eff) → eff ≤ s.clock.reading →
       endStartUp s = { ended with
         clock := { s.clock with alarm := none, tariffRaised := true }
         mem := { s.mem with sys := { s.mem.sys with
           tariffs := { s.mem.sys.tariffs with active := some b, pending := none } } } })

/-! ### The effects of records -/

/-- The completion of a SALE, PAYMENT, REISSUE or REVERSAL record that every block's guard lets through. Its account,
its month counters first brought to the record's month, is written whole: a SALE recovers debt and sets the carry, the
counters, the key fields and the last sale; a PAYMENT lowers the debt; a REISSUE counts, to 9 at most (the model's
choice, log 29); a REVERSAL gives the debt, the units and the carry back, marks the sale reversed and its token revoked.
A SALE debits the reserve by its token amount, a REVERSAL credits it. The totals of the shift it belongs to are raised,
each to 4,294,967,295 at most. No other account, terminal's entry, key or clock item changes. A committing sale of the
record's sequence ends: its set-aside leaves the sum, and its reply carries its figures. -/
def Obligations.VendRecordsWriteTheirEffects : Prop :=
  ∀ (s : State) (h : RecordHead) (t : Fin 8) (slot : Nat) (inService : Bool) (figures : Figures), Sound s →
    h.terminal = t.val → slot ∉ s.mem.sys.damage.slots →
    let a := s.mem.accounts.read slot
    let now : Account :=
      if a.counterMonth < monthOf h.time then
        { a with counterMonth := monthOf h.time, monthUnits := 0, allowanceIssued := 0, lastApplied := h.seq }
      else { a with lastApplied := h.seq }
    let r := s.mem.sys.reserve
    let e := s.mem.sys.terms.get t
    let x := e.totals
    let up (m n : Nat) : Nat := min 4294967295 (m + n)
    let after (b : RecordBody) : Spoken × State := applyRecord inService figures { head := h, body := b } s
    let wrote (u : State) (b : Account) (reserve : ReserveRecord) (totals : ShiftTotals) : Prop :=
      u.mem.accounts.read slot = b ∧ (∀ n, n ≠ slot → u.mem.accounts.read n = s.mem.accounts.read n) ∧
      u.mem.index = s.mem.index ∧
      u.mem.sys = { s.mem.sys with
        reserve := reserve
        terms := s.mem.sys.terms.put t { e with lastApplied := h.seq, totals := totals } } ∧
      u.secure = s.secure ∧ u.clock = s.clock ∧ u.copy = s.copy ∧ u.queue = s.queue ∧ u.tx = s.tx
    let ends (u : State) : Prop :=
      ∀ p, (s.term t).sale = some p → p.state = .committing → p.journalSeq = some h.seq → p.setAside ≤ s.setAsides →
        (u.term t).sale = none ∧ u.setAsides = s.setAsides - p.setAside
    a.lastApplied < h.seq → e.lastApplied < h.seq → e.shiftNo = h.shiftNo →
    (∀ b : SaleBody, b.slot = slot → b.recovered ≤ a.debt → r.lastApplied < h.seq →
      b.purchased + b.allowance ≤ r.balance →
      wrote (after (.sale b)).2
        { now with
          debt := a.debt - b.recovered
          carry := b.carryAfter
          monthUnits := b.monthBefore + b.purchased
          allowanceIssued := now.allowanceIssued + b.allowance
          keyGen := if b.keyChange then b.newGen else a.keyGen
          issueSeq := if b.keyChange then 1 else b.tokenSeq
          forceKeyChange := if b.keyChange then false else a.forceKeyChange
          revokePending := none
          lastSale := some { seq := h.seq, time := h.time, tokenSeq := b.tokenSeq, reversed := false,
                             keyChange := b.keyChange, reissues := 0 } }
        { r with balance := r.balance - (b.purchased + b.allowance)
                 totalIssued := r.totalIssued + (b.purchased + b.allowance), lastApplied := h.seq }
        { x with
          sales := up x.sales 1, tokens := up x.tokens b.tokenCount, tendered := up x.tendered b.tendered
          tax := up x.tax b.tax, recovered := up x.recovered b.recovered, sold := up x.sold b.purchased
          allowance := up x.allowance b.allowance } ∧
      ends (after (.sale b)).2 ∧
      ∀ p, (s.term t).sale = some p → p.state = .committing → p.journalSeq = some h.seq →
        (after (.sale b)).1 = (.ok, .sold (figuresOf p) h.seq b.tokenSeq b.revokeDelta p.tokens)) ∧
    (∀ b : PaymentBody, b.slot = slot → b.recovered ≤ a.debt →
      wrote (after (.payment b)).2 { now with debt := a.debt - b.recovered } r
        { x with payments := up x.payments 1, tendered := up x.tendered b.tendered, tax := up x.tax b.tax
                 recovered := up x.recovered b.recovered } ∧
      ends (after (.payment b)).2 ∧
      ∀ p, (s.term t).sale = some p → p.state = .committing → p.journalSeq = some h.seq →
        (after (.payment b)).1 = (.ok, .paid b.tendered b.tax b.recovered p.result.debtAfter)) ∧
    (∀ meter link,
      wrote (after (.reissue slot meter link)).2
        { now with lastSale := a.lastSale.map (fun l => { l with reissues := min 9 (l.reissues + 1) }) } r
        { x with reissues := up x.reissues 1 } ∧
      ∀ seq ciphers, figures = .reissue seq ciphers → (after (.reissue slot meter link)).1 =
        (.ok, .reissued link seq (ciphers.map (fun k => { cipher := k, digits := render k })))) ∧
    ∀ b : ReversalBody, b.slot = slot → r.lastApplied < h.seq → b.purchased + b.allowance ≤ r.totalIssued →
      b.purchased ≤ now.monthUnits → b.allowance ≤ now.allowanceIssued →
      wrote (after (.reversal b)).2
        { now with
          debt := min 99999999 (a.debt + b.recovered)
          monthUnits := now.monthUnits - b.purchased
          allowanceIssued := now.allowanceIssued - b.allowance
          carry := b.carryBefore
          revokePending := some b.tokenSeq
          lastSale := a.lastSale.map (fun l => { l with reversed := true }) }
        { r with balance := r.balance + (b.purchased + b.allowance)
                 totalIssued := r.totalIssued - (b.purchased + b.allowance), lastApplied := h.seq }
        { x with reversals := up x.reversals 1, reversed := up x.reversed (b.purchased + b.allowance) } ∧
      (after (.reversal b)).1 = (.ok, .reversed b.backLink b.tendered (b.purchased + b.allowance)
        (min 99999999 (a.debt + b.recovered)))

/-- The completion of a SALE, PAYMENT, REISSUE or REVERSAL record on a damaged slot, one in the damage list or one of
whose record an uncorrectable word is read: no account is written, the slot enters the list where it is not in it (the
overflow flag being set when the list is full), and every other effect is made in full: the reserve is debited by a sale
and credited by a reversal, the totals of the shift are raised, a committing sale of the record's sequence ends, and the
reply is OK with the figures it carries for an account that is whole, but for the debt of a REVERSAL, which cannot be
read (a free value, log 11). -/
def Obligations.DamagedSlotWithholdsAccountAlone : Prop :=
  ∀ (s : State) (h : RecordHead) (t : Fin 8) (slot : Nat) (inService : Bool) (figures : Figures),
    let listed := s.mem.sys.damage
    (Sound s ∧ slot ∈ listed.slots ∨ slot ∉ listed.slots ∧ ∃ a d, s.mem.ecc = [(a, d)] ∧ a < 131072 ∧ a / 8 = slot ∧
      wordOutcome d.syndrome = .uncorrectable) →
    h.terminal = t.val →
    let r := s.mem.sys.reserve
    let e := s.mem.sys.terms.get t
    let x := e.totals
    let up (m n : Nat) : Nat := min 4294967295 (m + n)
    let after (b : RecordBody) : Spoken × State := applyRecord inService figures { head := h, body := b } s
    let wrote (u : State) (reserve : ReserveRecord) (totals : ShiftTotals) : Prop :=
      u.mem.accounts = s.mem.accounts ∧ u.mem.index = s.mem.index ∧
      u.mem.ecc = s.mem.ecc.map (fun x => (x.1, { x.2 with found := true })) ∧
      u.mem.sys = { s.mem.sys with
        errorLog := u.mem.sys.errorLog
        damage := if slot ∈ listed.slots then listed
          else if listed.slots.length < 32 then { listed with slots := listed.slots ++ [slot] }
          else { listed with overflow := true }
        reserve := reserve
        terms := s.mem.sys.terms.put t { e with lastApplied := h.seq, totals := totals } } ∧
      (Sound s → u.mem.sys.errorLog = s.mem.sys.errorLog) ∧
      u.mode = s.mode ∧ u.sysFault = s.sysFault ∧
      u.secure = s.secure ∧ u.clock = s.clock ∧ u.copy = s.copy ∧ u.queue = s.queue ∧ u.tx = s.tx
    let ends (u : State) : Prop :=
      ∀ p, (s.term t).sale = some p → p.state = .committing → p.journalSeq = some h.seq → p.setAside ≤ s.setAsides →
        (u.term t).sale = none ∧ u.setAsides = s.setAsides - p.setAside
    e.lastApplied < h.seq → e.shiftNo = h.shiftNo →
    (∀ b : SaleBody, b.slot = slot → r.lastApplied < h.seq → b.purchased + b.allowance ≤ r.balance →
      wrote (after (.sale b)).2
        { r with balance := r.balance - (b.purchased + b.allowance)
                 totalIssued := r.totalIssued + (b.purchased + b.allowance), lastApplied := h.seq }
        { x with
          sales := up x.sales 1, tokens := up x.tokens b.tokenCount, tendered := up x.tendered b.tendered
          tax := up x.tax b.tax, recovered := up x.recovered b.recovered, sold := up x.sold b.purchased
          allowance := up x.allowance b.allowance } ∧
      ends (after (.sale b)).2 ∧
      ∀ p, (s.term t).sale = some p → p.state = .committing → p.journalSeq = some h.seq →
        (after (.sale b)).1 = (.ok, .sold (figuresOf p) h.seq b.tokenSeq b.revokeDelta p.tokens)) ∧
    (∀ b : PaymentBody, b.slot = slot →
      wrote (after (.payment b)).2 r
        { x with payments := up x.payments 1, tendered := up x.tendered b.tendered, tax := up x.tax b.tax
                 recovered := up x.recovered b.recovered } ∧
      ends (after (.payment b)).2 ∧
      ∀ p, (s.term t).sale = some p → p.state = .committing → p.journalSeq = some h.seq →
        (after (.payment b)).1 = (.ok, .paid b.tendered b.tax b.recovered p.result.debtAfter)) ∧
    (∀ meter link,
      wrote (after (.reissue slot meter link)).2 r { x with reissues := up x.reissues 1 } ∧
      ∀ seq ciphers, figures = .reissue seq ciphers → (after (.reissue slot meter link)).1 =
        (.ok, .reissued link seq (ciphers.map (fun k => { cipher := k, digits := render k })))) ∧
    ∀ b : ReversalBody, b.slot = slot → r.lastApplied < h.seq → b.purchased + b.allowance ≤ r.totalIssued →
      wrote (after (.reversal b)).2
        { r with balance := r.balance + (b.purchased + b.allowance)
                 totalIssued := r.totalIssued - (b.purchased + b.allowance), lastApplied := h.seq }
        { x with reversals := up x.reversals 1, reversed := up x.reversed (b.purchased + b.allowance) } ∧
      ∃ debt, (after (.reversal b)).1 = (.ok, .reversed b.backLink b.tendered (b.purchased + b.allowance) debt)

/-- The completion of a GRANT record past the reserve last applied adds its amount to the balance and to the total
granted and takes its number as the last voucher; one at or below it leaves the reserve record. In either case the
voucher floor is raised to its number where it is below it, nothing else changes, and the reply gives the balance and
the total granted. The law of the reserve, total granted equal to balance plus total issued, is kept by the effects of
every record, of whatever kind, that does not debit more than the balance or take back more than was issued; and a
record that is no SALE, REVERSAL, GRANT or INIT leaves the reserve record as it stands. -/
def Obligations.GrantsAddAndRecordsKeepReserveLaw : Prop :=
  ∀ (s : State) (inService : Bool) (figures : Figures), Sound s →
    (∀ (h : RecordHead) (v : Voucher),
      let r := s.mem.sys.reserve
      let added : ReserveRecord := if r.lastApplied < h.seq then
        { r with balance := r.balance + v.amount, totalGranted := r.totalGranted + v.amount, lastVoucher := v.number
                 lastApplied := h.seq } else r
      applyRecord inService figures { head := h, body := .grant v } s =
        ((.ok, .granted v.number v.amount added.balance added.totalGranted),
          { s with mem := { s.mem with sys := { s.mem.sys with reserve := added } }
                   secure := { s.secure with voucherFloor :=
                     if s.secure.voucherFloor < v.number then v.number else s.secure.voucherFloor } })) ∧
    ∀ r : Record,
      let u := (applyRecord inService figures r s).2
      (s.mem.sys.reserve.balanced → (∀ b, r.body = .sale b → b.purchased + b.allowance ≤ s.mem.sys.reserve.balance) →
        (∀ b, r.body = .reversal b → b.purchased + b.allowance ≤ s.mem.sys.reserve.totalIssued) →
        u.mem.sys.reserve.balanced) ∧
      ((∀ b, r.body ≠ .sale b) → (∀ b, r.body ≠ .reversal b) → (∀ v, r.body ≠ .grant v) → (∀ k, r.body ≠ .init k) →
        u.mem.sys.reserve = s.mem.sys.reserve)

/-- The completion of a KEY record past the key last applied: a load with the latch clear puts the key opened from its
block into its slot, ACTIVE, and counts; under a set latch it leaves the slot as it is and does not count; a RETIRE or
ERASE whose slot still holds its area and generation retires or empties it, and counts, and one whose slot no longer
holds them moves the key last applied alone. The completion of a CLOCK record past the clock last applied moves the
reading by the difference between the reading it carries and its time, not before the current month and not beyond the
last second, and the clock is RUNNING; it raises TARIFF_EFFECTIVE when it carries the reading from below the alarm's
time to it or past it; and its reply gives the reading before and after, the new month index, and whether MONTH_START
and TARIFF_EFFECTIVE were raised. -/
def Obligations.KeyAndClockRecordsTakeEffect : Prop :=
  ∀ (s : State) (h : RecordHead) (inService : Bool) (figures : Figures),
    let after (b : RecordBody) : State := (applyRecord inService figures { head := h, body := b } s).2
    (∀ k, s.secure.keyLastApplied < h.seq →
      let counted := (s.secure.counter + 1) % 4294967296
      (k.action = .load → s.secure.tamperLatch = false → after (.key k) = s.setSecure { s.secure with
        slots := SMap.put k.slot { state := .active, area := k.area, gen := k.gen,
                                   key := openKeyBlock s.secure.factory.transportKey k.keyBlock } s.secure.slots
        counter := counted, keyLastApplied := h.seq }) ∧
      (k.action = .load → s.secure.tamperLatch = true →
        after (.key k) = s.setSecure { s.secure with keyLastApplied := h.seq }) ∧
      (∀ x, SMap.find k.slot s.secure.slots = some x → x.area = k.area → x.gen = k.gen →
        (k.action = .retire → after (.key k) = s.setSecure { s.secure with
          slots := SMap.put k.slot { x with state := .retired } s.secure.slots
          counter := counted, keyLastApplied := h.seq }) ∧
        (k.action = .erase → after (.key k) = s.setSecure { s.secure with
          slots := SMap.erase k.slot s.secure.slots, counter := counted, keyLastApplied := h.seq })) ∧
      (k.action ≠ .load → (∀ x, SMap.find k.slot s.secure.slots = some x → x.area ≠ k.area ∨ x.gen ≠ k.gen) →
        after (.key k) = s.setSecure { s.secure with keyLastApplied := h.seq })) ∧
    (∀ n, s.clock.lastApplied < h.seq → s.clock.reading ≤ lastReading →
      let moved := s.clock.reading + n - h.time
      let u := after (.clock n)
      u.clock.state = .running ∧ u.clock.lastApplied = h.seq ∧ s.month ≤ u.month ∧ u.clock.reading ≤ lastReading ∧
        (s.month ≤ monthOf moved → moved ≤ lastReading → u.clock.reading = moved) ∧
        (s.month ≤ monthOf moved → lastReading < moved → u.clock.reading = lastReading) ∧
        (monthOf moved < s.month → u.clock.reading = firstOfMonth s.month) ∧
        u = s.setClock u.clock ∧ u.clock.alarm = s.clock.alarm ∧
        let raised := s.clock.alarm.any (fun a => decide (s.clock.reading < a) && decide (a ≤ u.clock.reading))
        u.clock.tariffRaised = (s.clock.tariffRaised || raised) ∧
        (applyRecord inService figures { head := h, body := .clock n } s).1 =
          (.ok, .clockSet s.clock.reading u.clock.reading u.month (u.month != s.month) raised))

/-- A SHIFT_OPEN record opens its terminal's shift with its head's shift number and operator and totals of zero, OPEN at
a completion in service and SUSPENDED at roll-forward; a SHIFT_CLOSE closes its target's shift; a TERMINAL record sets
its target's role; each past the entry's last applied, which takes the record's sequence, and otherwise nothing. A
SETTINGS record past the settings last applied replaces the settings present in it, starts the scrub timer afresh when
the scrub interval is among them and the module is not STARTING (an equal interval included: the model's choice, log
27), and its reply gives for each the value requested, the value applied and whether it was clamped. An INIT record past
the init sequence writes account memory afresh with its sequence, the pointers and the voucher floor kept, empties the
write queue and the terminal table, keeps the reading and the keys, and ends start-up IN_SERVICE; one at or below it is
passed over. A record passed over is answered with the figures it carries: the model's choice (log 24). -/
def Obligations.OfficeRecordsTakeEffect : Prop :=
  ∀ (s : State) (h : RecordHead) (inService : Bool) (figures : Figures), Sound s →
    let after (b : RecordBody) : Spoken × State := applyRecord inService figures { head := h, body := b } s
    let entry (u : Fin 8) (f : TermEntry → TermEntry) : State :=
      let e := s.mem.sys.terms.get u
      if e.lastApplied < h.seq then
        s.setSys { s.mem.sys with terms := s.mem.sys.terms.put u { f e with lastApplied := h.seq } } else s
    (∀ t : Fin 8, h.terminal = t.val → after .shiftOpen = ((.ok, .shiftOpened h.shiftNo),
      entry t (fun e => { e with shift := if inService then .opened else .suspended, operator := h.operator
                                 shiftNo := h.shiftNo, totals := .zero }))) ∧
    (∀ b, after (.shiftClose b) = ((.ok, .shiftClosed b), entry b.target (fun e => { e with shift := .closed }))) ∧
    (∀ u role, after (.terminal u role) = ((.ok, .terminalSet u role), entry u (fun e => { e with role := role }))) ∧
    (∀ c : SettingsChange,
      let x := s.mem.sys.settings
      (s.mem.sys.settingsApplied < h.seq → (after (.settings c)).2 =
        { s with
          scrub := match c.scrubInterval with
            | some n => if starting s then s.scrub else { s.scrub with timer := if n = 0 then none else some n }
            | none => s.scrub
          mem := { s.mem with sys := { s.mem.sys with
            settingsApplied := h.seq
            settings :=
              { holdTime := c.holdTime.getD x.holdTime, idleLimit := c.idleLimit.getD x.idleLimit
                reversalWindow := c.reversalWindow.getD x.reversalWindow
                reissueLimit := c.reissueLimit.getD x.reissueLimit
                scrubInterval := c.scrubInterval.getD x.scrubInterval
                reserveLow := c.reserveLow.getD x.reserveLow
                journalNearFull := c.journalNearFull.getD x.journalNearFull } } } }) ∧
      (h.seq ≤ s.mem.sys.settingsApplied → (after (.settings c)).2 = s) ∧
      ∀ req, figures = .settings req → (after (.settings c)).1 = (.ok, .settingsSet
        (List.zipWith (fun (q v : Option Nat) => q.bind (fun n => v.map (fun m =>
            { requested := n, applied := m, clamped := n != m })))
          [req.holdTime, req.idleLimit, req.reversalWindow, req.reissueLimit, req.scrubInterval, req.reserveLow,
            req.journalNearFull]
          [c.holdTime, c.idleLimit, c.reversalWindow, c.reissueLimit, c.scrubInterval, c.reserveLow,
            c.journalNearFull]))) ∧
    ∀ (k : InitCause) (c : RingCopy) (n : Nat), s.copy = some c → s.mem.sys.signature = some n →
      (after (.init k)).1 = (.ok, .initialised h.seq (s.init.bind (·.released))) ∧
      (n < h.seq → (after (.init k)).2 =
        { s with
          mode := .inService
          mem := .initial h.seq s.secure.voucherFloor c.head c.tail
          copy := some { head := c.head, tail := c.tail, mark := none }
          queue := [], terms := .all8 .idleNone, setAsides := 0, reads := [], init := none, bus := none, sysFault := none
          scrub := { pos := 0, timer := some 10 }
          clock := { s.clock with lastApplied := h.seq, alarm := none, tariffRaised := false }
          secure := { s.secure with keyLastApplied := h.seq } }) ∧
      (h.seq ≤ n → s.init = none → (after (.init k)).2 = s)

/-- The completion of an ACCOUNT record of each subkind, with the index sound in form. CREATE writes a new ACTIVE
record; EDIT replaces the fields present; CLOSE leaves a FREE record; REPLACE takes the new number and keys and drops
the last sale; REKEY forces a key change; LOAD writes its image whole. Each is made past the record's last applied
alone, its month counters first brought to the record's month (all but CREATE, CLOSE and LOAD, which set them), and then
the index follows: CREATE adds a LIVE entry, CLOSE removes every entry of the slot, REPLACE makes the old number RETIRED
at the record's time and the new one LIVE, a LOAD of a FREE image removes the slot's entries, and another gives its
number the slot's one LIVE entry. A LOAD takes the slot out of the damage list; any other of a listed slot changes
nothing and is answered with ACCOUNT_DAMAGED. A record passed over by its guard changes nothing, and is answered as if
applied, a LOAD with what the damage list holds: the model's choice (log 24). -/
def Obligations.AccountRecordsTakeEffect : Prop :=
  ∀ (s : State) (h : RecordHead) (r : AccountRecord) (slot : Nat) (inService : Bool) (figures : Figures), Sound s →
    s.mem.wf = true → (RecordBody.account r).slot? = some slot →
    let after := applyRecord inService figures { head := h, body := .account r } s
    let u := after.2
    let a := s.mem.accounts.read slot
    let was (k : Nat) : Option IndexEntry := SMap.find k s.mem.index.entries
    let kept (liveOnly : Bool) (k : Nat) : Option IndexEntry :=
      (was k).filter (fun e => e.slot != slot || liveOnly && e.kind != .live)
    let now : Account :=
      if a.counterMonth < monthOf h.time then
        { a with counterMonth := monthOf h.time, monthUnits := 0, allowanceIssued := 0 } else a
    let written : Account := match r with
      | .create _ n =>
        { state := .active, meter := n.meter, area := n.area, keyGen := n.gen, forceKeyChange := false
          tariffClass := n.tariffClass, allowanceFlag := n.allowanceFlag, issueSeq := 0
          counterMonth := monthOf h.time, monthUnits := 0, allowanceIssued := 0, debt := n.debt, rate := n.rate
          carry := 0, maxPerSale := n.maxPerSale, lastSale := none, revokePending := none, lastApplied := 0 }
      | .edit _ _ e =>
        { now with tariffClass := e.tariffClass.getD a.tariffClass, allowanceFlag := e.allowanceFlag.getD a.allowanceFlag
                   debt := e.debt.getD a.debt, rate := e.rate.getD a.rate, maxPerSale := e.maxPerSale.getD a.maxPerSale
                   state := e.state.getD a.state }
      | .close _ _ => .blank 0
      | .replace _ _ m area gen =>
        { now with meter := m, area := area, keyGen := gen, forceKeyChange := false, issueSeq := 0
                   revokePending := none, lastSale := none }
      | .load _ image => image
      | .rekey _ _ => { now with forceKeyChange := true }
    let entry (k : Nat) : Option IndexEntry := match r with
      | .create _ n => if k = n.meter then some { slot := slot, kind := .live } else was k
      | .edit _ _ _ => was k
      | .close _ _ => kept false k
      | .replace _ old m _ _ =>
        if k = m then some { slot := slot, kind := .live }
        else if k = old then some { slot := slot, kind := .retired h.time } else was k
      | .load _ image =>
        if image.state = .free then kept false k
        else if k = image.meter then some { slot := slot, kind := .live } else kept true k
      | .rekey _ _ => was k
    let loads : Prop := ∃ image, r = .load slot image
    let listed : Prop := slot ∈ s.mem.sys.damage.slots
    (a.lastApplied < h.seq → (loads ∨ ¬ listed) →
      u = { s with mem := u.mem } ∧ u.mem.ecc = [] ∧ u.mem.wf = true ∧
      u.mem.accounts.read slot = { written with lastApplied := h.seq } ∧
      (∀ n, n ≠ slot → u.mem.accounts.read n = s.mem.accounts.read n) ∧
      (∀ k, SMap.find k u.mem.index.entries = entry k) ∧ u.mem.index.damaged = s.mem.index.damaged ∧
      (s.mem.index.count = s.mem.index.entries.length → u.mem.index.count = u.mem.index.entries.length) ∧
      (¬ loads → u.mem.sys = s.mem.sys) ∧
      (loads → u.mem.sys = { s.mem.sys with damage :=
        { s.mem.sys.damage with slots := s.mem.sys.damage.slots.filter (· ≠ slot) } })) ∧
    (h.seq ≤ a.lastApplied → (loads ∨ ¬ listed) → u = s) ∧
    (listed → ¬ loads → after = ((.accountDamaged, .empty), s)) ∧
    (∀ image, r = .load slot image → ¬ listed →
      after.1 = (.ok, .loaded slot false s.mem.sys.damage.slots.length)) ∧
    (∀ image, r = .load slot image → listed →
      after.1 = (.ok, .loaded slot true u.mem.sys.damage.slots.length)) ∧
    (∀ n, r = .create slot n → ¬ listed → after.1 = (.ok, .created slot)) ∧
    ((∀ n, r ≠ .create slot n) → ¬ loads → ¬ listed → after.1 = (.ok, .empty))

/-! ### The computations, the keys and the formats -/

/-- A SALE's tender below the minimum sale is refused with BELOW_MINIMUM and the minimum, one at or above it is not so
refused whatever its net amount, a minimum of 0 refuses none, and a payment is not measured against it. In SALE mode a
part of the net amount is taken against the debt at the recovery rate: R = min(D, floor(N r / 10,000)), and E = N - R is
left for energy. The debt is never recovered beyond zero; a rate or a debt of 0 gives R = 0 and E = N; at least half of
the net amount reaches energy at any rate up to 5,000, and a greater tender never leaves less for energy nor buys less;
the new debt is D - R; and with E = 0 the computation goes on with the carry alone. (The rules
are cited for a bank within R24's law; that the clauses hold of the walk through one that a misread word has put outside
it, of which no rule speaks, is the model's choice, log 51.) -/
def Obligations.MinimumAndRecoveryGoByRule : Prop :=
  ∀ i : CreditInputs, i.rate ≤ 5000 →
    (i.tender < i.minSale → computeSale i = .error (.belowMinimum, .minimum i.minSale)) ∧
    (i.minSale ≤ i.tender → ∀ e, computeSale i ≠ .error (.belowMinimum, e)) ∧
    (∀ e, computeSale { i with minSale := 0 } ≠ .error (.belowMinimum, e)) ∧
    (∀ m, computePayment { i with minSale := m } = computePayment i) ∧
    (∀ r, computeSale i = .ok r →
      r.recovered = min i.debt (netAmount i.tender i.tax * i.rate / 10000) ∧ r.debtAfter = i.debt - r.recovered ∧
        r.recovered ≤ i.debt) ∧
    (∀ T, energyMoney i T = netAmount T i.tax - min i.debt (netAmount T i.tax * i.rate / 10000)) ∧
    (∀ T, i.rate = 0 ∨ i.debt = 0 → recoveredAmount (netAmount T i.tax) i.debt i.rate = 0 ∧
      energyMoney i T = netAmount T i.tax) ∧
    (∀ T, netAmount T i.tax ≤ 2 * energyMoney i T) ∧
    (∀ T U, T ≤ U → energyMoney i T ≤ energyMoney i U ∧ (walkOf i T).units ≤ (walkOf i U).units) ∧
    (∀ T, walkOf i T = walk i.blocks i.month (energyMoney i T * 1000 + i.carry)) ∧
    ∀ T, energyMoney i T = 0 → walkOf i T = walk i.blocks i.month i.carry

/-- A PAYMENT pays debt with its whole net amount N and buys no energy. Its checks in order: NO_DEBT for a debt of 0;
OVERPAYMENT for N above the debt, with the debt and the clearing tender, which is the largest tender up to 5,000,000
whose net amount is no more than the debt, and pays it exactly; NOTHING_TO_ISSUE for N of 0. Otherwise the amount
recovered is N and the debt falls by it; no unit is bought and no allowance given; carry, month units and allowance
issued stay; and the set-aside is 0. The net amounts of consecutive tenders rise by 0 or 1 cent, and a payment of the
clearing tender leaves a debt of 0. -/
def Obligations.PaymentComputationGoesByRule : Prop :=
  ∀ i : CreditInputs, i.mode = .payment →
    let net (T : Nat) : Nat := netAmount T i.tax
    let clearing := clearingTender i.debt i.tax
    (i.debt = 0 → compute i = .error (.noDebt, .empty)) ∧
    (i.debt ≠ 0 → i.debt < net i.tender → compute i = .error (.overpayment, .overpayment i.debt clearing)) ∧
    (i.debt ≠ 0 → net i.tender = 0 → compute i = .error (.nothingToIssue, .empty)) ∧
    (0 < net i.tender → net i.tender ≤ i.debt → compute i = .ok
      { tax := i.tender - net i.tender, recovered := net i.tender, purchased := 0, allowance := 0
        carryBefore := i.carry, carryAfter := i.carry, monthBefore := i.month, monthAfter := i.month
        allowanceAfter := i.issued, debtAfter := i.debt - net i.tender, touched := [] }) ∧
    (∀ r, setAsideOf i.mode r = 0) ∧
    (∀ T, net T ≤ net (T + 1) ∧ net (T + 1) ≤ net T + 1) ∧
    (clearing ≤ 5000000 ∧ net clearing ≤ i.debt ∧ ∀ T, clearing < T → T ≤ 5000000 → i.debt < net T) ∧
    (clearing < 5000000 → 10000 * clearing < (i.debt + 1) * (10000 + i.tax) ∧
      (i.debt + 1) * (10000 + i.tax) ≤ 10000 * (clearing + 1)) ∧
    (i.debt ≠ 0 → i.debt < net i.tender → i.tender ≤ 5000000 →
      net clearing = i.debt ∧ ∃ r, compute { i with tender := clearing } = .ok r ∧ r.debtAfter = 0)

/-- A computation in SALE mode accounts for every cent and every millicent: the tender is tax, recovery and money for
energy; that money and the carry before it are the units bought at their tariff blocks' prices and the carry after; the
units bought are those of the blocks touched, each at the price of its block; the token amount lies between 1 and the
maximum per sale and within the reserve; and the carry after is below 1,000,000 millicents. (With bounds that a misread
word has put outside R24's law, of which no rule speaks, the walk is the model's choice, log 51.) -/
def Obligations.SaleComputationAccountsForAll : Prop :=
  ∀ (i : CreditInputs) (r : CreditResult), computeSale i = .ok r → i.rate ≤ 5000 → i.blocks ≠ [] →
    i.month ≤ 16777215 → (∀ b ∈ i.blocks, 1 ≤ b.price ∧ b.price ≤ 999999 ∧ b.bound ≤ 16777215) →
    i.tender = r.tax + r.recovered + energyMoney i i.tender ∧
      energyMoney i i.tender * 1000 + i.carry = (r.touched.map (fun x => x.units * x.price)).sum + r.carryAfter ∧
      r.purchased = (r.touched.map (·.units)).sum ∧
      (∀ x ∈ r.touched, 1 ≤ x.units ∧ 1 ≤ x.number ∧
        ∃ b, i.blocks[x.number - 1]? = some b ∧ x.price = b.price) ∧
      r.monthAfter = i.month + r.purchased ∧ r.monthAfter ≤ 16777215 ∧ r.debtAfter + r.recovered = i.debt ∧
      1 ≤ r.purchased + r.allowance ∧ r.purchased + r.allowance ≤ i.maxPerSale ∧
      r.purchased + r.allowance ≤ i.available ∧ r.carryBefore = i.carry ∧ r.carryAfter < 1000000

/-- The suggested tender is the largest tender up to 5,000,000 cents that fits the maximum per sale without saturating
the month units, and 0 when none fits; and a tender at or above the minimum sale that does not fit is refused with
AMOUNT_HIGH, the suggested tender and the maximum. (With a bank that a misread word has put outside R24's law, of which
no rule speaks, the walk and so the search are the model's choice, log 51.) -/
def Obligations.SuggestedTenderIsLargestThatFits : Prop :=
  ∀ i : CreditInputs, i.rate ≤ 5000 →
    suggestedTender i ≤ 5000000 ∧ (suggestedTender i = 0 ∨ fits i (suggestedTender i) = true) ∧
      (∀ T, suggestedTender i < T → T ≤ 5000000 → fits i T = false) ∧
      (i.minSale ≤ i.tender → fits i i.tender = false →
        computeSale i = .error (.amountHigh, .amountHigh (suggestedTender i) i.maxPerSale))

/-- The current generation of an area is the highest that an ACTIVE slot of it holds. A key plan is refused with NO_KEY
without one; a key change is made when the account's generation differs from it or is forced; with one KEY_MISSING is
given when no slot holds the account's generation, and without one SEQ_EXHAUSTED at an issue sequence of 65,535. A plan
has 3 tokens with a key change and 1 without, none in PAYMENT mode; the token sequence is 1 with a key change, else one
more than the issue sequence; the revoke delta is their difference from a revoked sequence when it is 1 to 31 and no key
change is made, else 0. (The new generation of a plan without a key change is the model's choice, log 37.) A build
yields the credit token under the new meter key, before it with a key change the two key tokens under the old, each
rendered; and the plaintexts hold their class, their fields and, in the last 16 bits, the CRC-16 of their first 48. -/
def Obligations.KeyPlansAndTokensGoByRule : Prop :=
  (∀ (area g : Nat) (slots : SMap KeySlot), currentGen area slots = some g ↔
    (∃ n k, (n, k) ∈ slots ∧ k.state = .active ∧ k.area = area ∧ k.gen = g) ∧
      ∀ n k, (n, k) ∈ slots → k.state = .active → k.area = area → k.gen ≤ g) ∧
  (∀ (mode : SaleMode) (a : Account) (slots : SMap KeySlot),
    (currentGen a.area slots = none → keyPlan mode a slots = .error .noKey) ∧
    ∀ cur, currentGen a.area slots = some cur →
      let change : Prop := a.keyGen ≠ cur ∨ a.forceKeyChange = true
      let count (n : Nat) : Nat := match mode with
        | .sale => n
        | .payment => 0
      (change → keySlotOf a.area a.keyGen slots = none → keyPlan mode a slots = .error .keyMissing) ∧
      (change → keySlotOf a.area a.keyGen slots ≠ none → keyPlan mode a slots = .ok
        { keyChange := true, newGen := cur, tokenCount := count 3, tokenSeq := 1, revokeDelta := 0, area := a.area
          oldGen := a.keyGen }) ∧
      (¬ change → a.issueSeq = 65535 → keyPlan mode a slots = .error .seqExhausted) ∧
      (¬ change → a.issueSeq ≠ 65535 → ∃ delta, keyPlan mode a slots = .ok
          { keyChange := false, newGen := cur, tokenCount := count 1, tokenSeq := a.issueSeq + 1, revokeDelta := delta
            area := a.area, oldGen := a.keyGen } ∧
        ∀ d, 1 ≤ d → (delta = d ↔ d ≤ 31 ∧ ∃ q, a.revokePending = some q ∧ q + d = a.issueSeq + 1))) ∧
  (∀ (plan : KeyPlan) (meter amount : Nat) (slots : SMap KeySlot) (n m : Nat) (fresh prior : KeySlot),
    keySlotOf plan.area plan.newGen slots = some (n, fresh) → keySlotOf plan.area plan.oldGen slots = some (m, prior) →
    let newKey := Config.meterKey fresh.key (BitVec.ofNat 80 meter)
    let oldKey := Config.meterKey prior.key (BitVec.ofNat 80 meter)
    let token (key : Key80) (plain : Block64) : Token :=
      { cipher := Config.tokenCipher key plain, digits := render (Config.tokenCipher key plain) }
    let credit := token newKey (creditPlain plan.tokenSeq amount plan.revokeDelta)
    buildTokens plan meter amount slots = if plan.keyChange then
      [token oldKey (keyFirstPlain plan.newGen newKey), token oldKey (keySecondPlain plan.newGen newKey), credit]
      else [credit]) ∧
  ∀ (seq amount delta gen : Nat) (key : Key80),
    let credit := creditPlain seq amount delta
    let first := keyFirstPlain gen key
    let second := keySecondPlain gen key
    (credit.extractLsb' 61 3 = 0#3 ∧ credit.extractLsb' 45 16 = BitVec.ofNat 16 seq ∧
      credit.extractLsb' 21 24 = BitVec.ofNat 24 amount ∧ credit.extractLsb' 16 5 = BitVec.ofNat 5 delta) ∧
    (first.extractLsb' 60 4 = 2#4 ∧ first.extractLsb' 56 4 = BitVec.ofNat 4 gen ∧
      first.extractLsb' 16 40 = key.extractLsb' 40 40) ∧
    (second.extractLsb' 60 4 = 5#4 ∧ second.extractLsb' 56 4 = BitVec.ofNat 4 gen ∧
      second.extractLsb' 16 40 = key.extractLsb' 0 40) ∧
    ∀ x, x = credit ∨ x = first ∨ x = second →
      x.extractLsb' 0 16 = crc16 (natBytes 6 (x.extractLsb' 16 48).toNat)

/-- What the module writes is what it reads: the 128 bytes of a SALE record hold a good CRC and read as that record; the
53 bytes of an account image pass the field checks of a load and read as that account; two ciphertexts rendered in the
same 24 digits are one ciphertext; and the content of every reply has 9 to 489 bytes with a good CRC, its kind,
terminal, tag, result and flags standing in the first seven. -/
def Obligations.FormatsReadBack : Prop :=
  (∀ (h : RecordHead) (b : SaleBody), h.fits → b.fits →
    let bytes := recordBytes { head := h, body := .sale b }
    bytes.length = 128 ∧ crcGood bytes = true ∧ recordOf bytes = { head := h, body := .sale b }) ∧
  (∀ a : Account, a.inRange →
    (accountImage a).length = 53 ∧ imageOk (accountImage a) = true ∧ imageAccount (accountImage a) = a) ∧
  (∀ x y : Block64, (render x).length = 24 ∧ (render x = render y → x = y)) ∧
  ∀ r : Reply,
    let bytes := replyContent r
    9 ≤ bytes.length ∧ bytes.length ≤ 489 ∧ crcMatches bytes = true ∧ frameKind bytes = r.kind ∧
      frameTerminal bytes = r.terminal ∧ frameTag bytes = r.tag ∧ fieldNat 4 1 bytes = r.result.code ∧
      fieldNat 5 2 bytes = r.flags.toNat ∧ field 7 (bytes.length - 9) bytes = r.body.bytes
end

