-- ==== Sys2Proof/Laws/Bytes.lean ====
section
/-!
SUPPORT. Laws/Bytes.lean: numbers written in bytes and read back, most significant byte first.
-/
namespace Sys2Proof.Machine

@[simp] theorem natBytes_length (w n : Nat) : (natBytes w n).length = w := by
  induction w with
  | zero => rfl
  | succ w ih => simp [natBytes, ih]

theorem foldl_natBytes (w n a : Nat) :
    (natBytes w n).foldl (fun m (b : Byte) => m * 256 + b.toNat) a = a * 256 ^ w + n % 256 ^ w := by
  induction w generalizing a with
  | zero => simp [natBytes, Nat.mod_one]
  | succ w ih =>
    have h : n % 256 ^ (w + 1) = n % 256 ^ w + 256 ^ w * (n / 256 ^ w % 256) := by rw [pow_succ, Nat.mod_mul]
    simp only [natBytes, List.foldl_cons, ih, BitVec.toNat_ofNat]
    rw [h, pow_succ]
    ring_nf

/-- The number that the bytes of a number give. -/
theorem beNat_natBytes (w n : Nat) : beNat (natBytes w n) = n % 256 ^ w := by
  simp [beNat, foldl_natBytes]

/-- A field that stands behind `front` in a body reads as the number written there. -/
theorem fieldNat_of (front back : List Byte) (w n : Nat) (h : n < 256 ^ w) :
    fieldNat front.length w (front ++ natBytes w n ++ back) = n := by
  simp [fieldNat, field, List.append_assoc, beNat_natBytes, Nat.mod_eq_of_lt h]

end Sys2Proof.Machine
end

