-- ==== Sys2Proof/Laws/State.lean ====
section
/-!
SUPPORT. Laws/State.lean: one lemma for each field of the state and each update of it, true by definition.
-/
namespace Sys2Proof.Machine

@[simp] theorem State.setPending_pending (s : State) (v : List Instr) : (s.setPending v).pending = v := rfl
@[simp] theorem State.setPending_powered (s : State) (v : List Instr) : (s.setPending v).powered = s.powered := rfl
@[simp] theorem State.setPending_mode (s : State) (v : List Instr) : (s.setPending v).mode = s.mode := rfl
@[simp] theorem State.setPending_mem (s : State) (v : List Instr) : (s.setPending v).mem = s.mem := rfl
@[simp] theorem State.setPending_secure (s : State) (v : List Instr) : (s.setPending v).secure = s.secure := rfl
@[simp] theorem State.setPending_device (s : State) (v : List Instr) : (s.setPending v).device = s.device := rfl
@[simp] theorem State.setPending_clock (s : State) (v : List Instr) : (s.setPending v).clock = s.clock := rfl
@[simp] theorem State.setPending_line (s : State) (v : List Instr) : (s.setPending v).line = s.line := rfl
@[simp] theorem State.setPending_tx (s : State) (v : List Instr) : (s.setPending v).tx = s.tx := rfl
@[simp] theorem State.setPending_terms (s : State) (v : List Instr) : (s.setPending v).terms = s.terms := rfl
@[simp] theorem State.setPending_setAsides (s : State) (v : List Instr) : (s.setPending v).setAsides = s.setAsides := rfl
@[simp] theorem State.setPending_queue (s : State) (v : List Instr) : (s.setPending v).queue = s.queue := rfl
@[simp] theorem State.setPending_copy (s : State) (v : List Instr) : (s.setPending v).copy = s.copy := rfl
@[simp] theorem State.setPending_bus (s : State) (v : List Instr) : (s.setPending v).bus = s.bus := rfl
@[simp] theorem State.setPending_reads (s : State) (v : List Instr) : (s.setPending v).reads = s.reads := rfl
@[simp] theorem State.setPending_retry (s : State) (v : List Instr) : (s.setPending v).retry = s.retry := rfl
@[simp] theorem State.setPending_init (s : State) (v : List Instr) : (s.setPending v).init = s.init := rfl
@[simp] theorem State.setPending_scrub (s : State) (v : List Instr) : (s.setPending v).scrub = s.scrub := rfl
@[simp] theorem State.setPending_sysFault (s : State) (v : List Instr) : (s.setPending v).sysFault = s.sysFault := rfl
@[simp] theorem State.setPending_enclosureOpen (s : State) (v : List Instr) : (s.setPending v).enclosureOpen = s.enclosureOpen := rfl
@[simp] theorem State.setPending_draws (s : State) (v : List Instr) : (s.setPending v).draws = s.draws := rfl

@[simp] theorem State.setPowered_pending (s : State) (v : Bool) : (s.setPowered v).pending = s.pending := rfl
@[simp] theorem State.setPowered_powered (s : State) (v : Bool) : (s.setPowered v).powered = v := rfl
@[simp] theorem State.setPowered_mode (s : State) (v : Bool) : (s.setPowered v).mode = s.mode := rfl
@[simp] theorem State.setPowered_mem (s : State) (v : Bool) : (s.setPowered v).mem = s.mem := rfl
@[simp] theorem State.setPowered_secure (s : State) (v : Bool) : (s.setPowered v).secure = s.secure := rfl
@[simp] theorem State.setPowered_device (s : State) (v : Bool) : (s.setPowered v).device = s.device := rfl
@[simp] theorem State.setPowered_clock (s : State) (v : Bool) : (s.setPowered v).clock = s.clock := rfl
@[simp] theorem State.setPowered_line (s : State) (v : Bool) : (s.setPowered v).line = s.line := rfl
@[simp] theorem State.setPowered_tx (s : State) (v : Bool) : (s.setPowered v).tx = s.tx := rfl
@[simp] theorem State.setPowered_terms (s : State) (v : Bool) : (s.setPowered v).terms = s.terms := rfl
@[simp] theorem State.setPowered_setAsides (s : State) (v : Bool) : (s.setPowered v).setAsides = s.setAsides := rfl
@[simp] theorem State.setPowered_queue (s : State) (v : Bool) : (s.setPowered v).queue = s.queue := rfl
@[simp] theorem State.setPowered_copy (s : State) (v : Bool) : (s.setPowered v).copy = s.copy := rfl
@[simp] theorem State.setPowered_bus (s : State) (v : Bool) : (s.setPowered v).bus = s.bus := rfl
@[simp] theorem State.setPowered_reads (s : State) (v : Bool) : (s.setPowered v).reads = s.reads := rfl
@[simp] theorem State.setPowered_retry (s : State) (v : Bool) : (s.setPowered v).retry = s.retry := rfl
@[simp] theorem State.setPowered_init (s : State) (v : Bool) : (s.setPowered v).init = s.init := rfl
@[simp] theorem State.setPowered_scrub (s : State) (v : Bool) : (s.setPowered v).scrub = s.scrub := rfl
@[simp] theorem State.setPowered_sysFault (s : State) (v : Bool) : (s.setPowered v).sysFault = s.sysFault := rfl
@[simp] theorem State.setPowered_enclosureOpen (s : State) (v : Bool) : (s.setPowered v).enclosureOpen = s.enclosureOpen := rfl
@[simp] theorem State.setPowered_draws (s : State) (v : Bool) : (s.setPowered v).draws = s.draws := rfl

@[simp] theorem State.setMode_pending (s : State) (v : ModuleMode) : (s.setMode v).pending = s.pending := rfl
@[simp] theorem State.setMode_powered (s : State) (v : ModuleMode) : (s.setMode v).powered = s.powered := rfl
@[simp] theorem State.setMode_mode (s : State) (v : ModuleMode) : (s.setMode v).mode = v := rfl
@[simp] theorem State.setMode_mem (s : State) (v : ModuleMode) : (s.setMode v).mem = s.mem := rfl
@[simp] theorem State.setMode_secure (s : State) (v : ModuleMode) : (s.setMode v).secure = s.secure := rfl
@[simp] theorem State.setMode_device (s : State) (v : ModuleMode) : (s.setMode v).device = s.device := rfl
@[simp] theorem State.setMode_clock (s : State) (v : ModuleMode) : (s.setMode v).clock = s.clock := rfl
@[simp] theorem State.setMode_line (s : State) (v : ModuleMode) : (s.setMode v).line = s.line := rfl
@[simp] theorem State.setMode_tx (s : State) (v : ModuleMode) : (s.setMode v).tx = s.tx := rfl
@[simp] theorem State.setMode_terms (s : State) (v : ModuleMode) : (s.setMode v).terms = s.terms := rfl
@[simp] theorem State.setMode_setAsides (s : State) (v : ModuleMode) : (s.setMode v).setAsides = s.setAsides := rfl
@[simp] theorem State.setMode_queue (s : State) (v : ModuleMode) : (s.setMode v).queue = s.queue := rfl
@[simp] theorem State.setMode_copy (s : State) (v : ModuleMode) : (s.setMode v).copy = s.copy := rfl
@[simp] theorem State.setMode_bus (s : State) (v : ModuleMode) : (s.setMode v).bus = s.bus := rfl
@[simp] theorem State.setMode_reads (s : State) (v : ModuleMode) : (s.setMode v).reads = s.reads := rfl
@[simp] theorem State.setMode_retry (s : State) (v : ModuleMode) : (s.setMode v).retry = s.retry := rfl
@[simp] theorem State.setMode_init (s : State) (v : ModuleMode) : (s.setMode v).init = s.init := rfl
@[simp] theorem State.setMode_scrub (s : State) (v : ModuleMode) : (s.setMode v).scrub = s.scrub := rfl
@[simp] theorem State.setMode_sysFault (s : State) (v : ModuleMode) : (s.setMode v).sysFault = s.sysFault := rfl
@[simp] theorem State.setMode_enclosureOpen (s : State) (v : ModuleMode) : (s.setMode v).enclosureOpen = s.enclosureOpen := rfl
@[simp] theorem State.setMode_draws (s : State) (v : ModuleMode) : (s.setMode v).draws = s.draws := rfl

@[simp] theorem State.setMem_pending (s : State) (v : AccountMemory) : (s.setMem v).pending = s.pending := rfl
@[simp] theorem State.setMem_powered (s : State) (v : AccountMemory) : (s.setMem v).powered = s.powered := rfl
@[simp] theorem State.setMem_mode (s : State) (v : AccountMemory) : (s.setMem v).mode = s.mode := rfl
@[simp] theorem State.setMem_mem (s : State) (v : AccountMemory) : (s.setMem v).mem = v := rfl
@[simp] theorem State.setMem_secure (s : State) (v : AccountMemory) : (s.setMem v).secure = s.secure := rfl
@[simp] theorem State.setMem_device (s : State) (v : AccountMemory) : (s.setMem v).device = s.device := rfl
@[simp] theorem State.setMem_clock (s : State) (v : AccountMemory) : (s.setMem v).clock = s.clock := rfl
@[simp] theorem State.setMem_line (s : State) (v : AccountMemory) : (s.setMem v).line = s.line := rfl
@[simp] theorem State.setMem_tx (s : State) (v : AccountMemory) : (s.setMem v).tx = s.tx := rfl
@[simp] theorem State.setMem_terms (s : State) (v : AccountMemory) : (s.setMem v).terms = s.terms := rfl
@[simp] theorem State.setMem_setAsides (s : State) (v : AccountMemory) : (s.setMem v).setAsides = s.setAsides := rfl
@[simp] theorem State.setMem_queue (s : State) (v : AccountMemory) : (s.setMem v).queue = s.queue := rfl
@[simp] theorem State.setMem_copy (s : State) (v : AccountMemory) : (s.setMem v).copy = s.copy := rfl
@[simp] theorem State.setMem_bus (s : State) (v : AccountMemory) : (s.setMem v).bus = s.bus := rfl
@[simp] theorem State.setMem_reads (s : State) (v : AccountMemory) : (s.setMem v).reads = s.reads := rfl
@[simp] theorem State.setMem_retry (s : State) (v : AccountMemory) : (s.setMem v).retry = s.retry := rfl
@[simp] theorem State.setMem_init (s : State) (v : AccountMemory) : (s.setMem v).init = s.init := rfl
@[simp] theorem State.setMem_scrub (s : State) (v : AccountMemory) : (s.setMem v).scrub = s.scrub := rfl
@[simp] theorem State.setMem_sysFault (s : State) (v : AccountMemory) : (s.setMem v).sysFault = s.sysFault := rfl
@[simp] theorem State.setMem_enclosureOpen (s : State) (v : AccountMemory) : (s.setMem v).enclosureOpen = s.enclosureOpen := rfl
@[simp] theorem State.setMem_draws (s : State) (v : AccountMemory) : (s.setMem v).draws = s.draws := rfl

@[simp] theorem State.setSecure_pending (s : State) (v : SecureMemory) : (s.setSecure v).pending = s.pending := rfl
@[simp] theorem State.setSecure_powered (s : State) (v : SecureMemory) : (s.setSecure v).powered = s.powered := rfl
@[simp] theorem State.setSecure_mode (s : State) (v : SecureMemory) : (s.setSecure v).mode = s.mode := rfl
@[simp] theorem State.setSecure_mem (s : State) (v : SecureMemory) : (s.setSecure v).mem = s.mem := rfl
@[simp] theorem State.setSecure_secure (s : State) (v : SecureMemory) : (s.setSecure v).secure = v := rfl
@[simp] theorem State.setSecure_device (s : State) (v : SecureMemory) : (s.setSecure v).device = s.device := rfl
@[simp] theorem State.setSecure_clock (s : State) (v : SecureMemory) : (s.setSecure v).clock = s.clock := rfl
@[simp] theorem State.setSecure_line (s : State) (v : SecureMemory) : (s.setSecure v).line = s.line := rfl
@[simp] theorem State.setSecure_tx (s : State) (v : SecureMemory) : (s.setSecure v).tx = s.tx := rfl
@[simp] theorem State.setSecure_terms (s : State) (v : SecureMemory) : (s.setSecure v).terms = s.terms := rfl
@[simp] theorem State.setSecure_setAsides (s : State) (v : SecureMemory) : (s.setSecure v).setAsides = s.setAsides := rfl
@[simp] theorem State.setSecure_queue (s : State) (v : SecureMemory) : (s.setSecure v).queue = s.queue := rfl
@[simp] theorem State.setSecure_copy (s : State) (v : SecureMemory) : (s.setSecure v).copy = s.copy := rfl
@[simp] theorem State.setSecure_bus (s : State) (v : SecureMemory) : (s.setSecure v).bus = s.bus := rfl
@[simp] theorem State.setSecure_reads (s : State) (v : SecureMemory) : (s.setSecure v).reads = s.reads := rfl
@[simp] theorem State.setSecure_retry (s : State) (v : SecureMemory) : (s.setSecure v).retry = s.retry := rfl
@[simp] theorem State.setSecure_init (s : State) (v : SecureMemory) : (s.setSecure v).init = s.init := rfl
@[simp] theorem State.setSecure_scrub (s : State) (v : SecureMemory) : (s.setSecure v).scrub = s.scrub := rfl
@[simp] theorem State.setSecure_sysFault (s : State) (v : SecureMemory) : (s.setSecure v).sysFault = s.sysFault := rfl
@[simp] theorem State.setSecure_enclosureOpen (s : State) (v : SecureMemory) : (s.setSecure v).enclosureOpen = s.enclosureOpen := rfl
@[simp] theorem State.setSecure_draws (s : State) (v : SecureMemory) : (s.setSecure v).draws = s.draws := rfl

@[simp] theorem State.setDevice_pending (s : State) (v : SMap Page) : (s.setDevice v).pending = s.pending := rfl
@[simp] theorem State.setDevice_powered (s : State) (v : SMap Page) : (s.setDevice v).powered = s.powered := rfl
@[simp] theorem State.setDevice_mode (s : State) (v : SMap Page) : (s.setDevice v).mode = s.mode := rfl
@[simp] theorem State.setDevice_mem (s : State) (v : SMap Page) : (s.setDevice v).mem = s.mem := rfl
@[simp] theorem State.setDevice_secure (s : State) (v : SMap Page) : (s.setDevice v).secure = s.secure := rfl
@[simp] theorem State.setDevice_device (s : State) (v : SMap Page) : (s.setDevice v).device = v := rfl
@[simp] theorem State.setDevice_clock (s : State) (v : SMap Page) : (s.setDevice v).clock = s.clock := rfl
@[simp] theorem State.setDevice_line (s : State) (v : SMap Page) : (s.setDevice v).line = s.line := rfl
@[simp] theorem State.setDevice_tx (s : State) (v : SMap Page) : (s.setDevice v).tx = s.tx := rfl
@[simp] theorem State.setDevice_terms (s : State) (v : SMap Page) : (s.setDevice v).terms = s.terms := rfl
@[simp] theorem State.setDevice_setAsides (s : State) (v : SMap Page) : (s.setDevice v).setAsides = s.setAsides := rfl
@[simp] theorem State.setDevice_queue (s : State) (v : SMap Page) : (s.setDevice v).queue = s.queue := rfl
@[simp] theorem State.setDevice_copy (s : State) (v : SMap Page) : (s.setDevice v).copy = s.copy := rfl
@[simp] theorem State.setDevice_bus (s : State) (v : SMap Page) : (s.setDevice v).bus = s.bus := rfl
@[simp] theorem State.setDevice_reads (s : State) (v : SMap Page) : (s.setDevice v).reads = s.reads := rfl
@[simp] theorem State.setDevice_retry (s : State) (v : SMap Page) : (s.setDevice v).retry = s.retry := rfl
@[simp] theorem State.setDevice_init (s : State) (v : SMap Page) : (s.setDevice v).init = s.init := rfl
@[simp] theorem State.setDevice_scrub (s : State) (v : SMap Page) : (s.setDevice v).scrub = s.scrub := rfl
@[simp] theorem State.setDevice_sysFault (s : State) (v : SMap Page) : (s.setDevice v).sysFault = s.sysFault := rfl
@[simp] theorem State.setDevice_enclosureOpen (s : State) (v : SMap Page) : (s.setDevice v).enclosureOpen = s.enclosureOpen := rfl
@[simp] theorem State.setDevice_draws (s : State) (v : SMap Page) : (s.setDevice v).draws = s.draws := rfl

@[simp] theorem State.setClock_pending (s : State) (v : Clock) : (s.setClock v).pending = s.pending := rfl
@[simp] theorem State.setClock_powered (s : State) (v : Clock) : (s.setClock v).powered = s.powered := rfl
@[simp] theorem State.setClock_mode (s : State) (v : Clock) : (s.setClock v).mode = s.mode := rfl
@[simp] theorem State.setClock_mem (s : State) (v : Clock) : (s.setClock v).mem = s.mem := rfl
@[simp] theorem State.setClock_secure (s : State) (v : Clock) : (s.setClock v).secure = s.secure := rfl
@[simp] theorem State.setClock_device (s : State) (v : Clock) : (s.setClock v).device = s.device := rfl
@[simp] theorem State.setClock_clock (s : State) (v : Clock) : (s.setClock v).clock = v := rfl
@[simp] theorem State.setClock_line (s : State) (v : Clock) : (s.setClock v).line = s.line := rfl
@[simp] theorem State.setClock_tx (s : State) (v : Clock) : (s.setClock v).tx = s.tx := rfl
@[simp] theorem State.setClock_terms (s : State) (v : Clock) : (s.setClock v).terms = s.terms := rfl
@[simp] theorem State.setClock_setAsides (s : State) (v : Clock) : (s.setClock v).setAsides = s.setAsides := rfl
@[simp] theorem State.setClock_queue (s : State) (v : Clock) : (s.setClock v).queue = s.queue := rfl
@[simp] theorem State.setClock_copy (s : State) (v : Clock) : (s.setClock v).copy = s.copy := rfl
@[simp] theorem State.setClock_bus (s : State) (v : Clock) : (s.setClock v).bus = s.bus := rfl
@[simp] theorem State.setClock_reads (s : State) (v : Clock) : (s.setClock v).reads = s.reads := rfl
@[simp] theorem State.setClock_retry (s : State) (v : Clock) : (s.setClock v).retry = s.retry := rfl
@[simp] theorem State.setClock_init (s : State) (v : Clock) : (s.setClock v).init = s.init := rfl
@[simp] theorem State.setClock_scrub (s : State) (v : Clock) : (s.setClock v).scrub = s.scrub := rfl
@[simp] theorem State.setClock_sysFault (s : State) (v : Clock) : (s.setClock v).sysFault = s.sysFault := rfl
@[simp] theorem State.setClock_enclosureOpen (s : State) (v : Clock) : (s.setClock v).enclosureOpen = s.enclosureOpen := rfl
@[simp] theorem State.setClock_draws (s : State) (v : Clock) : (s.setClock v).draws = s.draws := rfl

@[simp] theorem State.setLine_pending (s : State) (v : LineState) : (s.setLine v).pending = s.pending := rfl
@[simp] theorem State.setLine_powered (s : State) (v : LineState) : (s.setLine v).powered = s.powered := rfl
@[simp] theorem State.setLine_mode (s : State) (v : LineState) : (s.setLine v).mode = s.mode := rfl
@[simp] theorem State.setLine_mem (s : State) (v : LineState) : (s.setLine v).mem = s.mem := rfl
@[simp] theorem State.setLine_secure (s : State) (v : LineState) : (s.setLine v).secure = s.secure := rfl
@[simp] theorem State.setLine_device (s : State) (v : LineState) : (s.setLine v).device = s.device := rfl
@[simp] theorem State.setLine_clock (s : State) (v : LineState) : (s.setLine v).clock = s.clock := rfl
@[simp] theorem State.setLine_line (s : State) (v : LineState) : (s.setLine v).line = v := rfl
@[simp] theorem State.setLine_tx (s : State) (v : LineState) : (s.setLine v).tx = s.tx := rfl
@[simp] theorem State.setLine_terms (s : State) (v : LineState) : (s.setLine v).terms = s.terms := rfl
@[simp] theorem State.setLine_setAsides (s : State) (v : LineState) : (s.setLine v).setAsides = s.setAsides := rfl
@[simp] theorem State.setLine_queue (s : State) (v : LineState) : (s.setLine v).queue = s.queue := rfl
@[simp] theorem State.setLine_copy (s : State) (v : LineState) : (s.setLine v).copy = s.copy := rfl
@[simp] theorem State.setLine_bus (s : State) (v : LineState) : (s.setLine v).bus = s.bus := rfl
@[simp] theorem State.setLine_reads (s : State) (v : LineState) : (s.setLine v).reads = s.reads := rfl
@[simp] theorem State.setLine_retry (s : State) (v : LineState) : (s.setLine v).retry = s.retry := rfl
@[simp] theorem State.setLine_init (s : State) (v : LineState) : (s.setLine v).init = s.init := rfl
@[simp] theorem State.setLine_scrub (s : State) (v : LineState) : (s.setLine v).scrub = s.scrub := rfl
@[simp] theorem State.setLine_sysFault (s : State) (v : LineState) : (s.setLine v).sysFault = s.sysFault := rfl
@[simp] theorem State.setLine_enclosureOpen (s : State) (v : LineState) : (s.setLine v).enclosureOpen = s.enclosureOpen := rfl
@[simp] theorem State.setLine_draws (s : State) (v : LineState) : (s.setLine v).draws = s.draws := rfl

@[simp] theorem State.setTx_pending (s : State) (v : List Reply) : (s.setTx v).pending = s.pending := rfl
@[simp] theorem State.setTx_powered (s : State) (v : List Reply) : (s.setTx v).powered = s.powered := rfl
@[simp] theorem State.setTx_mode (s : State) (v : List Reply) : (s.setTx v).mode = s.mode := rfl
@[simp] theorem State.setTx_mem (s : State) (v : List Reply) : (s.setTx v).mem = s.mem := rfl
@[simp] theorem State.setTx_secure (s : State) (v : List Reply) : (s.setTx v).secure = s.secure := rfl
@[simp] theorem State.setTx_device (s : State) (v : List Reply) : (s.setTx v).device = s.device := rfl
@[simp] theorem State.setTx_clock (s : State) (v : List Reply) : (s.setTx v).clock = s.clock := rfl
@[simp] theorem State.setTx_line (s : State) (v : List Reply) : (s.setTx v).line = s.line := rfl
@[simp] theorem State.setTx_tx (s : State) (v : List Reply) : (s.setTx v).tx = v := rfl
@[simp] theorem State.setTx_terms (s : State) (v : List Reply) : (s.setTx v).terms = s.terms := rfl
@[simp] theorem State.setTx_setAsides (s : State) (v : List Reply) : (s.setTx v).setAsides = s.setAsides := rfl
@[simp] theorem State.setTx_queue (s : State) (v : List Reply) : (s.setTx v).queue = s.queue := rfl
@[simp] theorem State.setTx_copy (s : State) (v : List Reply) : (s.setTx v).copy = s.copy := rfl
@[simp] theorem State.setTx_bus (s : State) (v : List Reply) : (s.setTx v).bus = s.bus := rfl
@[simp] theorem State.setTx_reads (s : State) (v : List Reply) : (s.setTx v).reads = s.reads := rfl
@[simp] theorem State.setTx_retry (s : State) (v : List Reply) : (s.setTx v).retry = s.retry := rfl
@[simp] theorem State.setTx_init (s : State) (v : List Reply) : (s.setTx v).init = s.init := rfl
@[simp] theorem State.setTx_scrub (s : State) (v : List Reply) : (s.setTx v).scrub = s.scrub := rfl
@[simp] theorem State.setTx_sysFault (s : State) (v : List Reply) : (s.setTx v).sysFault = s.sysFault := rfl
@[simp] theorem State.setTx_enclosureOpen (s : State) (v : List Reply) : (s.setTx v).enclosureOpen = s.enclosureOpen := rfl
@[simp] theorem State.setTx_draws (s : State) (v : List Reply) : (s.setTx v).draws = s.draws := rfl

@[simp] theorem State.setTerms_pending (s : State) (v : Eight TermWork) : (s.setTerms v).pending = s.pending := rfl
@[simp] theorem State.setTerms_powered (s : State) (v : Eight TermWork) : (s.setTerms v).powered = s.powered := rfl
@[simp] theorem State.setTerms_mode (s : State) (v : Eight TermWork) : (s.setTerms v).mode = s.mode := rfl
@[simp] theorem State.setTerms_mem (s : State) (v : Eight TermWork) : (s.setTerms v).mem = s.mem := rfl
@[simp] theorem State.setTerms_secure (s : State) (v : Eight TermWork) : (s.setTerms v).secure = s.secure := rfl
@[simp] theorem State.setTerms_device (s : State) (v : Eight TermWork) : (s.setTerms v).device = s.device := rfl
@[simp] theorem State.setTerms_clock (s : State) (v : Eight TermWork) : (s.setTerms v).clock = s.clock := rfl
@[simp] theorem State.setTerms_line (s : State) (v : Eight TermWork) : (s.setTerms v).line = s.line := rfl
@[simp] theorem State.setTerms_tx (s : State) (v : Eight TermWork) : (s.setTerms v).tx = s.tx := rfl
@[simp] theorem State.setTerms_terms (s : State) (v : Eight TermWork) : (s.setTerms v).terms = v := rfl
@[simp] theorem State.setTerms_setAsides (s : State) (v : Eight TermWork) : (s.setTerms v).setAsides = s.setAsides := rfl
@[simp] theorem State.setTerms_queue (s : State) (v : Eight TermWork) : (s.setTerms v).queue = s.queue := rfl
@[simp] theorem State.setTerms_copy (s : State) (v : Eight TermWork) : (s.setTerms v).copy = s.copy := rfl
@[simp] theorem State.setTerms_bus (s : State) (v : Eight TermWork) : (s.setTerms v).bus = s.bus := rfl
@[simp] theorem State.setTerms_reads (s : State) (v : Eight TermWork) : (s.setTerms v).reads = s.reads := rfl
@[simp] theorem State.setTerms_retry (s : State) (v : Eight TermWork) : (s.setTerms v).retry = s.retry := rfl
@[simp] theorem State.setTerms_init (s : State) (v : Eight TermWork) : (s.setTerms v).init = s.init := rfl
@[simp] theorem State.setTerms_scrub (s : State) (v : Eight TermWork) : (s.setTerms v).scrub = s.scrub := rfl
@[simp] theorem State.setTerms_sysFault (s : State) (v : Eight TermWork) : (s.setTerms v).sysFault = s.sysFault := rfl
@[simp] theorem State.setTerms_enclosureOpen (s : State) (v : Eight TermWork) : (s.setTerms v).enclosureOpen = s.enclosureOpen := rfl
@[simp] theorem State.setTerms_draws (s : State) (v : Eight TermWork) : (s.setTerms v).draws = s.draws := rfl

@[simp] theorem State.setSetAsides_pending (s : State) (v : Nat) : (s.setSetAsides v).pending = s.pending := rfl
@[simp] theorem State.setSetAsides_powered (s : State) (v : Nat) : (s.setSetAsides v).powered = s.powered := rfl
@[simp] theorem State.setSetAsides_mode (s : State) (v : Nat) : (s.setSetAsides v).mode = s.mode := rfl
@[simp] theorem State.setSetAsides_mem (s : State) (v : Nat) : (s.setSetAsides v).mem = s.mem := rfl
@[simp] theorem State.setSetAsides_secure (s : State) (v : Nat) : (s.setSetAsides v).secure = s.secure := rfl
@[simp] theorem State.setSetAsides_device (s : State) (v : Nat) : (s.setSetAsides v).device = s.device := rfl
@[simp] theorem State.setSetAsides_clock (s : State) (v : Nat) : (s.setSetAsides v).clock = s.clock := rfl
@[simp] theorem State.setSetAsides_line (s : State) (v : Nat) : (s.setSetAsides v).line = s.line := rfl
@[simp] theorem State.setSetAsides_tx (s : State) (v : Nat) : (s.setSetAsides v).tx = s.tx := rfl
@[simp] theorem State.setSetAsides_terms (s : State) (v : Nat) : (s.setSetAsides v).terms = s.terms := rfl
@[simp] theorem State.setSetAsides_setAsides (s : State) (v : Nat) : (s.setSetAsides v).setAsides = v := rfl
@[simp] theorem State.setSetAsides_queue (s : State) (v : Nat) : (s.setSetAsides v).queue = s.queue := rfl
@[simp] theorem State.setSetAsides_copy (s : State) (v : Nat) : (s.setSetAsides v).copy = s.copy := rfl
@[simp] theorem State.setSetAsides_bus (s : State) (v : Nat) : (s.setSetAsides v).bus = s.bus := rfl
@[simp] theorem State.setSetAsides_reads (s : State) (v : Nat) : (s.setSetAsides v).reads = s.reads := rfl
@[simp] theorem State.setSetAsides_retry (s : State) (v : Nat) : (s.setSetAsides v).retry = s.retry := rfl
@[simp] theorem State.setSetAsides_init (s : State) (v : Nat) : (s.setSetAsides v).init = s.init := rfl
@[simp] theorem State.setSetAsides_scrub (s : State) (v : Nat) : (s.setSetAsides v).scrub = s.scrub := rfl
@[simp] theorem State.setSetAsides_sysFault (s : State) (v : Nat) : (s.setSetAsides v).sysFault = s.sysFault := rfl
@[simp] theorem State.setSetAsides_enclosureOpen (s : State) (v : Nat) : (s.setSetAsides v).enclosureOpen = s.enclosureOpen := rfl
@[simp] theorem State.setSetAsides_draws (s : State) (v : Nat) : (s.setSetAsides v).draws = s.draws := rfl

@[simp] theorem State.setQueue_pending (s : State) (v : List QueueEntry) : (s.setQueue v).pending = s.pending := rfl
@[simp] theorem State.setQueue_powered (s : State) (v : List QueueEntry) : (s.setQueue v).powered = s.powered := rfl
@[simp] theorem State.setQueue_mode (s : State) (v : List QueueEntry) : (s.setQueue v).mode = s.mode := rfl
@[simp] theorem State.setQueue_mem (s : State) (v : List QueueEntry) : (s.setQueue v).mem = s.mem := rfl
@[simp] theorem State.setQueue_secure (s : State) (v : List QueueEntry) : (s.setQueue v).secure = s.secure := rfl
@[simp] theorem State.setQueue_device (s : State) (v : List QueueEntry) : (s.setQueue v).device = s.device := rfl
@[simp] theorem State.setQueue_clock (s : State) (v : List QueueEntry) : (s.setQueue v).clock = s.clock := rfl
@[simp] theorem State.setQueue_line (s : State) (v : List QueueEntry) : (s.setQueue v).line = s.line := rfl
@[simp] theorem State.setQueue_tx (s : State) (v : List QueueEntry) : (s.setQueue v).tx = s.tx := rfl
@[simp] theorem State.setQueue_terms (s : State) (v : List QueueEntry) : (s.setQueue v).terms = s.terms := rfl
@[simp] theorem State.setQueue_setAsides (s : State) (v : List QueueEntry) : (s.setQueue v).setAsides = s.setAsides := rfl
@[simp] theorem State.setQueue_queue (s : State) (v : List QueueEntry) : (s.setQueue v).queue = v := rfl
@[simp] theorem State.setQueue_copy (s : State) (v : List QueueEntry) : (s.setQueue v).copy = s.copy := rfl
@[simp] theorem State.setQueue_bus (s : State) (v : List QueueEntry) : (s.setQueue v).bus = s.bus := rfl
@[simp] theorem State.setQueue_reads (s : State) (v : List QueueEntry) : (s.setQueue v).reads = s.reads := rfl
@[simp] theorem State.setQueue_retry (s : State) (v : List QueueEntry) : (s.setQueue v).retry = s.retry := rfl
@[simp] theorem State.setQueue_init (s : State) (v : List QueueEntry) : (s.setQueue v).init = s.init := rfl
@[simp] theorem State.setQueue_scrub (s : State) (v : List QueueEntry) : (s.setQueue v).scrub = s.scrub := rfl
@[simp] theorem State.setQueue_sysFault (s : State) (v : List QueueEntry) : (s.setQueue v).sysFault = s.sysFault := rfl
@[simp] theorem State.setQueue_enclosureOpen (s : State) (v : List QueueEntry) : (s.setQueue v).enclosureOpen = s.enclosureOpen := rfl
@[simp] theorem State.setQueue_draws (s : State) (v : List QueueEntry) : (s.setQueue v).draws = s.draws := rfl

@[simp] theorem State.setCopy_pending (s : State) (v : Option RingCopy) : (s.setCopy v).pending = s.pending := rfl
@[simp] theorem State.setCopy_powered (s : State) (v : Option RingCopy) : (s.setCopy v).powered = s.powered := rfl
@[simp] theorem State.setCopy_mode (s : State) (v : Option RingCopy) : (s.setCopy v).mode = s.mode := rfl
@[simp] theorem State.setCopy_mem (s : State) (v : Option RingCopy) : (s.setCopy v).mem = s.mem := rfl
@[simp] theorem State.setCopy_secure (s : State) (v : Option RingCopy) : (s.setCopy v).secure = s.secure := rfl
@[simp] theorem State.setCopy_device (s : State) (v : Option RingCopy) : (s.setCopy v).device = s.device := rfl
@[simp] theorem State.setCopy_clock (s : State) (v : Option RingCopy) : (s.setCopy v).clock = s.clock := rfl
@[simp] theorem State.setCopy_line (s : State) (v : Option RingCopy) : (s.setCopy v).line = s.line := rfl
@[simp] theorem State.setCopy_tx (s : State) (v : Option RingCopy) : (s.setCopy v).tx = s.tx := rfl
@[simp] theorem State.setCopy_terms (s : State) (v : Option RingCopy) : (s.setCopy v).terms = s.terms := rfl
@[simp] theorem State.setCopy_setAsides (s : State) (v : Option RingCopy) : (s.setCopy v).setAsides = s.setAsides := rfl
@[simp] theorem State.setCopy_queue (s : State) (v : Option RingCopy) : (s.setCopy v).queue = s.queue := rfl
@[simp] theorem State.setCopy_copy (s : State) (v : Option RingCopy) : (s.setCopy v).copy = v := rfl
@[simp] theorem State.setCopy_bus (s : State) (v : Option RingCopy) : (s.setCopy v).bus = s.bus := rfl
@[simp] theorem State.setCopy_reads (s : State) (v : Option RingCopy) : (s.setCopy v).reads = s.reads := rfl
@[simp] theorem State.setCopy_retry (s : State) (v : Option RingCopy) : (s.setCopy v).retry = s.retry := rfl
@[simp] theorem State.setCopy_init (s : State) (v : Option RingCopy) : (s.setCopy v).init = s.init := rfl
@[simp] theorem State.setCopy_scrub (s : State) (v : Option RingCopy) : (s.setCopy v).scrub = s.scrub := rfl
@[simp] theorem State.setCopy_sysFault (s : State) (v : Option RingCopy) : (s.setCopy v).sysFault = s.sysFault := rfl
@[simp] theorem State.setCopy_enclosureOpen (s : State) (v : Option RingCopy) : (s.setCopy v).enclosureOpen = s.enclosureOpen := rfl
@[simp] theorem State.setCopy_draws (s : State) (v : Option RingCopy) : (s.setCopy v).draws = s.draws := rfl

@[simp] theorem State.setBus_pending (s : State) (v : Option BusOp) : (s.setBus v).pending = s.pending := rfl
@[simp] theorem State.setBus_powered (s : State) (v : Option BusOp) : (s.setBus v).powered = s.powered := rfl
@[simp] theorem State.setBus_mode (s : State) (v : Option BusOp) : (s.setBus v).mode = s.mode := rfl
@[simp] theorem State.setBus_mem (s : State) (v : Option BusOp) : (s.setBus v).mem = s.mem := rfl
@[simp] theorem State.setBus_secure (s : State) (v : Option BusOp) : (s.setBus v).secure = s.secure := rfl
@[simp] theorem State.setBus_device (s : State) (v : Option BusOp) : (s.setBus v).device = s.device := rfl
@[simp] theorem State.setBus_clock (s : State) (v : Option BusOp) : (s.setBus v).clock = s.clock := rfl
@[simp] theorem State.setBus_line (s : State) (v : Option BusOp) : (s.setBus v).line = s.line := rfl
@[simp] theorem State.setBus_tx (s : State) (v : Option BusOp) : (s.setBus v).tx = s.tx := rfl
@[simp] theorem State.setBus_terms (s : State) (v : Option BusOp) : (s.setBus v).terms = s.terms := rfl
@[simp] theorem State.setBus_setAsides (s : State) (v : Option BusOp) : (s.setBus v).setAsides = s.setAsides := rfl
@[simp] theorem State.setBus_queue (s : State) (v : Option BusOp) : (s.setBus v).queue = s.queue := rfl
@[simp] theorem State.setBus_copy (s : State) (v : Option BusOp) : (s.setBus v).copy = s.copy := rfl
@[simp] theorem State.setBus_bus (s : State) (v : Option BusOp) : (s.setBus v).bus = v := rfl
@[simp] theorem State.setBus_reads (s : State) (v : Option BusOp) : (s.setBus v).reads = s.reads := rfl
@[simp] theorem State.setBus_retry (s : State) (v : Option BusOp) : (s.setBus v).retry = s.retry := rfl
@[simp] theorem State.setBus_init (s : State) (v : Option BusOp) : (s.setBus v).init = s.init := rfl
@[simp] theorem State.setBus_scrub (s : State) (v : Option BusOp) : (s.setBus v).scrub = s.scrub := rfl
@[simp] theorem State.setBus_sysFault (s : State) (v : Option BusOp) : (s.setBus v).sysFault = s.sysFault := rfl
@[simp] theorem State.setBus_enclosureOpen (s : State) (v : Option BusOp) : (s.setBus v).enclosureOpen = s.enclosureOpen := rfl
@[simp] theorem State.setBus_draws (s : State) (v : Option BusOp) : (s.setBus v).draws = s.draws := rfl

@[simp] theorem State.setReads_pending (s : State) (v : List (Fin 8)) : (s.setReads v).pending = s.pending := rfl
@[simp] theorem State.setReads_powered (s : State) (v : List (Fin 8)) : (s.setReads v).powered = s.powered := rfl
@[simp] theorem State.setReads_mode (s : State) (v : List (Fin 8)) : (s.setReads v).mode = s.mode := rfl
@[simp] theorem State.setReads_mem (s : State) (v : List (Fin 8)) : (s.setReads v).mem = s.mem := rfl
@[simp] theorem State.setReads_secure (s : State) (v : List (Fin 8)) : (s.setReads v).secure = s.secure := rfl
@[simp] theorem State.setReads_device (s : State) (v : List (Fin 8)) : (s.setReads v).device = s.device := rfl
@[simp] theorem State.setReads_clock (s : State) (v : List (Fin 8)) : (s.setReads v).clock = s.clock := rfl
@[simp] theorem State.setReads_line (s : State) (v : List (Fin 8)) : (s.setReads v).line = s.line := rfl
@[simp] theorem State.setReads_tx (s : State) (v : List (Fin 8)) : (s.setReads v).tx = s.tx := rfl
@[simp] theorem State.setReads_terms (s : State) (v : List (Fin 8)) : (s.setReads v).terms = s.terms := rfl
@[simp] theorem State.setReads_setAsides (s : State) (v : List (Fin 8)) : (s.setReads v).setAsides = s.setAsides := rfl
@[simp] theorem State.setReads_queue (s : State) (v : List (Fin 8)) : (s.setReads v).queue = s.queue := rfl
@[simp] theorem State.setReads_copy (s : State) (v : List (Fin 8)) : (s.setReads v).copy = s.copy := rfl
@[simp] theorem State.setReads_bus (s : State) (v : List (Fin 8)) : (s.setReads v).bus = s.bus := rfl
@[simp] theorem State.setReads_reads (s : State) (v : List (Fin 8)) : (s.setReads v).reads = v := rfl
@[simp] theorem State.setReads_retry (s : State) (v : List (Fin 8)) : (s.setReads v).retry = s.retry := rfl
@[simp] theorem State.setReads_init (s : State) (v : List (Fin 8)) : (s.setReads v).init = s.init := rfl
@[simp] theorem State.setReads_scrub (s : State) (v : List (Fin 8)) : (s.setReads v).scrub = s.scrub := rfl
@[simp] theorem State.setReads_sysFault (s : State) (v : List (Fin 8)) : (s.setReads v).sysFault = s.sysFault := rfl
@[simp] theorem State.setReads_enclosureOpen (s : State) (v : List (Fin 8)) : (s.setReads v).enclosureOpen = s.enclosureOpen := rfl
@[simp] theorem State.setReads_draws (s : State) (v : List (Fin 8)) : (s.setReads v).draws = s.draws := rfl

@[simp] theorem State.setRetry_pending (s : State) (v : Option RetryWork) : (s.setRetry v).pending = s.pending := rfl
@[simp] theorem State.setRetry_powered (s : State) (v : Option RetryWork) : (s.setRetry v).powered = s.powered := rfl
@[simp] theorem State.setRetry_mode (s : State) (v : Option RetryWork) : (s.setRetry v).mode = s.mode := rfl
@[simp] theorem State.setRetry_mem (s : State) (v : Option RetryWork) : (s.setRetry v).mem = s.mem := rfl
@[simp] theorem State.setRetry_secure (s : State) (v : Option RetryWork) : (s.setRetry v).secure = s.secure := rfl
@[simp] theorem State.setRetry_device (s : State) (v : Option RetryWork) : (s.setRetry v).device = s.device := rfl
@[simp] theorem State.setRetry_clock (s : State) (v : Option RetryWork) : (s.setRetry v).clock = s.clock := rfl
@[simp] theorem State.setRetry_line (s : State) (v : Option RetryWork) : (s.setRetry v).line = s.line := rfl
@[simp] theorem State.setRetry_tx (s : State) (v : Option RetryWork) : (s.setRetry v).tx = s.tx := rfl
@[simp] theorem State.setRetry_terms (s : State) (v : Option RetryWork) : (s.setRetry v).terms = s.terms := rfl
@[simp] theorem State.setRetry_setAsides (s : State) (v : Option RetryWork) : (s.setRetry v).setAsides = s.setAsides := rfl
@[simp] theorem State.setRetry_queue (s : State) (v : Option RetryWork) : (s.setRetry v).queue = s.queue := rfl
@[simp] theorem State.setRetry_copy (s : State) (v : Option RetryWork) : (s.setRetry v).copy = s.copy := rfl
@[simp] theorem State.setRetry_bus (s : State) (v : Option RetryWork) : (s.setRetry v).bus = s.bus := rfl
@[simp] theorem State.setRetry_reads (s : State) (v : Option RetryWork) : (s.setRetry v).reads = s.reads := rfl
@[simp] theorem State.setRetry_retry (s : State) (v : Option RetryWork) : (s.setRetry v).retry = v := rfl
@[simp] theorem State.setRetry_init (s : State) (v : Option RetryWork) : (s.setRetry v).init = s.init := rfl
@[simp] theorem State.setRetry_scrub (s : State) (v : Option RetryWork) : (s.setRetry v).scrub = s.scrub := rfl
@[simp] theorem State.setRetry_sysFault (s : State) (v : Option RetryWork) : (s.setRetry v).sysFault = s.sysFault := rfl
@[simp] theorem State.setRetry_enclosureOpen (s : State) (v : Option RetryWork) : (s.setRetry v).enclosureOpen = s.enclosureOpen := rfl
@[simp] theorem State.setRetry_draws (s : State) (v : Option RetryWork) : (s.setRetry v).draws = s.draws := rfl

@[simp] theorem State.setInit_pending (s : State) (v : Option InitWork) : (s.setInit v).pending = s.pending := rfl
@[simp] theorem State.setInit_powered (s : State) (v : Option InitWork) : (s.setInit v).powered = s.powered := rfl
@[simp] theorem State.setInit_mode (s : State) (v : Option InitWork) : (s.setInit v).mode = s.mode := rfl
@[simp] theorem State.setInit_mem (s : State) (v : Option InitWork) : (s.setInit v).mem = s.mem := rfl
@[simp] theorem State.setInit_secure (s : State) (v : Option InitWork) : (s.setInit v).secure = s.secure := rfl
@[simp] theorem State.setInit_device (s : State) (v : Option InitWork) : (s.setInit v).device = s.device := rfl
@[simp] theorem State.setInit_clock (s : State) (v : Option InitWork) : (s.setInit v).clock = s.clock := rfl
@[simp] theorem State.setInit_line (s : State) (v : Option InitWork) : (s.setInit v).line = s.line := rfl
@[simp] theorem State.setInit_tx (s : State) (v : Option InitWork) : (s.setInit v).tx = s.tx := rfl
@[simp] theorem State.setInit_terms (s : State) (v : Option InitWork) : (s.setInit v).terms = s.terms := rfl
@[simp] theorem State.setInit_setAsides (s : State) (v : Option InitWork) : (s.setInit v).setAsides = s.setAsides := rfl
@[simp] theorem State.setInit_queue (s : State) (v : Option InitWork) : (s.setInit v).queue = s.queue := rfl
@[simp] theorem State.setInit_copy (s : State) (v : Option InitWork) : (s.setInit v).copy = s.copy := rfl
@[simp] theorem State.setInit_bus (s : State) (v : Option InitWork) : (s.setInit v).bus = s.bus := rfl
@[simp] theorem State.setInit_reads (s : State) (v : Option InitWork) : (s.setInit v).reads = s.reads := rfl
@[simp] theorem State.setInit_retry (s : State) (v : Option InitWork) : (s.setInit v).retry = s.retry := rfl
@[simp] theorem State.setInit_init (s : State) (v : Option InitWork) : (s.setInit v).init = v := rfl
@[simp] theorem State.setInit_scrub (s : State) (v : Option InitWork) : (s.setInit v).scrub = s.scrub := rfl
@[simp] theorem State.setInit_sysFault (s : State) (v : Option InitWork) : (s.setInit v).sysFault = s.sysFault := rfl
@[simp] theorem State.setInit_enclosureOpen (s : State) (v : Option InitWork) : (s.setInit v).enclosureOpen = s.enclosureOpen := rfl
@[simp] theorem State.setInit_draws (s : State) (v : Option InitWork) : (s.setInit v).draws = s.draws := rfl

@[simp] theorem State.setScrub_pending (s : State) (v : Scrubber) : (s.setScrub v).pending = s.pending := rfl
@[simp] theorem State.setScrub_powered (s : State) (v : Scrubber) : (s.setScrub v).powered = s.powered := rfl
@[simp] theorem State.setScrub_mode (s : State) (v : Scrubber) : (s.setScrub v).mode = s.mode := rfl
@[simp] theorem State.setScrub_mem (s : State) (v : Scrubber) : (s.setScrub v).mem = s.mem := rfl
@[simp] theorem State.setScrub_secure (s : State) (v : Scrubber) : (s.setScrub v).secure = s.secure := rfl
@[simp] theorem State.setScrub_device (s : State) (v : Scrubber) : (s.setScrub v).device = s.device := rfl
@[simp] theorem State.setScrub_clock (s : State) (v : Scrubber) : (s.setScrub v).clock = s.clock := rfl
@[simp] theorem State.setScrub_line (s : State) (v : Scrubber) : (s.setScrub v).line = s.line := rfl
@[simp] theorem State.setScrub_tx (s : State) (v : Scrubber) : (s.setScrub v).tx = s.tx := rfl
@[simp] theorem State.setScrub_terms (s : State) (v : Scrubber) : (s.setScrub v).terms = s.terms := rfl
@[simp] theorem State.setScrub_setAsides (s : State) (v : Scrubber) : (s.setScrub v).setAsides = s.setAsides := rfl
@[simp] theorem State.setScrub_queue (s : State) (v : Scrubber) : (s.setScrub v).queue = s.queue := rfl
@[simp] theorem State.setScrub_copy (s : State) (v : Scrubber) : (s.setScrub v).copy = s.copy := rfl
@[simp] theorem State.setScrub_bus (s : State) (v : Scrubber) : (s.setScrub v).bus = s.bus := rfl
@[simp] theorem State.setScrub_reads (s : State) (v : Scrubber) : (s.setScrub v).reads = s.reads := rfl
@[simp] theorem State.setScrub_retry (s : State) (v : Scrubber) : (s.setScrub v).retry = s.retry := rfl
@[simp] theorem State.setScrub_init (s : State) (v : Scrubber) : (s.setScrub v).init = s.init := rfl
@[simp] theorem State.setScrub_scrub (s : State) (v : Scrubber) : (s.setScrub v).scrub = v := rfl
@[simp] theorem State.setScrub_sysFault (s : State) (v : Scrubber) : (s.setScrub v).sysFault = s.sysFault := rfl
@[simp] theorem State.setScrub_enclosureOpen (s : State) (v : Scrubber) : (s.setScrub v).enclosureOpen = s.enclosureOpen := rfl
@[simp] theorem State.setScrub_draws (s : State) (v : Scrubber) : (s.setScrub v).draws = s.draws := rfl

@[simp] theorem State.setSysFault_pending (s : State) (v : Option Nat) : (s.setSysFault v).pending = s.pending := rfl
@[simp] theorem State.setSysFault_powered (s : State) (v : Option Nat) : (s.setSysFault v).powered = s.powered := rfl
@[simp] theorem State.setSysFault_mode (s : State) (v : Option Nat) : (s.setSysFault v).mode = s.mode := rfl
@[simp] theorem State.setSysFault_mem (s : State) (v : Option Nat) : (s.setSysFault v).mem = s.mem := rfl
@[simp] theorem State.setSysFault_secure (s : State) (v : Option Nat) : (s.setSysFault v).secure = s.secure := rfl
@[simp] theorem State.setSysFault_device (s : State) (v : Option Nat) : (s.setSysFault v).device = s.device := rfl
@[simp] theorem State.setSysFault_clock (s : State) (v : Option Nat) : (s.setSysFault v).clock = s.clock := rfl
@[simp] theorem State.setSysFault_line (s : State) (v : Option Nat) : (s.setSysFault v).line = s.line := rfl
@[simp] theorem State.setSysFault_tx (s : State) (v : Option Nat) : (s.setSysFault v).tx = s.tx := rfl
@[simp] theorem State.setSysFault_terms (s : State) (v : Option Nat) : (s.setSysFault v).terms = s.terms := rfl
@[simp] theorem State.setSysFault_setAsides (s : State) (v : Option Nat) : (s.setSysFault v).setAsides = s.setAsides := rfl
@[simp] theorem State.setSysFault_queue (s : State) (v : Option Nat) : (s.setSysFault v).queue = s.queue := rfl
@[simp] theorem State.setSysFault_copy (s : State) (v : Option Nat) : (s.setSysFault v).copy = s.copy := rfl
@[simp] theorem State.setSysFault_bus (s : State) (v : Option Nat) : (s.setSysFault v).bus = s.bus := rfl
@[simp] theorem State.setSysFault_reads (s : State) (v : Option Nat) : (s.setSysFault v).reads = s.reads := rfl
@[simp] theorem State.setSysFault_retry (s : State) (v : Option Nat) : (s.setSysFault v).retry = s.retry := rfl
@[simp] theorem State.setSysFault_init (s : State) (v : Option Nat) : (s.setSysFault v).init = s.init := rfl
@[simp] theorem State.setSysFault_scrub (s : State) (v : Option Nat) : (s.setSysFault v).scrub = s.scrub := rfl
@[simp] theorem State.setSysFault_sysFault (s : State) (v : Option Nat) : (s.setSysFault v).sysFault = v := rfl
@[simp] theorem State.setSysFault_enclosureOpen (s : State) (v : Option Nat) : (s.setSysFault v).enclosureOpen = s.enclosureOpen := rfl
@[simp] theorem State.setSysFault_draws (s : State) (v : Option Nat) : (s.setSysFault v).draws = s.draws := rfl

@[simp] theorem State.setEnclosureOpen_pending (s : State) (v : Bool) : (s.setEnclosureOpen v).pending = s.pending := rfl
@[simp] theorem State.setEnclosureOpen_powered (s : State) (v : Bool) : (s.setEnclosureOpen v).powered = s.powered := rfl
@[simp] theorem State.setEnclosureOpen_mode (s : State) (v : Bool) : (s.setEnclosureOpen v).mode = s.mode := rfl
@[simp] theorem State.setEnclosureOpen_mem (s : State) (v : Bool) : (s.setEnclosureOpen v).mem = s.mem := rfl
@[simp] theorem State.setEnclosureOpen_secure (s : State) (v : Bool) : (s.setEnclosureOpen v).secure = s.secure := rfl
@[simp] theorem State.setEnclosureOpen_device (s : State) (v : Bool) : (s.setEnclosureOpen v).device = s.device := rfl
@[simp] theorem State.setEnclosureOpen_clock (s : State) (v : Bool) : (s.setEnclosureOpen v).clock = s.clock := rfl
@[simp] theorem State.setEnclosureOpen_line (s : State) (v : Bool) : (s.setEnclosureOpen v).line = s.line := rfl
@[simp] theorem State.setEnclosureOpen_tx (s : State) (v : Bool) : (s.setEnclosureOpen v).tx = s.tx := rfl
@[simp] theorem State.setEnclosureOpen_terms (s : State) (v : Bool) : (s.setEnclosureOpen v).terms = s.terms := rfl
@[simp] theorem State.setEnclosureOpen_setAsides (s : State) (v : Bool) : (s.setEnclosureOpen v).setAsides = s.setAsides := rfl
@[simp] theorem State.setEnclosureOpen_queue (s : State) (v : Bool) : (s.setEnclosureOpen v).queue = s.queue := rfl
@[simp] theorem State.setEnclosureOpen_copy (s : State) (v : Bool) : (s.setEnclosureOpen v).copy = s.copy := rfl
@[simp] theorem State.setEnclosureOpen_bus (s : State) (v : Bool) : (s.setEnclosureOpen v).bus = s.bus := rfl
@[simp] theorem State.setEnclosureOpen_reads (s : State) (v : Bool) : (s.setEnclosureOpen v).reads = s.reads := rfl
@[simp] theorem State.setEnclosureOpen_retry (s : State) (v : Bool) : (s.setEnclosureOpen v).retry = s.retry := rfl
@[simp] theorem State.setEnclosureOpen_init (s : State) (v : Bool) : (s.setEnclosureOpen v).init = s.init := rfl
@[simp] theorem State.setEnclosureOpen_scrub (s : State) (v : Bool) : (s.setEnclosureOpen v).scrub = s.scrub := rfl
@[simp] theorem State.setEnclosureOpen_sysFault (s : State) (v : Bool) : (s.setEnclosureOpen v).sysFault = s.sysFault := rfl
@[simp] theorem State.setEnclosureOpen_enclosureOpen (s : State) (v : Bool) : (s.setEnclosureOpen v).enclosureOpen = v := rfl
@[simp] theorem State.setEnclosureOpen_draws (s : State) (v : Bool) : (s.setEnclosureOpen v).draws = s.draws := rfl

@[simp] theorem State.setDraws_pending (s : State) (v : Nat) : (s.setDraws v).pending = s.pending := rfl
@[simp] theorem State.setDraws_powered (s : State) (v : Nat) : (s.setDraws v).powered = s.powered := rfl
@[simp] theorem State.setDraws_mode (s : State) (v : Nat) : (s.setDraws v).mode = s.mode := rfl
@[simp] theorem State.setDraws_mem (s : State) (v : Nat) : (s.setDraws v).mem = s.mem := rfl
@[simp] theorem State.setDraws_secure (s : State) (v : Nat) : (s.setDraws v).secure = s.secure := rfl
@[simp] theorem State.setDraws_device (s : State) (v : Nat) : (s.setDraws v).device = s.device := rfl
@[simp] theorem State.setDraws_clock (s : State) (v : Nat) : (s.setDraws v).clock = s.clock := rfl
@[simp] theorem State.setDraws_line (s : State) (v : Nat) : (s.setDraws v).line = s.line := rfl
@[simp] theorem State.setDraws_tx (s : State) (v : Nat) : (s.setDraws v).tx = s.tx := rfl
@[simp] theorem State.setDraws_terms (s : State) (v : Nat) : (s.setDraws v).terms = s.terms := rfl
@[simp] theorem State.setDraws_setAsides (s : State) (v : Nat) : (s.setDraws v).setAsides = s.setAsides := rfl
@[simp] theorem State.setDraws_queue (s : State) (v : Nat) : (s.setDraws v).queue = s.queue := rfl
@[simp] theorem State.setDraws_copy (s : State) (v : Nat) : (s.setDraws v).copy = s.copy := rfl
@[simp] theorem State.setDraws_bus (s : State) (v : Nat) : (s.setDraws v).bus = s.bus := rfl
@[simp] theorem State.setDraws_reads (s : State) (v : Nat) : (s.setDraws v).reads = s.reads := rfl
@[simp] theorem State.setDraws_retry (s : State) (v : Nat) : (s.setDraws v).retry = s.retry := rfl
@[simp] theorem State.setDraws_init (s : State) (v : Nat) : (s.setDraws v).init = s.init := rfl
@[simp] theorem State.setDraws_scrub (s : State) (v : Nat) : (s.setDraws v).scrub = s.scrub := rfl
@[simp] theorem State.setDraws_sysFault (s : State) (v : Nat) : (s.setDraws v).sysFault = s.sysFault := rfl
@[simp] theorem State.setDraws_enclosureOpen (s : State) (v : Nat) : (s.setDraws v).enclosureOpen = s.enclosureOpen := rfl
@[simp] theorem State.setDraws_draws (s : State) (v : Nat) : (s.setDraws v).draws = v := rfl

@[simp] theorem State.setAccounts_pending (s : State) (v : AccountStore) : (s.setAccounts v).pending = s.pending := rfl
@[simp] theorem State.setAccounts_powered (s : State) (v : AccountStore) : (s.setAccounts v).powered = s.powered := rfl
@[simp] theorem State.setAccounts_mode (s : State) (v : AccountStore) : (s.setAccounts v).mode = s.mode := rfl
@[simp] theorem State.setAccounts_mem (s : State) (v : AccountStore) : (s.setAccounts v).mem = { s.mem with accounts := v } := rfl
@[simp] theorem State.setAccounts_secure (s : State) (v : AccountStore) : (s.setAccounts v).secure = s.secure := rfl
@[simp] theorem State.setAccounts_device (s : State) (v : AccountStore) : (s.setAccounts v).device = s.device := rfl
@[simp] theorem State.setAccounts_clock (s : State) (v : AccountStore) : (s.setAccounts v).clock = s.clock := rfl
@[simp] theorem State.setAccounts_line (s : State) (v : AccountStore) : (s.setAccounts v).line = s.line := rfl
@[simp] theorem State.setAccounts_tx (s : State) (v : AccountStore) : (s.setAccounts v).tx = s.tx := rfl
@[simp] theorem State.setAccounts_terms (s : State) (v : AccountStore) : (s.setAccounts v).terms = s.terms := rfl
@[simp] theorem State.setAccounts_setAsides (s : State) (v : AccountStore) : (s.setAccounts v).setAsides = s.setAsides := rfl
@[simp] theorem State.setAccounts_queue (s : State) (v : AccountStore) : (s.setAccounts v).queue = s.queue := rfl
@[simp] theorem State.setAccounts_copy (s : State) (v : AccountStore) : (s.setAccounts v).copy = s.copy := rfl
@[simp] theorem State.setAccounts_bus (s : State) (v : AccountStore) : (s.setAccounts v).bus = s.bus := rfl
@[simp] theorem State.setAccounts_reads (s : State) (v : AccountStore) : (s.setAccounts v).reads = s.reads := rfl
@[simp] theorem State.setAccounts_retry (s : State) (v : AccountStore) : (s.setAccounts v).retry = s.retry := rfl
@[simp] theorem State.setAccounts_init (s : State) (v : AccountStore) : (s.setAccounts v).init = s.init := rfl
@[simp] theorem State.setAccounts_scrub (s : State) (v : AccountStore) : (s.setAccounts v).scrub = s.scrub := rfl
@[simp] theorem State.setAccounts_sysFault (s : State) (v : AccountStore) : (s.setAccounts v).sysFault = s.sysFault := rfl
@[simp] theorem State.setAccounts_enclosureOpen (s : State) (v : AccountStore) : (s.setAccounts v).enclosureOpen = s.enclosureOpen := rfl
@[simp] theorem State.setAccounts_draws (s : State) (v : AccountStore) : (s.setAccounts v).draws = s.draws := rfl

@[simp] theorem State.setIndex_pending (s : State) (v : MeterIndex) : (s.setIndex v).pending = s.pending := rfl
@[simp] theorem State.setIndex_powered (s : State) (v : MeterIndex) : (s.setIndex v).powered = s.powered := rfl
@[simp] theorem State.setIndex_mode (s : State) (v : MeterIndex) : (s.setIndex v).mode = s.mode := rfl
@[simp] theorem State.setIndex_mem (s : State) (v : MeterIndex) : (s.setIndex v).mem = { s.mem with index := v } := rfl
@[simp] theorem State.setIndex_secure (s : State) (v : MeterIndex) : (s.setIndex v).secure = s.secure := rfl
@[simp] theorem State.setIndex_device (s : State) (v : MeterIndex) : (s.setIndex v).device = s.device := rfl
@[simp] theorem State.setIndex_clock (s : State) (v : MeterIndex) : (s.setIndex v).clock = s.clock := rfl
@[simp] theorem State.setIndex_line (s : State) (v : MeterIndex) : (s.setIndex v).line = s.line := rfl
@[simp] theorem State.setIndex_tx (s : State) (v : MeterIndex) : (s.setIndex v).tx = s.tx := rfl
@[simp] theorem State.setIndex_terms (s : State) (v : MeterIndex) : (s.setIndex v).terms = s.terms := rfl
@[simp] theorem State.setIndex_setAsides (s : State) (v : MeterIndex) : (s.setIndex v).setAsides = s.setAsides := rfl
@[simp] theorem State.setIndex_queue (s : State) (v : MeterIndex) : (s.setIndex v).queue = s.queue := rfl
@[simp] theorem State.setIndex_copy (s : State) (v : MeterIndex) : (s.setIndex v).copy = s.copy := rfl
@[simp] theorem State.setIndex_bus (s : State) (v : MeterIndex) : (s.setIndex v).bus = s.bus := rfl
@[simp] theorem State.setIndex_reads (s : State) (v : MeterIndex) : (s.setIndex v).reads = s.reads := rfl
@[simp] theorem State.setIndex_retry (s : State) (v : MeterIndex) : (s.setIndex v).retry = s.retry := rfl
@[simp] theorem State.setIndex_init (s : State) (v : MeterIndex) : (s.setIndex v).init = s.init := rfl
@[simp] theorem State.setIndex_scrub (s : State) (v : MeterIndex) : (s.setIndex v).scrub = s.scrub := rfl
@[simp] theorem State.setIndex_sysFault (s : State) (v : MeterIndex) : (s.setIndex v).sysFault = s.sysFault := rfl
@[simp] theorem State.setIndex_enclosureOpen (s : State) (v : MeterIndex) : (s.setIndex v).enclosureOpen = s.enclosureOpen := rfl
@[simp] theorem State.setIndex_draws (s : State) (v : MeterIndex) : (s.setIndex v).draws = s.draws := rfl

@[simp] theorem State.setEcc_pending (s : State) (v : SMap Disturb) : (s.setEcc v).pending = s.pending := rfl
@[simp] theorem State.setEcc_powered (s : State) (v : SMap Disturb) : (s.setEcc v).powered = s.powered := rfl
@[simp] theorem State.setEcc_mode (s : State) (v : SMap Disturb) : (s.setEcc v).mode = s.mode := rfl
@[simp] theorem State.setEcc_mem (s : State) (v : SMap Disturb) : (s.setEcc v).mem = { s.mem with ecc := v } := rfl
@[simp] theorem State.setEcc_secure (s : State) (v : SMap Disturb) : (s.setEcc v).secure = s.secure := rfl
@[simp] theorem State.setEcc_device (s : State) (v : SMap Disturb) : (s.setEcc v).device = s.device := rfl
@[simp] theorem State.setEcc_clock (s : State) (v : SMap Disturb) : (s.setEcc v).clock = s.clock := rfl
@[simp] theorem State.setEcc_line (s : State) (v : SMap Disturb) : (s.setEcc v).line = s.line := rfl
@[simp] theorem State.setEcc_tx (s : State) (v : SMap Disturb) : (s.setEcc v).tx = s.tx := rfl
@[simp] theorem State.setEcc_terms (s : State) (v : SMap Disturb) : (s.setEcc v).terms = s.terms := rfl
@[simp] theorem State.setEcc_setAsides (s : State) (v : SMap Disturb) : (s.setEcc v).setAsides = s.setAsides := rfl
@[simp] theorem State.setEcc_queue (s : State) (v : SMap Disturb) : (s.setEcc v).queue = s.queue := rfl
@[simp] theorem State.setEcc_copy (s : State) (v : SMap Disturb) : (s.setEcc v).copy = s.copy := rfl
@[simp] theorem State.setEcc_bus (s : State) (v : SMap Disturb) : (s.setEcc v).bus = s.bus := rfl
@[simp] theorem State.setEcc_reads (s : State) (v : SMap Disturb) : (s.setEcc v).reads = s.reads := rfl
@[simp] theorem State.setEcc_retry (s : State) (v : SMap Disturb) : (s.setEcc v).retry = s.retry := rfl
@[simp] theorem State.setEcc_init (s : State) (v : SMap Disturb) : (s.setEcc v).init = s.init := rfl
@[simp] theorem State.setEcc_scrub (s : State) (v : SMap Disturb) : (s.setEcc v).scrub = s.scrub := rfl
@[simp] theorem State.setEcc_sysFault (s : State) (v : SMap Disturb) : (s.setEcc v).sysFault = s.sysFault := rfl
@[simp] theorem State.setEcc_enclosureOpen (s : State) (v : SMap Disturb) : (s.setEcc v).enclosureOpen = s.enclosureOpen := rfl
@[simp] theorem State.setEcc_draws (s : State) (v : SMap Disturb) : (s.setEcc v).draws = s.draws := rfl

@[simp] theorem State.setSys_pending (s : State) (v : SystemArea) : (s.setSys v).pending = s.pending := rfl
@[simp] theorem State.setSys_powered (s : State) (v : SystemArea) : (s.setSys v).powered = s.powered := rfl
@[simp] theorem State.setSys_mode (s : State) (v : SystemArea) : (s.setSys v).mode = s.mode := rfl
@[simp] theorem State.setSys_mem (s : State) (v : SystemArea) : (s.setSys v).mem = { s.mem with sys := v } := rfl
@[simp] theorem State.setSys_secure (s : State) (v : SystemArea) : (s.setSys v).secure = s.secure := rfl
@[simp] theorem State.setSys_device (s : State) (v : SystemArea) : (s.setSys v).device = s.device := rfl
@[simp] theorem State.setSys_clock (s : State) (v : SystemArea) : (s.setSys v).clock = s.clock := rfl
@[simp] theorem State.setSys_line (s : State) (v : SystemArea) : (s.setSys v).line = s.line := rfl
@[simp] theorem State.setSys_tx (s : State) (v : SystemArea) : (s.setSys v).tx = s.tx := rfl
@[simp] theorem State.setSys_terms (s : State) (v : SystemArea) : (s.setSys v).terms = s.terms := rfl
@[simp] theorem State.setSys_setAsides (s : State) (v : SystemArea) : (s.setSys v).setAsides = s.setAsides := rfl
@[simp] theorem State.setSys_queue (s : State) (v : SystemArea) : (s.setSys v).queue = s.queue := rfl
@[simp] theorem State.setSys_copy (s : State) (v : SystemArea) : (s.setSys v).copy = s.copy := rfl
@[simp] theorem State.setSys_bus (s : State) (v : SystemArea) : (s.setSys v).bus = s.bus := rfl
@[simp] theorem State.setSys_reads (s : State) (v : SystemArea) : (s.setSys v).reads = s.reads := rfl
@[simp] theorem State.setSys_retry (s : State) (v : SystemArea) : (s.setSys v).retry = s.retry := rfl
@[simp] theorem State.setSys_init (s : State) (v : SystemArea) : (s.setSys v).init = s.init := rfl
@[simp] theorem State.setSys_scrub (s : State) (v : SystemArea) : (s.setSys v).scrub = s.scrub := rfl
@[simp] theorem State.setSys_sysFault (s : State) (v : SystemArea) : (s.setSys v).sysFault = s.sysFault := rfl
@[simp] theorem State.setSys_enclosureOpen (s : State) (v : SystemArea) : (s.setSys v).enclosureOpen = s.enclosureOpen := rfl
@[simp] theorem State.setSys_draws (s : State) (v : SystemArea) : (s.setSys v).draws = s.draws := rfl

end Sys2Proof.Machine
end

