-- ==== Sys2Proof/Laws/Store.lean ====
section
/-!
SUPPORT. Laws/Store.lean: reading after writing, and the canonical form kept, for the containers.
-/
namespace Sys2Proof.Machine

variable {α : Type}

@[simp] theorem SMap.find_nil (k : Nat) : SMap.find k ([] : SMap α) = none := rfl

@[simp] theorem SMap.find_put_self (k : Nat) (a : α) (m : SMap α) : SMap.find k (SMap.put k a m) = some a := by
  induction m with
  | nil => simp [SMap.put, SMap.find]
  | cons x r ih =>
    obtain ⟨j, b⟩ := x
    simp only [SMap.put]
    split
    · simp [SMap.find]
    · split
      · simp [SMap.find]
      · rename_i h1 h2
        simp [SMap.find, Ne.symm h2, ih]

theorem SMap.find_put_of_ne {k j : Nat} (h : j ≠ k) (a : α) (m : SMap α) :
    SMap.find j (SMap.put k a m) = SMap.find j m := by
  induction m with
  | nil => simp [SMap.put, SMap.find, Ne.symm h]
  | cons x r ih =>
    obtain ⟨i, b⟩ := x
    simp only [SMap.put]
    split
    · simp [SMap.find, Ne.symm h]
    · split
      · rename_i h1 h2
        subst h2
        simp [SMap.find, Ne.symm h]
      · simp only [SMap.find, ih]

theorem SMap.find_put (k j : Nat) (a : α) (m : SMap α) :
    SMap.find j (SMap.put k a m) = if j = k then some a else SMap.find j m := by
  split
  · subst_vars; simp
  · exact SMap.find_put_of_ne ‹_› a m

theorem SMap.find_erase (k j : Nat) (m : SMap α) :
    SMap.find j (SMap.erase k m) = if j = k then none else SMap.find j m := by
  induction m with
  | nil => simp [SMap.erase, SMap.keep, SMap.find]
  | cons x r ih =>
    obtain ⟨i, b⟩ := x
    unfold SMap.erase SMap.keep at ih ⊢
    simp only [List.filter_cons]
    by_cases hik : i = k
    · subst hik
      simp only [bne_self_eq_false, Bool.false_eq_true, ↓reduceIte, ih]
      by_cases hj : j = i
      · simp [hj]
      · simp [SMap.find, hj, Ne.symm hj]
    · simp only [bne_iff_ne, ne_eq, hik, not_false_eq_true, ↓reduceIte, SMap.find, ih]
      by_cases hij : i = j
      · subst hij; simp [hik]
      · simp [hij]

@[simp] theorem SMap.find_erase_self (k : Nat) (m : SMap α) : SMap.find k (SMap.erase k m) = none := by
  simp [SMap.find_erase]

/-- A map is canonical exactly when its keys rise pairwise. -/
theorem SMap.rising_iff (m : SMap α) : SMap.rising m = true ↔ m.Pairwise (fun x y => x.1 < y.1) := by
  induction m with
  | nil => simp [SMap.rising]
  | cons x r ih =>
    cases r with
    | nil => simp [SMap.rising]
    | cons y r =>
      obtain ⟨j, a⟩ := x
      obtain ⟨k, b⟩ := y
      simp only [SMap.rising, Bool.and_eq_true, decide_eq_true_eq, ih, List.pairwise_cons, List.mem_cons]
      constructor
      · rintro ⟨hjk, h1, h2⟩
        refine ⟨?_, h1, h2⟩
        rintro z (rfl | hz)
        · exact hjk
        · exact lt_trans hjk (h1 z hz)
      · rintro ⟨h, h1, h2⟩
        exact ⟨h (k, b) (.inl rfl), h1, h2⟩

theorem SMap.mem_put {k : Nat} {a : α} {m : SMap α} {x : Nat × α} (h : x ∈ SMap.put k a m) : x = (k, a) ∨ x ∈ m := by
  induction m with
  | nil => simpa [SMap.put] using h
  | cons y r ih =>
    obtain ⟨j, b⟩ := y
    simp only [SMap.put] at h
    split at h
    · simpa using h
    · split at h
      · rcases List.mem_cons.mp h with h | h
        · exact .inl h
        · exact .inr (List.mem_cons_of_mem _ h)
      · rcases List.mem_cons.mp h with h | h
        · exact .inr (h ▸ List.mem_cons_self)
        · exact (ih h).imp id (List.mem_cons_of_mem _)

theorem SMap.put_rising (k : Nat) (a : α) {m : SMap α} (h : SMap.rising m = true) : SMap.rising (SMap.put k a m) = true := by
  rw [SMap.rising_iff] at *
  induction m with
  | nil => simp [SMap.put]
  | cons y r ih =>
    obtain ⟨j, b⟩ := y
    rw [List.pairwise_cons] at h
    simp only [SMap.put]
    split
    · rename_i hk
      refine List.pairwise_cons.mpr ⟨?_, List.pairwise_cons.mpr h⟩
      intro z hz
      rcases List.mem_cons.mp hz with rfl | hz
      · exact hk
      · exact lt_trans hk (h.1 z hz)
    · split
      · rename_i h1 h2
        subst h2
        exact List.pairwise_cons.mpr ⟨h.1, h.2⟩
      · rename_i h1 h2
        refine List.pairwise_cons.mpr ⟨?_, ih h.2⟩
        intro z hz
        rcases SMap.mem_put hz with rfl | hz
        · simp; omega
        · exact h.1 z hz

theorem SMap.keep_rising (p : Nat → α → Bool) {m : SMap α} (h : SMap.rising m = true) : SMap.rising (SMap.keep p m) = true := by
  rw [SMap.rising_iff] at *
  exact List.Pairwise.filter _ h

theorem SMap.adjust_rising (f : Nat → α → α) {m : SMap α} (h : SMap.rising m = true) :
    SMap.rising (SMap.adjust f m) = true := by
  rw [SMap.rising_iff] at *
  exact (List.pairwise_map).2 h

theorem SMap.find_adjust (f : Nat → α → α) (k : Nat) (m : SMap α) :
    SMap.find k (SMap.adjust f m) = (SMap.find k m).map (f k) := by
  induction m with
  | nil => rfl
  | cons x r ih =>
    obtain ⟨j, a⟩ := x
    by_cases e : j = k
    · subst e
      simp [SMap.adjust, SMap.find]
    · simpa [SMap.adjust, SMap.find, e] using ih

theorem SMap.erase_rising (k : Nat) {m : SMap α} (h : SMap.rising m = true) : SMap.rising (SMap.erase k m) = true :=
  SMap.keep_rising _ h

theorem SMap.foldl_put_rising (l acc : SMap α) (h : SMap.rising acc = true) :
    SMap.rising (l.foldl (fun acc x => SMap.put x.1 x.2 acc) acc) = true := by
  induction l generalizing acc with
  | nil => exact h
  | cons x r ih => exact ih _ (SMap.put_rising _ _ h)

theorem SMap.normal_rising (m : SMap α) : SMap.rising (SMap.normal m) = true :=
  SMap.foldl_put_rising m [] rfl

@[simp] theorem Eight.get_put_self (e : Eight α) (t : Fin 8) (a : α) : (e.put t a).get t = a := by
  fin_cases t <;> rfl

theorem Eight.get_put_of_ne (e : Eight α) {t u : Fin 8} (h : u ≠ t) (a : α) : (e.put t a).get u = e.get u := by
  fin_cases t <;> fin_cases u <;> first | rfl | exact absurd rfl h

theorem Eight.get_put (e : Eight α) (t u : Fin 8) (a : α) : (e.put t a).get u = if u = t then a else e.get u := by
  split
  · subst_vars; simp
  · exact Eight.get_put_of_ne e ‹_› a

@[simp] theorem Eight.put_get (e : Eight α) (t : Fin 8) : e.put t (e.get t) = e := by
  fin_cases t <;> rfl

@[simp] theorem Eight.get_map {β : Type} (f : α → β) (e : Eight α) (t : Fin 8) : (e.map f).get t = f (e.get t) := by
  fin_cases t <;> rfl

@[simp] theorem Eight.get_all8 (a : α) (t : Fin 8) : (Eight.all8 a).get t = a := by
  fin_cases t <;> rfl

/-- A written record is read back, and every other slot reads as before. -/
theorem AccountStore.read_write (m : AccountStore) (s t : Nat) (a : Account) :
    (m.write s a).read t = if t = s then a else m.read t := by
  unfold AccountStore.read AccountStore.write
  by_cases h : a = Account.blank m.eraApplied
  · simp only [h, ↓reduceIte, SMap.find_erase]
    by_cases ht : t = s <;> simp [ht]
  · simp only [h, ↓reduceIte, SMap.find_put]
    by_cases ht : t = s <;> simp [ht]

@[simp] theorem AccountStore.write_eraApplied (m : AccountStore) (s : Nat) (a : Account) :
    (m.write s a).eraApplied = m.eraApplied := rfl

/-- Writing a record keeps the account region canonical. -/
theorem AccountStore.write_wf {m : AccountStore} (h : m.wf = true) (s : Nat) (a : Account) : (m.write s a).wf = true := by
  unfold AccountStore.wf AccountStore.write at *
  simp only [Bool.and_eq_true, List.all_eq_true, decide_eq_true_eq] at h ⊢
  by_cases ha : a = Account.blank m.eraApplied
  · simp only [ha, ↓reduceIte]
    refine ⟨SMap.erase_rising _ h.1, fun x hx => h.2 x ?_⟩
    unfold SMap.erase SMap.keep at hx
    exact (List.mem_filter.mp hx).1
  · simp only [ha, ↓reduceIte]
    refine ⟨SMap.put_rising _ _ h.1, fun x hx => ?_⟩
    rcases SMap.mem_put hx with rfl | hx
    · exact ha
    · exact h.2 x hx

theorem AccountStore.normal_wf (m : AccountStore) : m.normal.wf = true := by
  unfold AccountStore.normal
  suffices h : ∀ (l : SMap Account) (acc : AccountStore), acc.wf = true →
      (l.foldl (fun acc x => acc.write x.1 x.2) acc).wf = true from h _ _ rfl
  intro l
  induction l with
  | nil => exact fun _ h => h
  | cons x r ih => exact fun acc h => ih _ (AccountStore.write_wf h _ _)

theorem AccountMemory.initial_wf (seq floor head tail : Nat) : (AccountMemory.initial seq floor head tail).wf = true := rfl

end Sys2Proof.Machine
end

