-- ==== Sys2Proof/Laws/Ops.lean ====
section
/-!
SUPPORT. Laws/Ops.lean: what each shared operation over account memory can do, said once: with no word disturbed a read
changes nothing; in every case a read changes account memory, the module state, the system fault address and the model's
own counter alone; and the damage list keeps its law.
-/
namespace Sys2Proof.Machine

/-! ### With no word disturbed -/

theorem hasBad_of_sound {s : State} (h : s.mem.ecc = []) (p : Nat → Bool) : hasBad p s = false := by
  simp [hasBad, h]

theorem itemBad_of_sound {s : State} (h : s.mem.ecc = []) (i : SysItem) : itemBad i s = false :=
  hasBad_of_sound h _

theorem touchItem_of_sound {s : State} (h : s.mem.ecc = []) (i : SysItem) : touchItem i s = s := by
  simp [touchItem, itemBad_of_sound h, h]

theorem readWords_of_sound {s : State} (h : s.mem.ecc = []) (p : Nat → Bool) : readWords p s = s := by
  simp [readWords, h]

theorem readSlot_of_sound {s : State} (h : s.mem.ecc = []) (slot : Nat) : readSlot slot s = s :=
  readWords_of_sound h _

theorem slotRecord_of_sound {s : State} (h : s.mem.ecc = []) (slot : Nat) :
    slotRecord slot s = some (s.mem.accounts.read slot) := by
  simp [slotRecord, hasBad_of_sound h]

theorem freshWords_of_sound {s : State} (h : s.mem.ecc = []) (p : Nat → Bool) : freshWords p s = s := by
  have e : SMap.keep (fun a _ => !p a) s.mem.ecc = s.mem.ecc := by rw [h]; rfl
  unfold freshWords
  rw [e]
  rfl

theorem storeItems_of_sound {s : State} (h : s.mem.ecc = []) (is : List SysItem) (f : SystemArea → SystemArea) :
    storeItems is f s = s.setSys (f s.mem.sys) := by
  simp [storeItems, freshWords_of_sound h]

theorem touchItems_of_sound {s : State} (h : s.mem.ecc = []) (is : List SysItem) :
    is.foldl (fun u i => touchItem i u) s = s := by
  induction is with
  | nil => rfl
  | cons i is ih => rw [List.foldl_cons, touchItem_of_sound h, ih]

theorem writeItems_of_sound {s : State} (h : s.mem.ecc = []) (is : List SysItem) (f : SystemArea → SystemArea) :
    writeItems is f s = s.setSys (f s.mem.sys) := by
  simp [writeItems, touchItems_of_sound h, itemBad_of_sound h, storeItems_of_sound h]

theorem writeItem_of_sound {s : State} (h : s.mem.ecc = []) (i : SysItem) (f : SystemArea → SystemArea) :
    writeItem i f s = s.setSys (f s.mem.sys) :=
  writeItems_of_sound h [i] f

theorem settingsView_of_sound {s : State} (h : s.mem.ecc = []) : settingsView s = s.mem.sys.settings := by
  simp [settingsView, itemBad_of_sound h]

theorem reserveView_of_sound {s : State} (h : s.mem.ecc = []) : reserveView s = s.mem.sys.reserve := by
  simp [reserveView, itemBad_of_sound h]

theorem damageView_of_sound {s : State} (h : s.mem.ecc = []) : damageView s = s.mem.sys.damage := by
  simp [damageView, itemBad_of_sound h]

theorem termView_of_sound {s : State} (h : s.mem.ecc = []) (t : Fin 8) : termView t s = s.mem.sys.terms.get t := by
  simp [termView, itemBad_of_sound h]

theorem touchForFlags_of_sound {s : State} (h : s.mem.ecc = []) : touchForFlags s = s := by
  simp [touchForFlags, touchItem_of_sound h, readWords_of_sound h]

/-- A disturbance of no cell changes nothing. -/
@[simp] theorem disturb_quiet (s : State) : disturb .quiet s = s := rfl

/-! ### The check code (R143) -/

/-- A syndrome of 0 is clean. -/
@[simp] theorem wordOutcome_zero : wordOutcome 0 = .clean := rfl

/-- Every other syndrome is an error. -/
theorem wordOutcome_ne_clean {y : BitVec 8} (h : y ≠ 0) : wordOutcome y ≠ .clean := by
  unfold wordOutcome
  rw [if_neg h]
  split <;> simp

/-- Each of the 72 bits is named by a syndrome, and each of the 183 syndromes past them names none. -/
theorem syndromeBit_bitSyndrome (b : Fin 255) :
    syndromeBit (bitSyndrome b) = if h : b.val < 72 then some ⟨b.val, h⟩ else none := by
  have hb := (Config.syndromeOrder.symm b).isLt
  have e : (bitSyndrome b).toNat - 1 = (Config.syndromeOrder.symm b).val := by
    simp only [bitSyndrome, BitVec.toNat_ofNat]
    omega
  unfold syndromeBit
  simp only [e, hb, dite_true, Fin.eta, Equiv.apply_symm_apply]

/-- A syndrome that names a bit, or a place past them, is not 0. -/
theorem bitSyndrome_ne_zero (b : Fin 255) : bitSyndrome b ≠ 0 := by
  have hb := (Config.syndromeOrder.symm b).isLt
  intro h
  have e := congrArg BitVec.toNat h
  simp only [bitSyndrome, BitVec.toNat_ofNat] at e
  change _ = 0 at e
  omega

/-- The outcome of a read whose syndrome names bit `b`. -/
theorem wordOutcome_bit (b : Fin 72) : wordOutcome (bitSyndrome ⟨b.val, by omega⟩) = .corrected b := by
  unfold wordOutcome
  rw [if_neg (bitSyndrome_ne_zero _), syndromeBit_bitSyndrome, dif_pos b.isLt]

/-- The outcome of a read whose syndrome names no bit. -/
theorem wordOutcome_past {b : Fin 255} (h : 72 ≤ b.val) : wordOutcome (bitSyndrome b) = .uncorrectable := by
  unfold wordOutcome
  rw [if_neg (bitSyndrome_ne_zero _), syndromeBit_bitSyndrome, dif_neg (by omega)]

/-- A word with no bit in error reads clean. -/
theorem syndrome_none {d : Disturb} (h : wrongBits d.wrong = []) : d.syndrome = 0 := by simp [Disturb.syndrome, h]

/-- A word with one bit in error has that bit corrected. -/
theorem wordOutcome_single {d : Disturb} {b : Fin 72} (h : wrongBits d.wrong = [b]) :
    wordOutcome d.syndrome = .corrected b := by
  simp only [Disturb.syndrome, h]
  exact wordOutcome_bit b

/-- A word with two bits in error is uncorrectable. -/
theorem wordOutcome_double {d : Disturb} {b c : Fin 72} (h : wrongBits d.wrong = [b, c]) :
    wordOutcome d.syndrome = .uncorrectable := by
  simp only [Disturb.syndrome, h]
  exact wordOutcome_past (by simp)

/-! ### What a read can change -/

/-- Two states that differ in account memory, the module state, the system fault address and the model's counter at
most: all that reading account memory can change (R143 to R148). -/
def SameBut (s t : State) : Prop :=
  t = { s with mem := t.mem, mode := t.mode, sysFault := t.sysFault, draws := t.draws }

theorem SameBut.refl (s : State) : SameBut s s := rfl

theorem SameBut.trans {s t u : State} (h : SameBut s t) (k : SameBut t u) : SameBut s u := by
  unfold SameBut at *
  rw [k, h]

theorem SameBut.foldl {α : Type} {f : State → α → State} (h : ∀ s a, SameBut s (f s a)) (l : List α) (s : State) :
    SameBut s (l.foldl f s) := by
  induction l generalizing s with
  | nil => exact .refl s
  | cons a l ih => exact (h s a).trans (ih _)

theorem SameBut.setMem (s : State) (v : AccountMemory) : SameBut s (s.setMem v) := rfl

theorem sysBad_same (a : Nat) (s : State) : SameBut s (sysBad a s) := rfl

theorem freshWords_same (p : Nat → Bool) (s : State) : SameBut s (freshWords p s) := rfl

theorem foundWords_same (p : Nat → Bool) (s : State) : SameBut s (foundWords p s) := rfl

theorem logError_same (a : Nat) (d : Disturb) (s : State) : SameBut s (logError a d s) := by
  unfold logError
  split
  · rfl
  · rfl

theorem readSysWord_same (s : State) (x : Nat × Disturb) : SameBut s (readSysWord s x) := by
  unfold readSysWord
  split
  · split
    · exact .refl s
    · exact (freshWords_same _ s).trans (logError_same _ _ _)
    · exact ((foundWords_same _ s).trans (sysBad_same _ _)).trans (logError_same _ _ _)
  · exact .refl s

theorem touchItem_same (i : SysItem) (s : State) : SameBut s (touchItem i s) := by
  unfold touchItem
  have h := SameBut.foldl (f := readSysWord) readSysWord_same (s.mem.ecc.filter (fun x => itemWord i x.1)) s
  dsimp only
  split
  · exact h.trans rfl
  · exact h

theorem storeItems_same (is : List SysItem) (f : SystemArea → SystemArea) (s : State) :
    SameBut s (storeItems is f s) := rfl

theorem writeItems_same (is : List SysItem) (f : SystemArea → SystemArea) (s : State) :
    SameBut s (writeItems is f s) := by
  unfold writeItems
  have h := SameBut.foldl (f := fun u i => touchItem i u) (fun s i => touchItem_same i s) is s
  dsimp only
  split
  · exact h
  · exact h.trans (storeItems_same _ _ _)

theorem writeItem_same (i : SysItem) (f : SystemArea → SystemArea) (s : State) : SameBut s (writeItem i f s) :=
  writeItems_same [i] f s

theorem enterDamage_same (slot : Nat) (s : State) : SameBut s (enterDamage slot s) := writeItem_same _ _ s

theorem markIndexDamaged_same (a : Nat) (s : State) : SameBut s (markIndexDamaged a s) := rfl

theorem readWord_same (s : State) (x : Nat × Disturb) : SameBut s (readWord s x) := by
  unfold readWord
  split
  · exact readSysWord_same s x
  · split
    · split
      · exact .refl s
      · exact (freshWords_same _ s).trans (logError_same _ _ _)
      · dsimp only
        split
        · exact ((foundWords_same _ s).trans (logError_same _ _ _)).trans (markIndexDamaged_same _ _)
        · exact ((foundWords_same _ s).trans (logError_same _ _ _)).trans (enterDamage_same _ _)
    · exact .refl s

theorem readWords_same (p : Nat → Bool) (s : State) : SameBut s (readWords p s) :=
  SameBut.foldl readWord_same _ s

theorem readSlot_same (slot : Nat) (s : State) : SameBut s (readSlot slot s) := readWords_same _ s

theorem writeTerm_same (t : Fin 8) (f : TermEntry → TermEntry) (s : State) : SameBut s (writeTerm t f s) :=
  writeItem_same _ _ s

theorem touchForFlags_same (s : State) : SameBut s (touchForFlags s) :=
  (((touchItem_same _ s).trans (touchItem_same _ _)).trans (touchItem_same _ _)).trans (readWords_same _ _)

theorem disturb_same (d : Disturbance) (s : State) : SameBut s (disturb d s) := rfl

theorem writeSlot_same (slot : Nat) (a : Account) (s : State) : SameBut s (writeSlot slot a s) :=
  (freshWords_same _ s).trans (SameBut.setMem _ _)

/-! ### The damage list's law (R146) -/

theorem DamageList.enter_nodup {l : DamageList} (h : l.slots.Nodup) (slot : Nat) : (l.enter slot).slots.Nodup := by
  unfold DamageList.enter
  split
  · exact h
  · split
    · rename_i hn _
      exact List.Nodup.append h (by simp) (by simpa using hn)
    · exact h

theorem DamageList.enter_length {l : DamageList} (h : l.slots.length ≤ 32) (slot : Nat) :
    (l.enter slot).slots.length ≤ 32 := by
  unfold DamageList.enter
  split
  · exact h
  · split
    · simp; omega
    · exact h

/-- A damage list cut to its law keeps it. -/
theorem DamageList.cut_law (d : DamageList) : d.cut.slots.Nodup ∧ d.cut.slots.length ≤ 32 :=
  ⟨(List.nodup_dedup _).sublist (List.take_sublist _ _), by simp [DamageList.cut]⟩

/-- A disturbance keeps the law of the damage list. -/
theorem disturb_damage {s : State} (h : s.mem.sys.damage.slots.Nodup ∧ s.mem.sys.damage.slots.length ≤ 32)
    (d : Disturbance) :
    (disturb d s).mem.sys.damage.slots.Nodup ∧ (disturb d s).mem.sys.damage.slots.length ≤ 32 := by
  have step : ∀ (m : SystemArea) (x : Nat × SystemArea), m.damage.slots.Nodup ∧ m.damage.slots.length ≤ 32 →
      (misreadSystem m x).damage.slots.Nodup ∧ (misreadSystem m x).damage.slots.length ≤ 32 := by
    intro m x hm
    unfold misreadSystem
    split
    · rename_i i _
      cases i <;> first | exact hm | exact DamageList.cut_law _
    · exact hm
  have run : ∀ (l : SMap SystemArea) (m : SystemArea), m.damage.slots.Nodup ∧ m.damage.slots.length ≤ 32 →
      (l.foldl misreadSystem m).damage.slots.Nodup ∧ (l.foldl misreadSystem m).damage.slots.length ≤ 32 := by
    intro l
    induction l with
    | nil => exact fun m hm => hm
    | cons x l ih => exact fun m hm => ih _ (step m x hm)
  exact run _ _ h

/-- A word that a read has found uncorrectable stays so whatever disturbs it (R143). -/
theorem disturbWord_bad {m : SMap Disturb} {a : Nat}
    (h : (SMap.find a m).any (fun d => d.found && d.bad) = true) (x : Nat × BitVec 72) :
    (SMap.find a (disturbWord m x)).any (fun d => d.found && d.bad) = true := by
  unfold disturbWord
  dsimp only
  split
  · exact h
  · rename_i hn
    by_cases e : a = x.1
    · subst e
      cases k : SMap.find x.1 m with
      | none => simp [k] at h
      | some d =>
        simp only [k, Option.any_some, Bool.and_eq_true] at h
        simp only [k, Option.getD_some, h.1, true_and, not_or, Bool.not_eq_false] at hn
        simpa [k, h.1] using hn.2
    · rw [SMap.find_put_of_ne e]
      exact h

end Sys2Proof.Machine
end

