-- ==== Sys2Proof/Laws/Memory.lean ====
section
/-!
SUPPORT. Laws/Memory.lean: account memory keeps its canonical form (`AccountMemory.wf`) through every operation on it,
and reset has it.
-/
namespace Sys2Proof.Machine

theorem wf_parts {m : AccountMemory} :
    m.wf = true ↔ m.accounts.wf = true ∧ SMap.rising m.index.entries = true ∧ SMap.rising m.ecc = true := by
  simp [AccountMemory.wf, Bool.and_eq_true, and_assoc]

theorem reset_mem_wf : State.reset.mem.wf = true := rfl

theorem freshWords_wf {s : State} (h : s.mem.wf = true) (p : Nat → Bool) : (freshWords p s).mem.wf = true := by
  rw [wf_parts] at *
  exact ⟨h.1, h.2.1, SMap.keep_rising (fun a _ => !p a) h.2.2⟩

theorem foundWords_wf {s : State} (h : s.mem.wf = true) (p : Nat → Bool) : (foundWords p s).mem.wf = true := by
  rw [wf_parts] at *
  exact ⟨h.1, h.2.1, SMap.adjust_rising (fun a (d : Disturb) => if p a && d.bad then { d with found := true } else d) h.2.2⟩

theorem mendWords_wf {s : State} (h : s.mem.wf = true) (p : Nat → Bool) : (mendWords p s).mem.wf = true := by
  rw [wf_parts] at *
  exact ⟨h.1, h.2.1, SMap.keep_rising (fun a (d : Disturb) => !(p a && d.single)) h.2.2⟩

theorem setSys_wf {s : State} (h : s.mem.wf = true) (v : SystemArea) : (s.setSys v).mem.wf = true := h

theorem sysBad_wf {s : State} (h : s.mem.wf = true) (a : Nat) : (sysBad a s).mem.wf = true := h

theorem logError_wf {s : State} (h : s.mem.wf = true) (a : Nat) (d : Disturb) : (logError a d s).mem.wf = true := by
  unfold logError
  split
  · exact sysBad_wf (foundWords_wf (mendWords_wf h _) _) _
  · exact setSys_wf (freshWords_wf h _) _

theorem readSysWord_wf {s : State} (h : s.mem.wf = true) (x : Nat × Disturb) : (readSysWord s x).mem.wf = true := by
  unfold readSysWord
  split
  · split
    · exact h
    · exact logError_wf (freshWords_wf h _) _ _
    · exact logError_wf (sysBad_wf (foundWords_wf h _) _) _ _
  · exact h

theorem foldl_wf {α : Type} {f : State → α → State} (hf : ∀ s a, s.mem.wf = true → (f s a).mem.wf = true)
    (l : List α) {s : State} (h : s.mem.wf = true) : (l.foldl f s).mem.wf = true := by
  induction l generalizing s with
  | nil => exact h
  | cons a l ih => exact ih (hf s a h)

theorem touchItem_wf {s : State} (h : s.mem.wf = true) (i : SysItem) : (touchItem i s).mem.wf = true := by
  unfold touchItem
  have k := foldl_wf (fun s a h => readSysWord_wf h a) (s.mem.ecc.filter (fun x => itemWord i x.1)) h
  dsimp only
  split
  · exact k
  · exact k

theorem storeItems_wf {s : State} (h : s.mem.wf = true) (is : List SysItem) (f : SystemArea → SystemArea) :
    (storeItems is f s).mem.wf = true :=
  setSys_wf (freshWords_wf h _) _

theorem writeItems_wf {s : State} (h : s.mem.wf = true) (is : List SysItem) (f : SystemArea → SystemArea) :
    (writeItems is f s).mem.wf = true := by
  unfold writeItems
  have k := foldl_wf (f := fun u i => touchItem i u) (fun s i h => touchItem_wf h i) is h
  dsimp only
  split
  · exact k
  · exact storeItems_wf k _ _

theorem writeItem_wf {s : State} (h : s.mem.wf = true) (i : SysItem) (f : SystemArea → SystemArea) :
    (writeItem i f s).mem.wf = true :=
  writeItems_wf h [i] f

theorem markIndexDamaged_wf {s : State} (h : s.mem.wf = true) (a : Nat) : (markIndexDamaged a s).mem.wf = true :=
  freshWords_wf h _

theorem readWord_wf {s : State} (h : s.mem.wf = true) (x : Nat × Disturb) : (readWord s x).mem.wf = true := by
  unfold readWord
  split
  · exact readSysWord_wf h x
  · split
    · split
      · exact h
      · exact logError_wf (freshWords_wf h _) _ _
      · dsimp only
        split
        · exact markIndexDamaged_wf (logError_wf (foundWords_wf h _) _ _) _
        · exact writeItem_wf (logError_wf (foundWords_wf h _) _ _) _ _
    · exact h

theorem readWords_wf {s : State} (h : s.mem.wf = true) (p : Nat → Bool) : (readWords p s).mem.wf = true :=
  foldl_wf (fun _ a h => readWord_wf h a) _ h

theorem disturbWord_rising {m : SMap Disturb} (h : SMap.rising m = true) (x : Nat × BitVec 72) :
    SMap.rising (disturbWord m x) = true := by
  unfold disturbWord
  dsimp only
  split
  · exact h
  · exact SMap.put_rising _ _ h

theorem disturb_wf {s : State} (h : s.mem.wf = true) (d : Disturbance) : (disturb d s).mem.wf = true := by
  rw [wf_parts] at *
  refine ⟨?_, ?_, ?_⟩
  · have run : ∀ (l : SMap Account) (m : AccountStore), m.wf = true → (l.foldl misreadAccount m).wf = true := by
      intro l
      induction l with
      | nil => exact fun m hm => hm
      | cons x l ih => exact fun m hm => ih _ (AccountStore.write_wf hm _ _)
    exact run _ _ h.1
  · have k : ∀ o : Option MeterIndex, SMap.rising (misreadIndex s.mem.index o).entries = true := by
      intro o
      cases o with
      | none => exact h.2.1
      | some n => exact SMap.normal_rising _
    exact k _
  · have run : ∀ (l : SMap (BitVec 72)) (m : SMap Disturb), SMap.rising m = true → SMap.rising (l.foldl disturbWord m) = true := by
      intro l
      induction l with
      | nil => exact fun m hm => hm
      | cons x l ih => exact fun m hm => ih _ (disturbWord_rising hm x)
    exact run d.words _ h.2.2

theorem writeSlot_wf {s : State} (h : s.mem.wf = true) (slot : Nat) (a : Account) :
    (writeSlot slot a s).mem.wf = true := by
  have k := freshWords_wf h (slotWord slot)
  rw [wf_parts] at *
  exact ⟨AccountStore.write_wf k.1 slot a, k.2.1, k.2.2⟩

theorem setIndex_wf {s : State} (h : s.mem.wf = true) {v : MeterIndex} (hv : SMap.rising v.entries = true) :
    (s.setIndex v).mem.wf = true := by
  rw [wf_parts] at *
  exact ⟨h.1, hv, h.2.2⟩

theorem changeIndex_wf {s : State} (h : s.mem.wf = true) {f : SMap IndexEntry → SMap IndexEntry}
    (hf : ∀ m, SMap.rising m = true → SMap.rising (f m) = true) : (changeIndex f s).mem.wf = true := by
  unfold changeIndex
  dsimp only
  split
  · exact readWords_wf h _
  · exact setIndex_wf (freshWords_wf (readWords_wf h _) _) (hf _ (wf_parts.1 h).2.1)

theorem dropEntries_rising (slot : Nat) (b : Bool) {m : SMap IndexEntry} (h : SMap.rising m = true) :
    SMap.rising (dropEntries slot b m) = true := SMap.keep_rising _ h

theorem loadEntries_rising (slot : Nat) (a : Account) {m : SMap IndexEntry} (h : SMap.rising m = true) :
    SMap.rising (loadEntries slot a m) = true := by
  unfold loadEntries
  split
  · exact dropEntries_rising _ _ h
  · exact SMap.put_rising _ _ (dropEntries_rising _ _ h)

theorem emptyIndex_wf {s : State} (h : s.mem.wf = true) : (emptyIndex s).mem.wf = true :=
  setIndex_wf (freshWords_wf h _) rfl

theorem addLive_wf {s : State} (h : s.mem.wf = true) (meter slot : Nat) : (addLive meter slot s).mem.wf = true :=
  setIndex_wf h (SMap.put_rising _ _ (wf_parts.1 h).2.1)

theorem loseMemory_wf (s : State) : (loseMemory s).mem.wf = true := by
  rw [wf_parts]
  exact ⟨AccountStore.normal_wf _, SMap.normal_rising _, rfl⟩

theorem setMem_initial_wf (s : State) (seq floor head tail : Nat) :
    (s.setMem (AccountMemory.initial seq floor head tail)).mem.wf = true := AccountMemory.initial_wf _ _ _ _

end Sys2Proof.Machine
end

