-- ==== Sys2Proof/Laws/Reply.lean ====
section
/-!
SUPPORT. Laws/Reply.lean: the lengths of a reply on the line (R167): a body of at most 480 bytes, a content nine bytes
longer.
-/
namespace Sys2Proof.Machine

theorem ReplyBody.bytes_length_le (b : ReplyBody) : b.bytes.length ≤ 480 := by
  simp [ReplyBody.bytes]

@[simp] theorem withCrc_length (l : List Byte) : (withCrc l).length = l.length + 2 := by
  simp [withCrc]

/-- The content of a reply is its body between a header of seven bytes and a CRC of two. -/
theorem replyContent_length (r : Reply) : (replyContent r).length = r.body.bytes.length + 9 := by
  simp [replyContent]
  omega

end Sys2Proof.Machine
end

