-- ==== Sys2Proof/Laws/Request.lean ====
section
/-!
SUPPORT. Laws/Request.lean: how a request is judged, said once: the steps of a judgement, and the hand-over of a request
that passes the dispatcher to its owning block.
-/
namespace Sys2Proof.Machine

/-! ### The steps of a judgement -/

theorem judge_bind {α β : Type} (x : Judge α) (f : α → Judge β) (s : State) :
    (x >>= f).run s = match x.run s with
      | .ok a t => (f a).run t
      | .error e t => .error e t := by
  simp only [EStateM.run, bind, EStateM.bind]
  cases x s <;> rfl

@[simp] theorem judge_pure {α : Type} (a : α) (s : State) : (pure a : Judge α).run s = .ok a s := rfl

@[simp] theorem judge_get (s : State) : (get : Judge State).run s = .ok s s := rfl

@[simp] theorem judge_set (s t : State) : (set t : Judge Unit).run s = .ok () t := rfl

@[simp] theorem judge_modify (f : State → State) (s : State) : (modify f : Judge Unit).run s = .ok () (f s) := rfl

@[simp] theorem judge_throw {α : Type} (e : ResultCode × ReplyBody) (s : State) :
    (throw e : Judge α).run s = .error e s := rfl

theorem needWith_run (b : Bool) (r : ResultCode) (body : ReplyBody) (s : State) :
    (needWith b r body).run s = if b then .ok () s else .error (r, body) s := by
  unfold needWith
  split <;> rfl

theorem need_run (b : Bool) (r : ResultCode) (s : State) :
    (need b r).run s = if b then .ok () s else .error (r, .empty) s := needWith_run b r .empty s

theorem check_run (p : State → Bool) (r : ResultCode) (s : State) :
    (check p r).run s = if p s then .ok () s else .error (r, .empty) s := by
  unfold check
  rw [judge_bind, judge_get]
  exact need_run _ _ _

theorem needInService_run (s : State) :
    needInService.run s = if s.mode = .inService then .ok () s else .error (.outOfService, .empty) s := by
  unfold needInService
  rw [check_run]
  simp

theorem needClock_run (s : State) :
    needClock.run s = if s.clock.state = .running then .ok () s else .error (.clockNotSet, .empty) s := by
  unfold needClock
  rw [check_run]
  simp

theorem readItem_of_sound {s : State} (h : s.mem.ecc = []) (i : SysItem) : (readItem i).run s = .ok () s := by
  unfold readItem
  simp only [judge_bind, judge_get, judge_modify, itemBad_of_sound h, touchItem_of_sound h, need_run, Bool.not_false,
    if_true]

theorem readAccount_of_sound {s : State} (h : s.mem.ecc = []) (slot : Nat) :
    (readAccount slot).run s = if slot ∈ s.mem.sys.damage.slots then .error (.accountDamaged, .empty) s
      else .ok (s.mem.accounts.read slot) s := by
  unfold readAccount
  simp only [judge_bind, readItem_of_sound h, check_run]
  by_cases m : slot ∈ s.mem.sys.damage.slots
  · simp [m]
  · simp [m, slotRecord_of_sound h, readSlot_of_sound h]

theorem lookupMeter_of_leads {s : State} (h : s.mem.ecc = []) {meter slot : Nat} (l : Leads meter slot s) :
    (lookupMeter meter).run s = .ok slot s := by
  unfold lookupMeter
  simp only [judge_bind, judge_modify, readWords_of_sound h, readLookup, check_run, l.sound, Bool.not_false, if_true,
    judge_get, l.entry, judge_pure]

theorem needAdmission_run (s : State) :
    needAdmission.run s = match admission s with
      | some r => .error (r, .empty) s
      | none => .ok () s := by
  unfold needAdmission
  rw [judge_bind, judge_get]
  dsimp only
  cases admission s <;> rfl

theorem journaled_of_admits {s : State} (h : admission s = none) (o : Owner) (body : RecordBody) (figures : Figures) :
    (journaled o body figures).run s = .ok .later (queueRecord o (headNow o.terminal s) body figures true s) := by
  unfold journaled
  simp only [judge_bind, needAdmission_run, h, judge_modify, judge_pure]

/-! ### One step of a judgement, passed -/

theorem then_check {β : Type} {p : State → Bool} {u : State} (h : p u = true) (r : ResultCode) (f : Unit → Judge β) :
    (check p r >>= f).run u = (f ()).run u := by
  rw [judge_bind, check_run, h]
  rfl

theorem then_need {β : Type} {b : Bool} (h : b = true) (r : ResultCode) (f : Unit → Judge β) (u : State) :
    (need b r >>= f).run u = (f ()).run u := by
  rw [judge_bind, need_run, h]
  rfl

theorem then_needWith {β : Type} {b : Bool} (h : b = true) (r : ResultCode) (body : ReplyBody) (f : Unit → Judge β)
    (u : State) : (needWith b r body >>= f).run u = (f ()).run u := by
  rw [judge_bind, needWith_run, h]
  rfl

theorem then_service {β : Type} {u : State} (h : u.mode = .inService) (f : Unit → Judge β) :
    (needInService >>= f).run u = (f ()).run u := by
  rw [judge_bind, needInService_run, if_pos h]

theorem then_clock {β : Type} {u : State} (h : u.clock.state = .running) (f : Unit → Judge β) :
    (needClock >>= f).run u = (f ()).run u := by
  rw [judge_bind, needClock_run, if_pos h]

theorem then_get {β : Type} (f : State → Judge β) (u : State) : ((get : Judge State) >>= f).run u = (f u).run u := by
  rw [judge_bind, judge_get]

theorem then_modify {β : Type} (g : State → State) (f : Unit → Judge β) (u : State) :
    ((modify g : Judge Unit) >>= f).run u = (f ()).run (g u) := by
  rw [judge_bind, judge_modify]

theorem then_set {β : Type} (v : State) (f : Unit → Judge β) (u : State) :
    ((set v : Judge Unit) >>= f).run u = (f ()).run v := by
  rw [judge_bind, judge_set]

theorem then_item {β : Type} {u : State} (h : u.mem.ecc = []) (i : SysItem) (f : Unit → Judge β) :
    (readItem i >>= f).run u = (f ()).run u := by
  rw [judge_bind, readItem_of_sound h]

theorem then_words {β : Type} {u : State} (h : u.mem.ecc = []) (p : Nat → Bool) (f : Unit → Judge β) :
    ((modify (readWords p) : Judge Unit) >>= f).run u = (f ()).run u := by
  rw [then_modify, readWords_of_sound h]

theorem then_account {β : Type} {u : State} (h : u.mem.ecc = []) {slot : Nat} (n : slot ∉ u.mem.sys.damage.slots)
    (f : Account → Judge β) : (readAccount slot >>= f).run u = (f (u.mem.accounts.read slot)).run u := by
  rw [judge_bind, readAccount_of_sound h, if_neg n]

theorem then_meter {β : Type} {u : State} (h : u.mem.ecc = []) {meter slot : Nat} (l : Leads meter slot u)
    (f : Nat → Judge β) : (lookupMeter meter >>= f).run u = (f slot).run u := by
  rw [judge_bind, lookupMeter_of_leads h l]

theorem then_admitted {β : Type} {u : State} (h : admission u = none) (f : Unit → Judge β) :
    (needAdmission >>= f).run u = (f ()).run u := by
  rw [judge_bind, needAdmission_run, h]

/-! ### The dispatcher -/

@[simp] theorem takeFrame_mem (s : State) : (takeFrame s).mem = s.mem := rfl
@[simp] theorem takeFrame_queue (s : State) : (takeFrame s).queue = s.queue := rfl
@[simp] theorem takeFrame_mode (s : State) : (takeFrame s).mode = s.mode := rfl

/-- With no word disturbed, the idle timer's condition is all that the hand-over changes besides the receive buffer. -/
theorem restartIdle_of_sound {s : State} (h : s.mem.ecc = []) (t : Fin 8) :
    ∃ i, restartIdle t s = setIdle t i s := by
  unfold restartIdle
  dsimp only
  rw [touchItem_of_sound h, termView_of_sound h]
  split
  · split
    · exact ⟨_, rfl⟩
    · split
      · exact ⟨_, rfl⟩
      · rw [touchItem_of_sound h]
        exact ⟨_, rfl⟩
  · exact ⟨_, rfl⟩

theorem handed_eq {s : State} (h : s.mem.ecc = []) (t : Fin 8) : ∃ i, handed t s = setIdle t i (takeFrame s) :=
  restartIdle_of_sound (s := takeFrame s) h t

theorem handed_mem {s : State} (h : s.mem.ecc = []) (t : Fin 8) : (handed t s).mem = s.mem := by
  obtain ⟨i, e⟩ := handed_eq h t
  rw [e]
  rfl

theorem handed_queue {s : State} (h : s.mem.ecc = []) (t : Fin 8) : (handed t s).queue = s.queue := by
  obtain ⟨i, e⟩ := handed_eq h t
  rw [e]
  rfl

theorem handed_mode {s : State} (h : s.mem.ecc = []) (t : Fin 8) : (handed t s).mode = s.mode := by
  obtain ⟨i, e⟩ := handed_eq h t
  rw [e]
  rfl

theorem handed_clock {s : State} (h : s.mem.ecc = []) (t : Fin 8) : (handed t s).clock = s.clock := by
  obtain ⟨i, e⟩ := handed_eq h t
  rw [e]
  rfl

theorem handed_secure {s : State} (h : s.mem.ecc = []) (t : Fin 8) : (handed t s).secure = s.secure := by
  obtain ⟨i, e⟩ := handed_eq h t
  rw [e]
  rfl

theorem handed_copy {s : State} (h : s.mem.ecc = []) (t : Fin 8) : (handed t s).copy = s.copy := by
  obtain ⟨i, e⟩ := handed_eq h t
  rw [e]
  rfl

theorem handed_tx {s : State} (h : s.mem.ecc = []) (t : Fin 8) : (handed t s).tx = s.tx := by
  obtain ⟨i, e⟩ := handed_eq h t
  rw [e]
  rfl

theorem handed_reads {s : State} (h : s.mem.ecc = []) (t : Fin 8) : (handed t s).reads = s.reads := by
  obtain ⟨i, e⟩ := handed_eq h t
  rw [e]
  rfl

theorem handed_retry {s : State} (h : s.mem.ecc = []) (t : Fin 8) : (handed t s).retry = s.retry := by
  obtain ⟨i, e⟩ := handed_eq h t
  rw [e]
  rfl

theorem handed_init {s : State} (h : s.mem.ecc = []) (t : Fin 8) : (handed t s).init = s.init := by
  obtain ⟨i, e⟩ := handed_eq h t
  rw [e]
  rfl

theorem handed_bus {s : State} (h : s.mem.ecc = []) (t : Fin 8) : (handed t s).bus = s.bus := by
  obtain ⟨i, e⟩ := handed_eq h t
  rw [e]
  rfl

theorem handed_scrub {s : State} (h : s.mem.ecc = []) (t : Fin 8) : (handed t s).scrub = s.scrub := by
  obtain ⟨i, e⟩ := handed_eq h t
  rw [e]
  rfl

theorem handed_setAsides {s : State} (h : s.mem.ecc = []) (t : Fin 8) : (handed t s).setAsides = s.setAsides := by
  obtain ⟨i, e⟩ := handed_eq h t
  rw [e]
  rfl

theorem handed_device {s : State} (h : s.mem.ecc = []) (t : Fin 8) : (handed t s).device = s.device := by
  obtain ⟨i, e⟩ := handed_eq h t
  rw [e]
  rfl

theorem handed_sysFault {s : State} (h : s.mem.ecc = []) (t : Fin 8) : (handed t s).sysFault = s.sysFault := by
  obtain ⟨i, e⟩ := handed_eq h t
  rw [e]
  rfl

theorem handed_enclosureOpen {s : State} (h : s.mem.ecc = []) (t : Fin 8) : (handed t s).enclosureOpen = s.enclosureOpen := by
  obtain ⟨i, e⟩ := handed_eq h t
  rw [e]
  rfl

theorem handed_powered {s : State} (h : s.mem.ecc = []) (t : Fin 8) : (handed t s).powered = s.powered := by
  obtain ⟨i, e⟩ := handed_eq h t
  rw [e]
  rfl

theorem handed_pending {s : State} (h : s.mem.ecc = []) (t : Fin 8) : (handed t s).pending = s.pending := by
  obtain ⟨i, e⟩ := handed_eq h t
  rw [e]
  rfl

theorem handed_sale {s : State} (h : s.mem.ecc = []) (t u : Fin 8) :
    ((handed t s).term u).sale = (s.term u).sale := by
  obtain ⟨i, e⟩ := handed_eq h t
  rw [e]
  simp only [setIdle, State.setTerm, State.term, State.setTerms_terms, Eight.get_put]
  split
  · rename_i hu
    subst hu
    rfl
  · rfl

theorem handed_lookup {s : State} (h : s.mem.ecc = []) (t u : Fin 8) :
    ((handed t s).term u).lookup = (s.term u).lookup := by
  obtain ⟨i, e⟩ := handed_eq h t
  rw [e]
  simp only [setIdle, State.setTerm, State.term, State.setTerms_terms, Eight.get_put]
  split
  · rename_i hu
    subst hu
    rfl
  · rfl

theorem handed_sound {s : State} (h : s.mem.ecc = []) (t : Fin 8) : (handed t s).mem.ecc = [] := by
  rw [handed_mem h, h]

/-- What depends on no terminal's idle timer and on no part of the line is as it was before the hand-over. -/
theorem handed_facts {s : State} (h : s.mem.ecc = []) (t : Fin 8) :
    (handed t s).month = s.month ∧ admission (handed t s) = admission s ∧ nextSeq (handed t s) = nextSeq s ∧
      (∀ u, shiftChange u (handed t s) = shiftChange u s) ∧ (∀ m, claimed m (handed t s) = claimed m s) ∧
      claimedCount (handed t s) = claimedCount s ∧ (∀ n, claimedSlot n (handed t s) = claimedSlot n s) ∧
      (∀ n, queueNames n (handed t s) = queueNames n s) ∧ journalState (handed t s) = journalState s ∧
      unreleased (handed t s) = unreleased s ∧ ∀ u, roleFor u (handed t s) = roleFor u s := by
  obtain ⟨i, e⟩ := handed_eq h t
  rw [e]
  exact ⟨rfl, rfl, rfl, fun _ => rfl, fun _ => rfl, rfl, fun _ => rfl, fun _ => rfl, rfl, rfl, fun _ => rfl⟩

theorem setIdle_busy (t : Fin 8) (i : IdleTimer) (s : State) (slot : Nat) : busy slot (setIdle t i s) = busy slot s := by
  revert t
  intro t
  match t with
  | 0 | 1 | 2 | 3 | 4 | 5 | 6 | 7 => rfl

theorem handed_busy {s : State} (h : s.mem.ecc = []) (t : Fin 8) (slot : Nat) :
    busy slot (handed t s) = busy slot s := by
  obtain ⟨i, e⟩ := handed_eq h t
  rw [e, setIdle_busy]
  rfl

theorem handed_leads {s : State} (h : s.mem.ecc = []) {t : Fin 8} {meter slot : Nat} (l : Leads meter slot s) :
    Leads meter slot (handed t s) := by
  have e := handed_mem h t
  exact ⟨by rw [e]; exact l.sound, by rw [e]; exact l.entry, by rw [e]; exact l.listed⟩

/-- A record queued through admission is the record of `withRecord`. -/
theorem journaled_of_sound {u : State} (h : u.mem.ecc = []) (a : admission u = none) (t : Fin 8) (tag : Tag)
    (body : RecordBody) (figures : Figures) :
    (journaled { terminal := t, tag := tag } body figures).run u = .ok .later (withRecord t tag body figures u) := by
  rw [journaled_of_admits a]
  unfold queueRecord headNow withRecord withRecordAs
  rw [termView_of_sound h]
  rfl

theorem terminalOf_terminalByte (t : Fin 8) : terminalOf (terminalByte t) = some t := by
  revert t
  decide

/-- A judgement of a request whose role and shift allow it and whose fields are good is its owner's (R174). -/
theorem judge_of_sound {α : Type} {s : State} (hs : s.mem.ecc = []) {k : Kind} {parse : List Byte → Option α}
    {own : Owner → α → Judge Answer} {o : Owner} {body : List Byte} {a : α}
    (hr : allowed k (roleFor o.terminal s) o.terminal body = true)
    (hshift : shiftFree k = true ∨ rescue k o.terminal s = true ∨
      ((s.mem.sys.terms.get o.terminal).shift = .opened ∧ shiftChange o.terminal s = false))
    (ha : parse body = some a) :
    (judge k parse own o body).run s = (own o a).run (restartIdle o.terminal s) := by
  obtain ⟨i, e⟩ := restartIdle_of_sound hs o.terminal
  have hb : ∀ u : State, u.mem.ecc = [] → itemBad (.terminal o.terminal) u = false := fun u h => itemBad_of_sound h _
  unfold judge
  simp only [judge_bind, judge_get, judge_modify, hb s hs, need_run, check_run, Bool.not_false,
    Bool.true_or, if_true, e]
  have h1 : roleFor o.terminal (setIdle o.terminal i s) = roleFor o.terminal s := rfl
  have h2 : (setIdle o.terminal i s).mem = s.mem := rfl
  have h3 : shiftChange o.terminal (setIdle o.terminal i s) = shiftChange o.terminal s := rfl
  simp only [h1, hr, if_true]
  have h4 : (shiftFree k || rescue k o.terminal s ||
      ((s.mem.sys.terms.get o.terminal).shift == .opened && !shiftChange o.terminal s)) = true := by
    rcases hshift with h | h | ⟨h, h'⟩
    · simp [h]
    · simp [h]
    · simp [h, h']
  simp only [h2, h3, h4, if_true, ha]

/-- The dispatcher takes a request that passes its checks and hands it to the owning block (R173, R174). -/
theorem takeRequest_of_presents {α : Type} {s : State} (hs : Sound s) {k : Kind} {parse : List Byte → Option α}
    {own : Owner → α → Judge Answer} {t : Fin 8} {tag : Tag} {body : List Byte} {a : α} (hp : Presents k t tag body s)
    (hr : allowed k (roleFor t s) t body = true)
    (hshift : shiftFree k = true ∨ rescue k t s = true ∨
      ((s.mem.sys.terms.get t).shift = .opened ∧ shiftChange t s = false))
    (ha : parse body = some a) :
    takeRequest k parse own s =
      conclude k.byte (terminalByte t) tag ((own { terminal := t, tag := tag } a).run (handed t s)) := by
  obtain ⟨⟨f, rest, hf, hk, ht, hg, hb⟩, hl, hm⟩ := hp
  unfold takeRequest
  rw [hf]
  simp only [hm, hk, beq_self_eq_true, Bool.and_self, if_true]
  unfold answerFrame
  rw [ht, terminalOf_terminalByte]
  simp only [hb, hl, ne_eq, not_true_eq_false, if_false, hg]
  congr 1
  exact judge_of_sound (s := takeFrame s) (o := { terminal := t, tag := tag }) hs hr hshift ha

/-- A request of a terminal whose shift is OPEN. -/
theorem takeRequest_of_open {α : Type} {s : State} (hs : Sound s) {k : Kind} {parse : List Byte → Option α}
    {own : Owner → α → Judge Answer} {t : Fin 8} {tag : Tag} {body : List Byte} {a : α} (hp : Presents k t tag body s)
    (ho : OpenAt k t body s) (ha : parse body = some a) :
    takeRequest k parse own s =
      conclude k.byte (terminalByte t) tag ((own { terminal := t, tag := tag } a).run (handed t s)) :=
  takeRequest_of_presents hs hp ho.role (.inr (.inr ⟨ho.shift, ho.settled⟩)) ha

/-- With no word disturbed, the entry of a reply is all that it changes, with LINK_OVERFLOW (R169, R172). -/
theorem pushReply_of_sound {s : State} (hs : s.mem.ecc = []) (k : Kind) (t : Fin 8) (tag : Tag) (r : ResultCode)
    (body : ReplyBody) :
    pushReply k.byte (terminalByte t) tag r body s = withReply (replyFrom k t tag r body s) s := by
  unfold pushReply
  rw [touchForFlags_of_sound hs]
  rfl

theorem pushReply_answered {s : State} (hs : s.mem.ecc = []) (k : Kind) (t : Fin 8) (tag : Tag) (r : ResultCode)
    (body : ReplyBody) : pushReply k.byte (terminalByte t) tag r body s = answered k t tag r body s :=
  pushReply_of_sound hs k t tag r body

/-- A request that reaches its owner from a terminal whose shift is OPEN. -/
theorem takeRequest_of_asks {α : Type} {s : State} {k : Kind} {parse : List Byte → Option α}
    {own : Owner → α → Judge Answer} {t : Fin 8} {tag : Tag} {body : List Byte} {a : α} (h : Asks k t tag body s)
    (ha : parse body = some a) :
    takeRequest k parse own s =
      conclude k.byte (terminalByte t) tag ((own { terminal := t, tag := tag } a).run (handed t s)) :=
  takeRequest_of_open h.sound h.presents h.opened ha

end Sys2Proof.Machine
end

