-- ==== Sys2Proof/WellFormed.lean ====
section
/-!
DEFINITION. WellFormed.lean: which commands could reach the block: a character that is no end byte, pages of 128
bytes, positions below 4,096, and disturbed words in their regions of account memory.
-/
namespace Sys2Proof
open Sys2Proof.Machine

/-- 128 bytes, when bytes are brought at all (R127). -/
def ReadGot.wf : ReadGot → Bool
  | .held => true
  | .noAck => true
  | .bytes b => b.length == 128

/-- 128 bytes, when bytes are left at all (R127). -/
def PageLeft.wf : PageLeft → Bool
  | .unchanged => true
  | .asSent => true
  | .bytes b => b.length == 128

/-- Disturbed words lie in account memory, each in its region (R142). -/
def Disturbance.wf (d : Disturbance) : Bool :=
  d.words.all (fun x => decide (x.1 < 262144)) && d.accounts.all (fun x => decide (x.1 < 131072))
    && d.system.all (fun x => decide (184320 ≤ x.1) && decide (x.1 < 262144))

/-- Reads of a whole-device scan name positions of the device (R119). -/
def readsWf (r : SMap ReadGot) : Bool :=
  r.all (fun x => decide (x.1 < 4096) && ReadGot.wf x.2)

/-- The inputs of a supply reset. -/
def ResetInputs.wf (r : ResetInputs) : Bool :=
  PageLeft.wf r.left && Disturbance.wf r.disturbed

/-- A command is well formed. -/
def Instr.wf : Instr → Bool
  | .characterReceived b => b != 0x03
  | .secondStep d => Disturbance.wf d
  | .arbiterGrant _ r => readsWf r
  | .busNak p => PageLeft.wf p
  | .readBackEnd g => ReadGot.wf g
  | .retryVoidEnd g => ReadGot.wf g
  | .journalLookupEnd g => ReadGot.wf g
  | .journalReadEnd gs => gs.all ReadGot.wf
  | .supplyReset r => ResetInputs.wf r
  | .startUpVoidEnd g => ReadGot.wf g
  | .rollForwardRead g => ReadGot.wf g
  | .memoryLossInit r => readsWf r
  | .tamperSwitchOpening r => ResetInputs.wf r
  | .supplyLoss p => PageLeft.wf p
  | .writeStop p => PageLeft.wf p
  | .frameArrival | .framingError | .gapTimerExpiry | .linkReset | .replySent | .unknownRequest
  | .status | .clockRead | .clockSet | .shiftOpen | .shiftClose | .shiftResume | .shiftRead | .terminalSet
  | .quote | .confirm | .cancel | .reissue | .reverse
  | .accountCreate | .accountEdit | .accountRead | .accountClose | .meterReplace | .accountLoad | .rekey
  | .indexRebuild | .keyLoad | .keyRetire | .keyList | .tariffLoad | .tariffRead | .grant | .reserveRead
  | .journalRead | .journalRelease | .journalRetry | .integrityRead | .integrityClear | .settingsSet
  | .settingsRead | .tamperClear | .initialise
  | .tariffEffective | .saleTimerExpiry _ | .idleExpiry _ | .scrubEvent | .pollAck | .pollLimitExpiry
  | .lineEntersSpacing | .lineReturnsToMarking | .enclosureSwitchClosing => true

end Sys2Proof
end

