-- ==== Sys2Proof/Tests/Slice0.lean ====
section
/-!
SUPPORT. Tests/Slice0.lean: ill-formed commands that WellFormed refuses; the worked examples of the manual and hand
computations from its rules; and, for the statements with hypotheses, a concrete state and operands that meet them.
-/
namespace Sys2Proof.Tests
open Sys2Proof Sys2Proof.Machine

/-! ### Ill-formed commands are refused -/

theorem test_wf_characterReceived : (Instr.characterReceived 0x03).wf = false := by decide
theorem test_wf_secondStep_word :
    (Instr.secondStep { Disturbance.quiet with words := [(262144, 1#72)] }).wf = false := by decide
theorem test_wf_secondStep_account :
    (Instr.secondStep { Disturbance.quiet with accounts := [(131072, .blank 0)] }).wf = false := by decide
theorem test_wf_secondStep_system :
    (Instr.secondStep { Disturbance.quiet with system := [(184319, State.reset.mem.sys)] }).wf = false := by decide
theorem test_wf_arbiterGrant : (Instr.arbiterGrant true [(4096, .held)]).wf = false := by decide
theorem test_wf_busNak : (Instr.busNak (.bytes [1])).wf = false := by decide
theorem test_wf_readBackEnd : (Instr.readBackEnd (.bytes [])).wf = false := by decide
theorem test_wf_retryVoidEnd : (Instr.retryVoidEnd (.bytes [1, 2])).wf = false := by decide
theorem test_wf_journalLookupEnd : (Instr.journalLookupEnd (.bytes [1])).wf = false := by decide
theorem test_wf_journalReadEnd : (Instr.journalReadEnd [.held, .bytes [1]]).wf = false := by decide
theorem test_wf_supplyReset_left :
    (Instr.supplyReset { strap := .baud38400, left := .bytes [1], batteryFailed := false, disturbed := .quiet }).wf =
      false := by
  decide
theorem test_wf_supplyReset_disturbed :
    (Instr.supplyReset { strap := .baud38400, left := .unchanged, batteryFailed := false,
                         disturbed := { Disturbance.quiet with words := [(262144, 1#72)] } }).wf =
                           false := by
  decide
theorem test_wf_startUpVoidEnd : (Instr.startUpVoidEnd (.bytes [])).wf = false := by decide
theorem test_wf_rollForwardRead : (Instr.rollForwardRead (.bytes [])).wf = false := by decide
theorem test_wf_memoryLossInit : (Instr.memoryLossInit [(4096, .noAck)]).wf = false := by decide
theorem test_wf_tamperSwitchOpening :
    (Instr.tamperSwitchOpening { strap := .baud38400, left := .bytes [1], batteryFailed := false,
                                 disturbed := .quiet }).wf = false := by decide
theorem test_wf_supplyLoss : (Instr.supplyLoss (.bytes [])).wf = false := by decide
theorem test_wf_writeStop : (Instr.writeStop (.bytes [1])).wf = false := by decide
theorem test_wf_holds : (Instr.readBackEnd (.bytes (List.replicate 128 0))).wf = true := by
  decide +kernel

/-! ### Worked examples -/

/-- Chapter 2, Case 1: debt 2,000, rate 2,500, carry 350, month units 300, in bank 17. -/
def caseOne (tender maxPerSale : Nat) : CreditInputs :=
  { mode := .sale, tender := tender, debt := 2000, rate := 2500, carry := 350, month := 300, issued := 0, flag :=
    false,
    maxPerSale := maxPerSale, tax := 1500, minSale := 500, classAllowance := 0,
    blocks := [⟨500, 10000⟩, ⟨3500, 15000⟩, ⟨0, 21000⟩], available := 250000 }

/-- Chapter 2, Case 1. -/
theorem test_caseOne : computeSale (caseOne 10050 5000) = .ok
    { tax := 1311, recovered := 2000, purchased := 515, allowance := 0, carryBefore := 350, carryAfter := 14350,
      monthBefore := 300, monthAfter := 815, allowanceAfter := 0, debtAfter := 0,
      touched := [⟨1, 200, 10000⟩, ⟨2, 315, 15000⟩] } := by decide +kernel

/-- Chapter 2, Case 1 with a lower maximum per sale. -/
theorem test_caseOne_lower : computeSale (caseOne 10050 400) = .error (.amountHigh, .amountHigh 7688 400) := by
  decide +kernel

/-- Chapter 2, Case 1 as a payment: refused, then taken at the clearing tender. -/
theorem test_caseOne_payment :
    computePayment (caseOne 2500 5000) = .error (.overpayment, .overpayment 2000 2301) ∧
      (computePayment (caseOne 2301 5000)).toOption.map (fun r => (r.tax, r.recovered, r.debtAfter, r.carryAfter)) =
        some (301, 2000, 0, 350) := by decide +kernel

/-- Chapter 2, Case 2: the first sale of a month, with allowance. -/
theorem test_caseTwo : computeSale
    { mode := .sale, tender := 2000, debt := 0, rate := 0, carry := 0, month := 0, issued := 0, flag := true,
      maxPerSale := 2000, tax := 1500, minSale := 500, classAllowance := 500, blocks := [⟨500, 12000⟩, ⟨0, 18000⟩],
      available := 250000 } = .ok
    { tax := 261, recovered := 0, purchased := 144, allowance := 500, carryBefore := 0, carryAfter := 11000,
      monthBefore := 0, monthAfter := 144, allowanceAfter := 500, debtAfter := 0, touched := [⟨1, 144, 12000⟩] } := by
  decide +kernel

/-- The calendar base was a Saturday, and the last reading is 23:59:59 on 31 December 2099 (R156, R157). -/
theorem test_calendar_ends :
    calendarOf 0 = { year := 2000, month := 1, day := 1, hour := 0, minute := 0, second := 0, weekday := .saturday } ∧
      calendarOf 3155759999 = { year := 2099, month := 12, day := 31, hour := 23, minute := 59, second := 59,
                                weekday := .thursday } ∧ monthOf 3155759999 = 1199 := by decide +kernel

/-- February of 2000 has 29 days (R157). -/
theorem test_month_bounds : monthOf (60 * 86400 - 1) = 1 ∧ monthOf (60 * 86400) = 2 ∧ firstOfMonth 2 = 60 * 86400 :=
  by
  decide +kernel

/-- The check value of the CRC-16 of R58 over the digits 1 to 9, and of the CRC-32 of R191 with its result inverted. -/
theorem test_crc : crc16 [49, 50, 51, 52, 53, 54, 55, 56, 57] = 0x29B1 ∧
    crc32 [49, 50, 51, 52, 53, 54, 55, 56, 57] = 0xFC891918 := by decide +kernel

/-- A content byte that is a control byte is sent escaped (R167). -/
theorem test_escape : escaped [0x02, 0x41, 0x10, 0x03] = [0x10, 0x22, 0x41, 0x10, 0x30, 0x10, 0x23] := by decide

/-- The digits of a ciphertext, before its check group (R59). -/
theorem test_render : (render 81985529216486895).take 20 = [0, 0, 0, 8, 1, 9, 8, 5, 5, 2, 9, 2, 1, 6, 4, 8, 6, 8, 9,
  5] := by
  decide +kernel

/-- A record of sequence 70,310 stands at position 678 (R119). -/
theorem test_position : positionOf 70310 = 678 := by decide

/-- The parts of a reply that R190 gives widths: a pending sale's slot, meter number, mode, token amount, set-aside and
expiry time, a key slot's area, generation and check value, and the bank selector of a TARIFF_LOAD. -/
theorem test_reply_widths :
    saleViewBytes (some { state := .quoted, slot := 3, meter := 1001, mode := .payment, tokenAmount := 173
                          setAside := 174, expiryTime := 1180 }) =
      Config.openBytes (.saleState (some .quoted)) ++
        [0, 3, 0, 0, 0, 3, 0xE9, 1, 0, 0, 0, 173, 0, 0, 0, 174, 0, 0, 4, 0x9C] ∧
    keySlotBytes (some { state := .active, area := 12, gen := 3, checkValue := 0x01020304 }) =
      Config.openBytes (.keyState (some .active)) ++ [12, 3, 1, 2, 3, 4] ∧
    ReplyBody.fields (.tariffLoaded 17 true) = Config.openBytes (.bankId 17) ++ [0] ∧
    ReplyBody.fields (.tariffLoaded 17 false) = Config.openBytes (.bankId 17) ++ [1] :=
  ⟨congrArg (_ ++ ·) (by decide), congrArg (_ ++ ·) (by decide), rfl, rfl⟩

/-- From reset the memory-loss start brings an IN_SERVICE module (R185, R184). -/
theorem test_reset_comes_in_service :
    ((runCommands [.memoryLossInit [], .writeStop .asSent, .pollAck,
      .readBackEnd .held] State.reset).map (fun s => s.mode)) =
      some .inService := by decide +kernel


/-! ### States for the witnesses -/

/-- A frame's content; its CRC is judged when it arrives, and these frames have arrived. -/
def frameOf (k : Kind) (terminal : Byte) (body : List Byte) : List Byte :=
  [k.byte, terminal, 0#8, 7#8] ++ body ++ [0#8, 0#8]

/-- A state with one arrived frame; all else is as it was, so the other hypotheses below are shown of the state without
the frame. -/
def asking (k : Kind) (terminal : Byte) (body : List Byte) (s : State) : State :=
  { s with line := { s.line with arrived := [frameOf k terminal body] } }

/-- An IN_SERVICE module, its clock RUNNING, sequences 5 to 10 unreleased, terminal 0 (SUPERVISOR) and terminal 1
(CLERK) with their shifts OPEN. -/
def office : State :=
  { State.reset with
    mode := .inService
    bus := none
    copy := some { head := 11, tail := 5, mark := none }
    clock := { State.reset.clock with reading := 1000, state := .running }
    mem := { State.reset.mem with sys := { State.reset.mem.sys with
      signature := some 0
      ring := { head := 11, tail := 5 }
      terms := { initialTerms 0 with
        t0 := { TermEntry.initial .supervisor 0 with shift := .opened, operator := 7, shiftNo := 1 }
        t1 := { TermEntry.initial .clerk 0 with shift := .opened, operator := 8, shiftNo := 2 } } } } }

/-- The office with an item of its system area changed. -/
def officeSys (f : SystemArea → SystemArea) : State := office.setSys (f office.mem.sys)

/-- An account of meter 1001 in slot 3, which last bought at sequence 6. -/
def holder : Account :=
  { Account.blank 0 with
    state := .active, meter := 1001, area := 12, keyGen := 3, tariffClass := 1, maxPerSale := 5000
    lastSale := some { seq := 6, time := 900, tokenSeq := 1, reversed := false, keyChange := false, reissues := 0 } }

/-- The bank of chapter 2. -/
def bank17 : TariffBank :=
  { id := 17, tax := 1500, minSale := 500
    classes := .all8 { allowance := 0, blocks := [⟨500, 10000⟩, ⟨3500, 15000⟩, ⟨0, 21000⟩] } }

/-- The office with that account, its area key, an ACTIVE bank and a reserve. -/
def shop : State :=
  { office with
    secure := { office.secure with slots := [(0, { state := .active, area := 12, gen := 3, key := 0 })] }
    mem := { office.mem with
      accounts := { eraApplied := 0, cells := [(3, holder)] }
      index := { entries := [(1001, { slot := 3, kind := .live })], count := 1, damaged := false }
      sys := { office.mem.sys with
        tariffs := { active := some bank17, pending := none, lastId := 17, lastApplied := 0 }
        reserve := { balance := 250000, totalGranted := 250000, totalIssued := 0, lastVoucher := 0, lastApplied :=
          0 } } } }

/-- A head and a SALE body whose figures fill their widths. -/
def wideHead : RecordHead :=
  { seq := 4294967295, time := 4294967295, terminal := 255, shiftNo := 65535, operator := 65535 }

/-- Such a body. -/
def wideSale : SaleBody :=
  { slot := 65535, meter := 1099511627775, tendered := 4294967295, tax := 4294967295, recovered := 4294967295
    purchased := 16777215, allowance := 16777215, carryBefore := 16777215, carryAfter := 16777215
    monthBefore := 16777215, tokenCount := 3, tokenSeq := 65535, keyChange := true, newGen := 255, revokeDelta := 255
    touched := List.replicate 4 ⟨255, 16777215, 16777215⟩, ciphers := [1, 2, 3] }

/-- An account whose fields stand at the ends of their ranges. -/
def wideAccount : Account :=
  { state := .blocked, meter := 99999999999, area := 63, keyGen := 15, forceKeyChange := true, tariffClass := 7
    allowanceFlag := true, issueSeq := 65535, counterMonth := 1199, monthUnits := 16777215, allowanceIssued := 100000
    debt := 99999999, rate := 5000, carry := 999999, maxPerSale := 999999
    lastSale := some { seq := 4294967295, time := 4294967295, tokenSeq := 65535, reversed := true, keyChange := true,
                       reissues := 9 }
    revokePending := some 65535, lastApplied := 4294967295 }

/-- An edit of every field, at the ends of the ranges. -/
def wideEdit : AccountEdit :=
  { tariffClass := some 7, allowanceFlag := some true, debt := some 99999999, rate := some 5000
    maxPerSale := some 999999, state := some .blocked }

/-- A bank whose figures fill their widths. -/
def wideBank : TariffLoadReq :=
  { tax := 65535, minSale := 4294967295, effective := 4294967295
    classes := .all8 { allowance := 4294967295, count := 255, pairs := List.replicate 4 ⟨4294967295, 4294967295⟩ } }

/-- Settings that fill their widths. -/
def wideSettings : SettingsChange :=
  { holdTime := some 4294967295, idleLimit := some 4294967295, reversalWindow := some 4294967295
    reissueLimit := some 4294967295, scrubInterval := some 4294967295, reserveLow := some 4294967295
    journalNearFull := some 4294967295 }

/-- What a request of the office meets on its way to its owning block. -/
def reaches (k : Kind) (t : Fin 8) (body : List Byte) (s : State) : Bool :=
  s.mem.ecc.isEmpty && body.length == k.bodyLength && mayTake s && allowed k (roleFor t s) t body
    && (s.mem.sys.terms.get t).shift == .opened && !shiftChange t s

theorem frameBody_frameOf (k : Kind) (terminal : Byte) (body : List Byte) : frameBody (frameOf k terminal body) =
  body := by
  simp [frameBody, frameOf]

theorem presents_asking {k : Kind} {t : Fin 8} {body : List Byte} {s : State} (hl : body.length = k.bodyLength)
    (hm : mayTake s = true) : Presents k t 7#16 body (asking k (terminalByte t) body s) where
  frame := ⟨_, [], rfl, rfl, rfl, rfl, frameBody_frameOf k _ body⟩
  length := hl
  room := hm

theorem asks_asking {k : Kind} {t : Fin 8} {body : List Byte} {s : State} (h : reaches k t body s = true) :
    Asks k t 7#16 body (asking k (terminalByte t) body s) := by
  simp only [reaches, Bool.and_eq_true, List.isEmpty_iff, beq_iff_eq, Bool.not_eq_true'] at h
  obtain ⟨⟨⟨⟨⟨h1, h2⟩, h3⟩, h4⟩, h5⟩, h6⟩ := h
  exact ⟨h1, presents_asking h2 h3, ⟨h4, h5, h6⟩⟩

/-- What an option holds, when it holds something of a decidable kind. -/
theorem held {α : Type} {o : Option α} {P : α → Prop} [DecidablePred P] (h : o.any (fun a => decide (P a)) = true) :
    ∃ a, o = some a ∧ P a := by
  cases o with
  | none => simp at h
  | some a => exact ⟨a, rfl, by simpa using h⟩

/-! ### The machine as a whole and its laws -/

theorem witness_StepRunsFrontCommand :
    { State.reset with pending := [.status, .replySent] }.pending = [.status, .replySent] := rfl

theorem witness_EmptyQueueTakesTick :
    (let s := { State.reset with powered := false }; s.pending = [] ∧ s.powered = false) ∧
      (let s := { State.reset with clock := { State.reset.clock with ticks := 998 } }
       s.pending = [] ∧ s.powered = true ∧ s.clock.ticks < 999) ∧
      (let s := { State.reset with clock := { State.reset.clock with ticks := 999 } }
       s.pending = [] ∧ s.powered = true ∧ 999 ≤ s.clock.ticks) := by decide

/-- The office with a set TAMPER latch and a command at the front of its queue. -/
def queued : State :=
  { office with pending := [.lineEntersSpacing], secure := { office.secure with tamperLatch := true } }

theorem witness_StepKeepsStoresAndBounds :
    queued.mem.wf = true ∧ storesWf queued = true ∧ CountsFit queued ∧ ∃ t, step queued = .next t :=
  ⟨by decide, by decide, by unfold CountsFit; decide, _, rfl⟩

theorem witness_StepKeepsDamageListLaw : queued.mem.sys.damage.lawful ∧ ∃ t, step queued = .next t :=
  ⟨by unfold DamageList.lawful; decide, _, rfl⟩

theorem witness_StepKeepsSetAsideSum : queued.setAsides = setAsideSum queued ∧ ∃ t, step queued = .next t :=
  ⟨by decide, _, rfl⟩

theorem witness_StepKeepsReplyRoom : RepliesFit queued ∧ ∃ t, step queued = .next t :=
  ⟨by unfold RepliesFit; decide, _, rfl⟩

theorem witness_StepKeepsReceiveBuffer :
    BufferFits queued ∧ PauseJudged queued ∧ ∃ t, step queued = .next t :=
  ⟨⟨by decide, by decide, by decide, by simp [queued, office, State.reset, LineState.afterReset]⟩,
    by unfold PauseJudged; decide, _, rfl⟩

theorem witness_StepKeepsFactoryItemsFloorLatch :
    (∃ t, step queued = .next t) ∧ queued.secure.tamperLatch = true ∧
      queued.pending.head? ≠ some .tamperClear := ⟨⟨_, rfl⟩, rfl, by simp [queued]⟩

theorem witness_StepNeverLowersMonth :
    queued.clock.reading ≤ lastReading ∧ (∀ r, queued.pending.head? ≠ some (.memoryLossInit r)) ∧
      ∃ t, step queued = .next t := ⟨by decide, by simp [queued], _, rfl⟩

theorem witness_StepKeepsFaultOutOfService :
    let s := { queued with sysFault := some 184320, mode := .outOfService }
    FaultHeld s ∧ ∃ t, step s = .next t := ⟨by unfold FaultHeld; decide, _, rfl⟩

theorem witness_CompletionTakenAgainChangesNothing :
    Sound shop ∧ ∀ b, (RecordBody.clock 5) = .reversal b → b.slot ∉ shop.mem.sys.damage.slots := ⟨rfl, by simp⟩

theorem witness_CommandWithoutItsEventChangesNothing :
    (let s := { office with powered := false }
     let c := Instr.status
     s.powered = false ∧ (∀ d, c ≠ .secondStep d) ∧ (∀ r, c ≠ .supplyReset r) ∧ (∀ r, c ≠ .tamperSwitchOpening r) ∧
      c ≠ .enclosureSwitchClosing) ∧
      starting State.reset = true ∧
      (let s := { office with tx := List.replicate 16 (replyFrom .status 0 7 .ok .empty office) }
       16 ≤ s.tx.length + repliesOwed s) ∧ office.line.arrived = [] ∧
      frameKind (frameOf .status 0 []) ≠ Kind.clockRead.byte :=
  ⟨by simp, rfl, by simp, rfl, by decide⟩

/-! ### The line and the dispatcher -/

theorem witness_FrameSentIsFrameTaken :
    office.powered = true ∧ office.line.spacing = false ∧ office.line.reception = none ∧ office.line.gap = none ∧
      PauseJudged office ∧ office.line.arrived.length ≤ 3 ∧
      ∀ content : List Byte, content = List.replicate 4 0x02#8 ∨ content = List.replicate 484 0x02#8 →
        4 ≤ content.length ∧ content.length ≤ 484 ∧ office.line.used + content.length + 2 ≤ 2048 :=
  ⟨rfl, rfl, rfl, rfl, by unfold PauseJudged; decide, by decide, by rintro _ (rfl | rfl) <;> decide +kernel⟩

/-- A line with a frame in reception and frames waiting. -/
def receiving (escape : Bool) (waiting : Nat) : State :=
  { office with line := { office.line with
      reception := some { content := [1], escape := escape }, gap := some 9
      arrived := List.replicate waiting [1, 2, 3, 4, 5, 6] } }

theorem witness_CharacterIsTaken :
    office.powered = true ∧ office.line.spacing = false ∧ (0x02#8 : Byte) ≠ 0x03 ∧
      (receiving false 3).line.arrived.length ≤ 3 ∧ 4 ≤ (receiving false 4).line.arrived.length ∧
      (0x41#8 : Byte) ≠ 0x02 ∧ (0x41#8 : Byte) ≠ 0x10 ∧ office.line.reception = none ∧
      (receiving false 0).line.reception = some { content := [1], escape := false } ∧
      (receiving true 0).line.reception = some { content := [1], escape := true } := by decide

theorem witness_LineEventsTouchLineAlone :
    (receiving false 0).powered = true ∧ (receiving false 0).line.spacing = false ∧
      (let r : Reception := { content := withCrc [1, 0, 0, 7], escape := false }
       6 ≤ r.content.length ∧ crcMatches r.content = true ∧ r.escape = false) ∧
      (∃ r, (receiving true 0).line.reception = some r ∧
        ¬ (6 ≤ r.content.length ∧ crcMatches r.content = true ∧ r.escape = false)) ∧
      { office.line with gap := some 0 }.gap = some 0 ∧
      ∃ r rest, (withReply (replyFrom .status 0 7 .ok .empty office) office).tx = r :: rest :=
  ⟨rfl, rfl, by decide +kernel, ⟨_, rfl, by decide⟩, rfl, _, _, rfl⟩

theorem witness_LinkResetDropsRepliesNotWork :
    let s := { office with line := { office.line with spacing := true, breakTimer := some 0 } }
    s.powered = true ∧ s.line.breakTimer = some 0 := by decide

theorem witness_DispatcherRefusesInOrder :
    (let s := { office with line := { office.line with arrived := [[0x0E, 0, 0, 7, 0, 0]] } }
     Sound s ∧ s.line.arrived = [[0x0E, 0, 0, 7, 0, 0]] ∧ mayTake s = true ∧ knownKind (0x0E#8 : Byte) = false) ∧
      (let s := asking .status 8 [] office
       Sound s ∧ s.line.arrived = [frameOf .status 8 []] ∧ mayTake s = true ∧
        frameKind (frameOf .status 8 []) = Kind.status.byte ∧ 8 ≤ (frameTerminal (frameOf .status 8 [])).toNat) ∧
      (frameTerminal (frameOf .status 1 [0]) = terminalByte 1 ∧
        (frameBody (frameOf .status 1 [0])).length ≠ Kind.status.bodyLength) ∧
      ((frameBody (frameOf .grant 1 (List.replicate 20 0))).length = Kind.grant.bodyLength ∧
        allowed .grant (roleFor 1 office) 1 (List.replicate 20 0) = false) ∧
      (let s := officeSys (fun a => { a with terms := initialTerms 0 })
       (frameBody (frameOf .keyList 0 [])).length = Kind.keyList.bodyLength ∧ allowed .keyList (roleFor 0 s) 0 [] =
         true ∧
        shiftFree .keyList = false ∧ rescue .keyList 0 s = false ∧ (s.mem.sys.terms.get 0).shift ≠ .opened) ∧
      ((frameBody (frameOf .clockSet 0 (natBytes 4 3155760000))).length = Kind.clockSet.bodyLength ∧
        allowed .clockSet (roleFor 0 office) 0 (natBytes 4 3155760000) = true ∧
        (office.mem.sys.terms.get 0).shift = .opened ∧ shiftChange 0 office = false ∧
        fieldsInRange .clockSet (natBytes 4 3155760000) = false) ∧
      (shiftFree .shiftOpen = true ∧ fieldsInRange .shiftOpen (natBytes 2 10000) = false) := by
  unfold Sound
  decide +kernel

theorem witness_RequestBodiesReadAsLaidOut :
    99999999999 ≤ 99999999999 ∧ 1 ≤ 5000000 ∧ 16383 ≤ 16383 ∧ 3155759999 ≤ lastReading ∧ 9999 ≤ 9999 ∧ 63 ≤ 63 ∧
      15 ≤ 15 ∧ 7 ≤ 7 ∧ 99999999 ≤ 99999999 ∧ 5000 ≤ 5000 ∧ 1 ≤ 999999 ∧ 4294967295 ≤ 4294967295 ∧
      1 ≤ 100000000 ∧ 255 ≤ 255 ∧ wideEdit.inRange ∧ wideAccount.inRange ∧ wideBank.fits ∧ wideSettings.fits := by
  refine ⟨by decide, by decide, by decide, by decide, by decide, by decide, by decide, by decide, by decide,
    by decide,
    by decide, by decide, by decide, by decide, by simp [AccountEdit.inRange, wideEdit],
    by simp [Account.inRange, wideAccount], by simp [TariffLoadReq.fits, wideBank, Eight.all8, Eight.toList],
    by simp [SettingsChange.fits, wideSettings]⟩

/-! ### Requests answered at once -/

theorem witness_ReadsInEveryServiceState :
    (Sound State.reset ∧ Presents .status 7 7 [] (asking .status 7 [] office)) ∧
      Asks .clockRead 1 7 [] (asking .clockRead 1 [] office) ∧
      Asks .settingsRead 0 7 [] (asking .settingsRead 0 [] office) ∧
      Asks .integrityRead 0 7 [] (asking .integrityRead 0 [] office) :=
  ⟨⟨rfl, presents_asking rfl rfl⟩, asks_asking (by decide), asks_asking (by decide), asks_asking (by decide)⟩

theorem witness_ReadsInService :
    office.mode = .inService ∧ office.setAsides ≤ office.mem.sys.reserve.balance ∧
      (Asks .shiftRead 1 7 [1] (asking .shiftRead 1 [1] office) ∧ parseTarget [1] = some 1) ∧
      Asks .keyList 0 7 [] (asking .keyList 0 [] office) ∧
      (let s := officeSys (fun a => { a with tariffs := { a.tariffs with pending := some (bank17, 5000) } })
       Asks .tariffRead 0 7 [1] (asking .tariffRead 0 [1] s) ∧ parseSelector [1] = some true ∧
        s.mem.sys.tariffs.pending = some (bank17, 5000)) ∧
      (Asks .tariffRead 0 7 [0] (asking .tariffRead 0 [0] shop) ∧ parseSelector [0] = some false ∧
        shop.mem.sys.tariffs.active = some bank17) ∧
      (Asks .tariffRead 0 7 [0] (asking .tariffRead 0 [0] office) ∧ office.mem.sys.tariffs.active = none) ∧
      (Asks .tariffRead 0 7 [1] (asking .tariffRead 0 [1] office) ∧ office.mem.sys.tariffs.pending = none) ∧
      (let s := { office with mode := .outOfService }
       Asks .tariffRead 0 7 [1] (asking .tariffRead 0 [1] s) ∧ s.mode = .outOfService) ∧
      Asks .reserveRead 0 7 [] (asking .reserveRead 0 [] office) :=
  ⟨rfl, by decide, ⟨asks_asking (by decide), by decide⟩, asks_asking (by decide), ⟨asks_asking (by decide), by decide, rfl⟩,
    ⟨asks_asking (by decide), by decide, rfl⟩, ⟨asks_asking (by decide), rfl⟩, ⟨asks_asking (by decide), rfl⟩,
    ⟨asks_asking (by decide), rfl⟩, asks_asking (by decide)⟩

theorem witness_AccountReadGivesRecordOfMonth :
    (let body := natBytes 1 0 ++ natBytes 5 1001
     Asks .accountRead 1 7 body (asking .accountRead 1 body shop) ∧ shop.mode = .inService ∧
      parseAccountRead body = some (.meter 1001) ∧ shop.mem.index.damaged = false ∧
      SMap.find 1001 shop.mem.index.entries = some { slot := 3, kind := .live } ∧
      3 ∉ shop.mem.sys.damage.slots ∧ (shop.mem.accounts.read 3).state ≠ .free) ∧
      (let body := natBytes 1 1 ++ natBytes 5 16383
       Asks .accountRead 1 7 body (asking .accountRead 1 body shop) ∧
        parseAccountRead body = some (.slot 16383) ∧ 16383 ∉ shop.mem.sys.damage.slots ∧
        (shop.mem.accounts.read 16383).state = .free) ∧
      (let body := natBytes 1 1 ++ natBytes 5 4
       let s := officeSys (fun a => { a with damage := { slots := [4], overflow := false } })
       Asks .accountRead 1 7 body (asking .accountRead 1 body s) ∧ s.mode = .inService ∧
        parseAccountRead body = some (.slot 4) ∧ 4 ∈ s.mem.sys.damage.slots) :=
  ⟨⟨asks_asking (by decide), rfl, by decide, rfl, by decide, by decide, by decide⟩,
    ⟨asks_asking (by decide), by decide, by decide, by decide⟩,
    ⟨asks_asking (by decide), rfl, by decide, by decide⟩⟩

/-! ### Requests that queue a record -/

theorem admits_office : Admits office ∧ Admits shop ∧ Serving office ∧ Serving shop :=
  ⟨rfl, rfl, ⟨rfl, rfl⟩, rfl, rfl⟩

theorem witness_OfficeRequestsQueueTheirRecords :
    office.mode = .inService ∧ Admits office ∧
      (let body := natBytes 4 3155759999
       Asks .clockSet 0 7 body (asking .clockSet 0 body office) ∧ parseReading body = some 3155759999 ∧
        clockQueued office = false ∧ office.month ≤ monthOf 3155759999) ∧
      (Asks .terminalSet 0 7 [7, 2] (asking .terminalSet 0 [7, 2] office) ∧
        parseTerminalSet [7, 2] = some (7, .auditor) ∧ (7 : Fin 8) ≠ 0 ∧
        (office.mem.sys.terms.get 7).shift = .closed ∧ shiftChange 7 office = false) ∧
      (let body := natBytes 1 127 ++ List.replicate 28 0xFF
       Asks .settingsSet 0 7 body (asking .settingsSet 0 body office) ∧
        ∃ c, parseSettings body = some c ∧ c.any = true) :=
  ⟨rfl, rfl, ⟨asks_asking (by decide), by decide +kernel, by decide, by decide +kernel⟩,
    ⟨asks_asking (by decide), by decide, by decide, by decide, by decide⟩,
    ⟨asks_asking (by decide +kernel), _, rfl, by decide +kernel⟩⟩

/-- The office with every shift CLOSED, in a service state. -/
def closedUp (mode : ModuleMode) : State :=
  { officeSys (fun a => { a with terms := initialTerms 0 }) with mode := mode }

theorem witness_ShiftRequestsAreTaken :
    (∀ mode, mode = .inService ∨ mode = .outOfService →
      let body := natBytes 2 9999
      Sound (closedUp mode) ∧ Presents .shiftOpen 0 7 body (asking .shiftOpen 0 body (closedUp mode)) ∧
        allowed .shiftOpen (roleFor 0 (closedUp mode)) 0 body = true ∧ parseOperator body = some 9999 ∧
        ((closedUp mode).mem.sys.terms.get 0).shift = .closed ∧ shiftChange 0 (closedUp mode) = false ∧
        Admits (closedUp mode)) ∧
      admission { closedUp .inService with copy := some { head := 11, tail := 5, mark := some { seq := 11, pos :=
        11 } } } =
        some .journalFault ∧
      admission { closedUp .inService with copy := some { head := 4096, tail := 0, mark := none } } =
        some .journalFull ∧
      (Asks .shiftClose 1 7 [1] (asking .shiftClose 1 [1] office) ∧ office.mode = .inService ∧ Admits office ∧
        parseTarget [1] = some 1 ∧ shiftChange 1 office = false ∧ (office.mem.sys.terms.get 1).shift = .opened ∧
        (office.term 1).sale = none ∧ (office.term 1).lookup = none ∧ vendQueued 1 office = false) ∧
      (let s := officeSys (fun a => { a with terms := { a.terms with t1 := { a.terms.t1 with shift :=
        .suspended } } })
       (Asks .shiftClose 0 7 [1] (asking .shiftClose 0 [1] s) ∧ (1 : Fin 8) ≠ 0 ∧
        (s.mem.sys.terms.get 1).shift = .suspended) ∧
       Sound s ∧ Presents .shiftResume 1 7 (natBytes 2 8) (asking .shiftResume 1 (natBytes 2 8) s) ∧
        allowed .shiftResume (roleFor 1 s) 1 (natBytes 2 8) = true ∧ parseOperator (natBytes 2 8) = some 8 ∧
        shiftChange 1 s = false ∧ (s.mem.sys.terms.get 1).operator = 8) := by
  refine ⟨?_, by decide, by decide,
    ⟨asks_asking (by decide), rfl, rfl, by decide, by decide, by decide, by decide, by decide, by decide⟩,
    ⟨asks_asking (by decide), by decide, by decide⟩, rfl, presents_asking rfl rfl, by decide, by decide, by decide,
    by decide⟩
  rintro _ (rfl | rfl) <;>
    exact ⟨rfl, presents_asking rfl rfl, by decide, by decide +kernel, by decide, by decide, rfl⟩

theorem leads_shop : Leads 1001 3 shop := ⟨rfl, by decide, by decide⟩

theorem witness_AccountRequestsQueueTheirRecords :
    (let body := natBytes 5 1002 ++ natBytes 1 63 ++ natBytes 1 15 ++ natBytes 1 7 ++ natBytes 1 1
        ++ natBytes 4 99999999 ++ natBytes 2 5000 ++ natBytes 4 999999
     Asks .accountCreate 0 7 body (asking .accountCreate 0 body shop) ∧
      (∃ a, parseCreate body = some a ∧ a.meter = 1002) ∧ Serving shop ∧ Admits shop ∧
      shop.mem.index.damaged = false ∧ SMap.find 1002 shop.mem.index.entries = none ∧ claimed 1002 shop = false ∧
      shop.mem.index.count + claimedCount shop < 24576 ∧ 0 < 16384 ∧ (shop.mem.accounts.read 0).state = .free ∧
      claimedSlot 0 shop = false ∧ 0 ∉ shop.mem.sys.damage.slots) ∧
      (Serving shop ∧ Admits shop ∧ busy 3 shop = false ∧ Leads 1001 3 shop ∧
        (let body := natBytes 5 1001 ++ natBytes 1 4 ++ natBytes 2 0 ++ natBytes 4 50 ++ natBytes 7 0
         Asks .accountEdit 0 7 body (asking .accountEdit 0 body shop) ∧ ∃ e, parseEdit body = some e ∧ e.1 = 1001) ∧
        (let body := natBytes 5 1001
         Asks .accountClose 0 7 body (asking .accountClose 0 body shop) ∧ parseMeter body = some 1001 ∧
          (shop.mem.accounts.read 3).debt = 0 ∧ Asks .rekey 0 7 body (asking .rekey 0 body shop)) ∧
        (let body := natBytes 5 1001 ++ natBytes 5 1002 ++ natBytes 1 63 ++ natBytes 1 15
         Asks .meterReplace 0 7 body (asking .meterReplace 0 body shop) ∧
          parseReplace body = some { meter := 1001, newMeter := 1002, area := 63, gen := 15 } ∧
          SMap.find 1002 shop.mem.index.entries = none ∧ claimed 1002 shop = false ∧
          shop.mem.index.count + claimedCount shop < 24576)) ∧
      ∀ a : Account, a = Account.blank 0 ∨ a = { Account.blank 0 with state := .active, meter := 1001 } →
        let body := natBytes 2 3 ++ accountImage a
        Asks .accountLoad 0 7 body (asking .accountLoad 0 body shop) ∧ Serving shop ∧ Admits shop ∧
          ∃ r, parseLoad body = some r ∧ r.slot = 3 ∧ r.image.counterMonth ≤ shop.month ∧ r.zeros = true ∧
            busy 3 shop = false ∧
            (r.image.state = .free ∨
              shop.mem.index.damaged = false ∧
                SMap.find r.image.meter shop.mem.index.entries = some { slot := 3, kind := .live } ∧
                claimed r.image.meter shop = false ∧ liveAt 3 shop = true) := by
  refine ⟨⟨asks_asking (by decide +kernel), held (by decide +kernel), ⟨rfl, rfl⟩, rfl, rfl, by decide, by decide,
    by decide, by decide, by decide, by decide, by decide⟩,
    ⟨⟨rfl, rfl⟩, rfl, by decide, leads_shop, ⟨asks_asking (by decide +kernel), held (by decide +kernel)⟩,
    ⟨asks_asking (by decide +kernel), by decide +kernel, by decide, asks_asking (by decide +kernel)⟩,
    ⟨asks_asking (by decide +kernel), by decide +kernel, by decide, by decide, by decide⟩⟩, ?_⟩
  rintro _ (rfl | rfl)
  · exact ⟨asks_asking (by decide +kernel), ⟨rfl, rfl⟩, rfl, held (by decide +kernel)⟩
  · exact ⟨asks_asking (by decide +kernel), ⟨rfl, rfl⟩, rfl, held (by decide +kernel)⟩

theorem witness_IndexRebuildFindsLowestHolder :
    Asks .indexRebuild 0 7 [] (asking .indexRebuild 0 [] shop) ∧ shop.mode = .inService :=
  ⟨asks_asking (by decide), rfl⟩

/-- A KEY_LOAD body for area 5, generation 0, with a check value that agrees. -/
def keyBody : List Byte :=
  [5, 0] ++ natBytes 16 0 ++ natBytes 4 (checkValueOf (openKeyBlock shop.secure.factory.transportKey 0)).toNat

theorem witness_KeyRequestsQueueTheirRecords :
    Serving shop ∧ Admits shop ∧
      (Asks .keyLoad 0 7 keyBody (asking .keyLoad 0 keyBody shop) ∧ shop.secure.tamperLatch = false ∧
        (∃ r, parseKeyLoad keyBody = some r ∧ r.area = 5 ∧ r.gen = 0 ∧
          checkValueOf (openKeyBlock shop.secure.factory.transportKey r.keyBlock) = r.checkValue) ∧
        keySlotOf 5 0 shop.secure.slots = none ∧ keyClaimed 5 0 shop = false ∧ 1 < 16 ∧
        SMap.find 1 shop.secure.slots = none ∧ keySlotClaimed 1 shop = false ∧
        ∀ n < 1, SMap.find n shop.secure.slots ≠ none) ∧
      (Asks .keyRetire 0 7 [12, 3] (asking .keyRetire 0 [12, 3] shop) ∧ parseKeyRetire [12, 3] = some (12, 3) ∧
        (∃ k, keySlotOf 12 3 shop.secure.slots = some (0, k)) ∧ keyClaimed 12 3 shop = false) := by
  refine ⟨⟨rfl, rfl⟩, rfl, ⟨asks_asking (by decide), rfl, ⟨_, rfl, rfl, rfl, ?_⟩, by decide, by decide, by decide,
    by decide, by decide, by decide⟩, ⟨asks_asking (by decide), by decide, ⟨_, rfl⟩, by decide⟩⟩
  have h : fieldNat 18 4 keyBody = (checkValueOf (openKeyBlock shop.secure.factory.transportKey 0)).toNat := by
    have := fieldNat_of ([5, 0] ++ natBytes 16 0) [] 4
      (checkValueOf (openKeyBlock shop.secure.factory.transportKey 0)).toNat (BitVec.isLt _)
    simpa [keyBody] using this
  show checkValueOf (openKeyBlock shop.secure.factory.transportKey (BitVec.ofNat 128 (fieldNat 2 16 keyBody))) =
    BitVec.ofNat 32 (fieldNat 18 4 keyBody)
  rw [h, BitVec.ofNat_toNat, BitVec.setWidth_eq]
  congr 1

/-- The body of a TARIFF_LOAD of bank 17's figures, under a tax rate. -/
def tariffBody (tax : Nat) : List Byte :=
  natBytes 2 tax ++ natBytes 4 500 ++ natBytes 4 5000 ++
    (List.replicate 8 (natBytes 4 0 ++ natBytes 1 2 ++ natBytes 4 500 ++ natBytes 4 10000 ++ natBytes 4 0
      ++ natBytes 4 21000 ++ natBytes 16 0)).flatten

theorem witness_TariffLoadQueuesBank :
    Serving shop ∧ Admits shop ∧
      (Asks .tariffLoad 0 7 (tariffBody 3000) (asking .tariffLoad 0 (tariffBody 3000) shop) ∧
        (∃ r, parseTariffLoad (tariffBody 3000) = some r ∧ bankInvalid r = none) ∧ shop.queue = [] ∧
        (shop.mem.sys.tariffs.lastId + 1) % 256 = 18 ∧ quotedUnder 18 shop = false) ∧
      (Asks .tariffLoad 0 7 (tariffBody 3001) (asking .tariffLoad 0 (tariffBody 3001) shop) ∧
        ∃ r why, parseTariffLoad (tariffBody 3001) = some r ∧ bankInvalid r = some why) :=
  ⟨⟨rfl, rfl⟩, rfl, ⟨asks_asking (by decide +kernel), ⟨_, rfl, by decide +kernel⟩, rfl, by decide, by decide⟩,
    asks_asking (by decide +kernel), _, .badTariff none none 1, rfl, by decide +kernel⟩

/-- The voucher that follows, good in this module. -/
def voucher (number : Nat) : Voucher :=
  { number := number, serial := shop.secure.factory.serial, amount := 100000000
    authority := authorityCode shop.secure.factory number 100000000 }

/-- Its GRANT body. -/
def grantBody (number : Nat) : List Byte :=
  natBytes 4 number ++ natBytes 4 (voucher number).serial.toNat ++ natBytes 4 100000000
    ++ natBytes 8 (voucher number).authority.toNat

theorem parse_grantBody (n : Nat) (h : n < 4294967296) : parseGrant (grantBody n) = some (voucher n) := by
  have e1 : fieldNat 0 4 (grantBody n) = n := by
    simpa [grantBody, List.append_assoc] using fieldNat_of [] (natBytes 4 (voucher n).serial.toNat ++ natBytes 4 100000000
      ++ natBytes 8 (voucher n).authority.toNat) 4 n h
  have e2 : fieldNat 4 4 (grantBody n) = (voucher n).serial.toNat := by
    simpa [grantBody, List.append_assoc] using fieldNat_of (natBytes 4 n) (natBytes 4 100000000
      ++ natBytes 8 (voucher n).authority.toNat) 4 _ (voucher n).serial.isLt
  have e3 : fieldNat 8 4 (grantBody n) = 100000000 := by
    simpa [grantBody, List.append_assoc] using fieldNat_of (natBytes 4 n ++ natBytes 4 (voucher n).serial.toNat)
      (natBytes 8 (voucher n).authority.toNat) 4 100000000 (by decide)
  have e4 : fieldNat 12 8 (grantBody n) = (voucher n).authority.toNat := by
    simpa [grantBody, List.append_assoc] using fieldNat_of (natBytes 4 n ++ natBytes 4 (voucher n).serial.toNat
      ++ natBytes 4 100000000) [] 8 _ (voucher n).authority.isLt
  simp only [parseGrant, e1, e2, e3, e4, BitVec.ofNat_toNat, BitVec.setWidth_eq]
  rfl

theorem witness_GrantQueuesVoucher :
    Serving shop ∧ Admits shop ∧ (∀ n, (voucher n).serial = shop.secure.factory.serial) ∧
      (∀ n, (voucher n).authority = authorityCode shop.secure.factory (voucher n).number (voucher n).amount) ∧
      (Asks .grant 0 7 (grantBody 1) (asking .grant 0 (grantBody 1) shop) ∧
        parseGrant (grantBody 1) = some (voucher 1) ∧ highestVoucher shop.mem.sys.reserve shop < 1 ∧
        prospectiveBalance shop.mem.sys.reserve shop + (voucher 1).amount ≤ 2000000000 ∧
        shop.mem.sys.reserve.totalGranted + queuedGrants shop + (voucher 1).amount ≤ 281474976710655) ∧
      (Asks .grant 0 7 (grantBody 0) (asking .grant 0 (grantBody 0) shop) ∧
        parseGrant (grantBody 0) = some (voucher 0) ∧ 0 ≤ highestVoucher shop.mem.sys.reserve shop) :=
  ⟨⟨rfl, rfl⟩, rfl, fun _ => rfl, fun _ => rfl,
    ⟨asks_asking (by decide), parse_grantBody 1 (by decide), by decide, by decide, by decide⟩,
    ⟨asks_asking (by decide), parse_grantBody 0 (by decide), by decide⟩⟩

/-! ### The sale -/

/-- A QUOTED sale of terminal 1 for slot 3. -/
def quote1 : PendingSale :=
  { state := .quoted, slot := 3, meter := 1001, mode := .sale, tendered := 2000
    result := { tax := 261, recovered := 0, purchased := 173, allowance := 0, carryBefore := 0, carryAfter := 9000,
                monthBefore := 0, monthAfter := 173, allowanceAfter := 0, debtAfter := 0,
                touched := [⟨1, 173, 10000⟩] }
    plan := { keyChange := false, newGen := 3, tokenCount := 1, tokenSeq := 1, revokeDelta := 0, area := 12,
              oldGen := 3 }
    bankId := 17, monthIndex := 0, keyCount := 0, setAside := 173, quoteTime := 1000, expiryTime := 1180, tokens := []
    journalSeq := none, timer := some 0 }

/-- The shop with a sale pending at terminal 1. -/
def selling (p : PendingSale) : State := setSale 1 (some p) { shop with setAsides := p.setAside }

/-- The body of the QUOTE of 2,000 cents for meter 1001. -/
def quoteBody : List Byte := natBytes 5 1001 ++ natBytes 1 0 ++ natBytes 4 2000

theorem witness_QuoteStandsAsPendingSale :
    (∀ s, s = shop ∨ s = selling quote1 →
        Asks .quote 1 7 quoteBody (asking .quote 1 quoteBody s) ∧
          parseQuote quoteBody = some { meter := 1001, mode := .sale, tendered := 2000 } ∧ Serving s ∧
            Leads 1001 3 s ∧
          (∀ p, (s.term 1).sale = some p → p.state = .quoted ∧ p.setAside ≤ s.setAsides) ∧
          (s.mem.accounts.read 3).state = .active ∧ busyForQuote 1 3 s = false ∧
          s.mem.sys.tariffs.active = some bank17 ∧ (bank17.classOf (s.mem.accounts.read 3).tariffClass).blocks ≠ [] ∧
          (∃ plan, keyPlan .sale (s.mem.accounts.read 3) s.secure.slots = .ok plan) ∧
          s.setAsides - ((s.term 1).sale.map (·.setAside)).getD 0 ≤ s.mem.sys.reserve.balance ∧
          (∃ result, compute (creditInputs { meter := 1001, mode := .sale, tendered := 2000 }
            ((s.mem.accounts.read 3).asOf s.month) bank17
            (s.mem.sys.reserve.balance - (s.setAsides - ((s.term 1).sale.map (·.setAside)).getD 0))) = .ok result ∧
            result = quote1.result) ∧ admitRoom s = true) ∧
      (let s := asking .quote 1 quoteBody (selling quote1)
       Sound s ∧ s.line.arrived = [frameOf .quote 1 quoteBody] ∧
        frameKind (frameOf .quote 1 quoteBody) = Kind.quote.byte ∧ s.setAsides = setAsideSum s ∧
        s.setAsides ≤ s.mem.sys.reserve.balance ∧ ∃ u, exec .quote s = .next u) := by
  refine ⟨?_, ⟨rfl, rfl, rfl, by decide, by decide, _, rfl⟩⟩
  rintro _ (rfl | rfl)
  · exact ⟨asks_asking (by decide +kernel), by decide +kernel, ⟨rfl, rfl⟩, leads_shop, by simp [shop, office,
    State.term, State.reset, Eight.get, Eight.all8, TermWork.idleNone],
      by decide, by decide, rfl, by decide, ⟨_, rfl⟩, by decide,
      ⟨quote1.result, by decide +kernel, rfl⟩, by decide⟩
  · refine ⟨asks_asking (by decide +kernel), by decide +kernel, ⟨rfl, rfl⟩, ⟨rfl, by decide, by decide⟩, ?_,
      by decide, by decide, rfl, by decide, ⟨_, rfl⟩, by decide,
      ⟨quote1.result, by decide +kernel, rfl⟩, by decide⟩
    intro p h
    obtain rfl : quote1 = p := Option.some.inj h
    decide

theorem witness_ConfirmCommitsCancelReleases :
    (((selling quote1).term 1).sale = some quote1 ∧ quote1.state = .quoted ∧
      Asks .confirm 1 7 [] (asking .confirm 1 [] (selling quote1)) ∧ (selling quote1).mode = .inService ∧
      (selling quote1).mem.sys.tariffs.active.map (·.id) = some quote1.bankId ∧
      (selling quote1).month = quote1.monthIndex ∧ (selling quote1).secure.counter = quote1.keyCount ∧
      quote1.slot ∉ (selling quote1).mem.sys.damage.slots ∧ Admits (selling quote1) ∧
      quote1.setAside ≤ (selling quote1).setAsides ∧
      Asks .cancel 1 7 [] (asking .cancel 1 [] (selling quote1))) ∧
      ∀ x, x ∈ [({ quote1 with bankId := 16, monthIndex := 1, keyCount := 1 }, StaleCause.bank),
          ({ quote1 with monthIndex := 1, keyCount := 1 }, .month), ({ quote1 with keyCount := 1 }, .keyStore)] →
        ((selling x.1).term 1).sale = some x.1 ∧ x.1.state = .quoted ∧
          Asks .confirm 1 7 [] (asking .confirm 1 [] (selling x.1)) ∧
          (if (selling x.1).mem.sys.tariffs.active.map (·.id) ≠ some x.1.bankId then some StaleCause.bank
            else if (selling x.1).month ≠ x.1.monthIndex then some .month
            else if (selling x.1).secure.counter ≠ x.1.keyCount then some .keyStore
            else none) = some x.2 ∧
          x.1.setAside ≤ (selling x.1).setAsides := by
  refine ⟨⟨rfl, rfl, asks_asking (by decide), rfl, by decide, by decide, by decide, by decide, rfl, by decide,
    asks_asking (by decide)⟩, ?_⟩
  simp only [List.mem_cons, List.not_mem_nil, or_false]
  rintro _ (rfl | rfl | rfl) <;> exact ⟨rfl, rfl, asks_asking (by decide), by decide, by decide⟩

theorem witness_ReissueAndReverseBeginLookup :
    let l : LastSale := { seq := 6, time := 900, tokenSeq := 1, reversed := false, keyChange := false, reissues := 0 }
    let body := natBytes 5 1001
    Serving shop ∧ parseMeter body = some 1001 ∧ Leads 1001 3 shop ∧ (shop.term 0).lookup = none ∧
      (shop.mem.accounts.read 3).lastSale = some l ∧ l.reversed = false ∧ busy 3 shop = false ∧
      shop.copy = some { head := 11, tail := 5, mark := none } ∧ 5 ≤ l.seq ∧ l.seq < 11 ∧
      (Asks .reissue 0 7 body (asking .reissue 0 body shop) ∧ l.reissues < shop.mem.sys.settings.reissueLimit) ∧
      Asks .reverse 0 7 body (asking .reverse 0 body shop) ∧ shop.mem.sys.settings.reversalWindow ≠ 0 ∧
      shop.clock.reading - l.time ≤ shop.mem.sys.settings.reversalWindow * 60 ∧ l.keyChange = false ∧
      shop.month = monthOf l.time :=
  ⟨⟨rfl, rfl⟩, by decide +kernel, leads_shop, by decide, by decide, rfl, by decide, rfl, by decide, by decide,
    ⟨asks_asking (by decide +kernel), by decide⟩, asks_asking (by decide +kernel), by decide, by decide, rfl,
      by decide⟩

/-! ### The journal, memory and tamper requests -/

/-- The shop with a FAULTED journal. -/
def faulty : State :=
  { shop with
    copy := some { head := 11, tail := 5, mark := some { seq := 11, pos := 11 } }
    mem := { shop.mem with sys := { shop.mem.sys with mark := some { seq := 11, pos := 11 }, cause := .pollLimit } } }

theorem witness_JournalIntegrityTamperRequestsAreTaken :
    ((shop.copy = some { head := 11, tail := 5, mark := none } ∧ shop.mode = .inService ∧
        Asks .integrityClear 0 7 [] (asking .integrityClear 0 [] shop)) ∧
        (∀ m, m = 5 ∨ m = 10 →
          let read := natBytes 4 m ++ natBytes 1 3
          let release := natBytes 4 m
          Asks .journalRead 0 7 read (asking .journalRead 0 read shop) ∧ parseJournalRead read = some (m, 3) ∧ 1 ≤ 3 ∧
            (shop.term 0).lookup = none ∧ 5 ≤ m ∧ m < 11 ∧
            Asks .journalRelease 0 7 release (asking .journalRelease 0 release shop) ∧ parseRelease release =
              some m) ∧
        Asks .journalRetry 0 7 [] (asking .journalRetry 0 [] faulty) ∧ faulty.mode = .inService ∧
        (faulty.copy.bind (·.mark)) = some { seq := 11, pos := 11 } ∧ faulty.retry = none) ∧
      ∀ open_, open_ = true ∨ open_ = false →
        let s := { office with enclosureOpen := open_ }
        Asks .tamperClear 0 7 [] (asking .tamperClear 0 [] s) ∧ s.enclosureOpen = open_ ∧ s.secure.tamperLatch =
          false := by
  constructor
  · refine ⟨⟨rfl, rfl, asks_asking (by decide)⟩, ?_, asks_asking (by decide), rfl, rfl, rfl⟩
    rintro _ (rfl | rfl) <;>
      exact ⟨asks_asking (by decide +kernel), by decide +kernel, by decide, by decide, by decide, by decide,
        asks_asking (by decide +kernel), by decide +kernel⟩
  · rintro _ (rfl | rfl) <;> exact ⟨asks_asking (by decide), rfl, rfl⟩

theorem witness_InitialiseIsAccepted :
    (let s := { closedUp .outOfService with copy := none }
     Sound s ∧ Presents .initialise 0 7 [] (asking .initialise 0 [] s) ∧ roleFor 0 s = .supervisor ∧
      s.mode = .outOfService ∧ s.copy = none) ∧
      (Sound faulty ∧ Presents .initialise 0 7 [] (asking .initialise 0 [] faulty) ∧ roleFor 0 faulty = .supervisor ∧
        (faulty.mem.sys.terms.get 0).shift = .opened ∧ shiftChange 0 faulty = false ∧
        ∃ c k, faulty.copy = some c ∧ c.mark = some k ∧ k.seq ≤ 4294967295) ∧
      ∀ tail, tail = 1 ∨ tail = 0 →
        let s := { shop with copy := some { head := 4096, tail := tail, mark := none } }
        Sound s ∧ Presents .initialise 0 7 [] (asking .initialise 0 [] s) ∧ roleFor 0 s = .supervisor ∧
          (s.mem.sys.terms.get 0).shift = .opened ∧ shiftChange 0 s = false ∧ s.queue.length < 8 ∧
          4096 + s.queue.length ≤ 4294967295 ∧
          (tail = 1 ∧ 4096 - tail + s.queue.length < 4096 ∨ tail = 0 ∧ 4096 ≤ 4096 - tail + s.queue.length) := by
  refine ⟨⟨rfl, presents_asking rfl rfl, rfl, rfl, rfl⟩,
    ⟨rfl, presents_asking rfl rfl, rfl, by decide, by decide, _, _, rfl, rfl, by decide⟩, ?_⟩
  rintro _ (rfl | rfl) <;>
    exact ⟨rfl, presents_asking rfl rfl, rfl, by decide, by decide, by decide, by decide, by decide⟩

/-! ### The events of time -/

/-- The shop with the scrub timer run out at a position, and words disturbed. -/
def scrubbing (pos : Nat) (ecc : SMap Disturb) : State :=
  { shop with scrub := { pos := pos, timer := some 0 }, mem := { shop.mem with ecc := ecc } }

/-- A word with bit 71, the last, in error. -/
def single71 : Disturb := { wrong := 1#72 <<< 71, found := false }

/-- A word with bits 0 and 71 in error. -/
def double : Disturb := { wrong := 1#72 ||| 1#72 <<< 71, found := false }

/-- A word with one bit in error has that bit corrected, and one with two yields no data (R143). -/
theorem disturbed_words :
    wordOutcome single71.syndrome = .corrected 71 ∧ wordOutcome double.syndrome = .uncorrectable :=
  ⟨wordOutcome_single (by decide +kernel), wordOutcome_double (b := 0) (c := 71) (by decide +kernel)⟩

/-- Two single errors that come one after the other to a word not read between them are two bits in error (R143). -/
theorem test_bits_gather : disturbWord (disturbWord [] (24, 1#72)) (24, 1#72 <<< 71) = [(24, double)] := by
  decide +kernel

theorem witness_SecondStepAdvancesReading :
    (let s := { office with powered := false, clock := { office.clock with reading := 3155759999 } }
     s.powered = false ∧ ¬ s.clock.reading < 3155759999) ∧
      (let s := { office with clock := { office.clock with reading := 3155759998, alarm := some 3155759999 } }
       s.powered = true ∧ s.clock.reading < 3155759999) ∧
      (let s := scrubbing 0 [(24, single71), (25, { double with found := true })]
       1#72 ≠ 0#72 ∧ SMap.find 23 s.mem.ecc = none ∧ SMap.find 24 s.mem.ecc = some single71 ∧
        single71.found = false ∧ SMap.find 25 s.mem.ecc = some { double with found := true } ∧
        wordOutcome ({ double with found := true } : Disturb).syndrome = .uncorrectable) ∧
      1199 < 1200 ∧ 3155759999 ≤ lastReading ∧ 0 ≤ 3155759999 :=
  ⟨by decide, by decide, ⟨by decide, rfl, rfl, rfl, rfl, disturbed_words.2⟩, by decide, by decide, by decide⟩

theorem witness_TimersRunOut :
    ((selling quote1).powered = true ∧ ((selling quote1).term 1).sale = some quote1 ∧ quote1.state = .quoted ∧
      quote1.timer = some 0 ∧ quote1.setAside ≤ (selling quote1).setAsides) ∧
      (let s := setIdle 1 (.running 0) shop
       Sound s ∧ starting s = false ∧ (s.term 1).idle = .running 0 ∧
        ∀ p, (s.term 1).sale = some p → p.state = .committing) ∧
      (let s := setIdle 1 (.running 0) (selling quote1)
       Sound s ∧ starting s = false ∧ (s.term 1).idle = .running 0 ∧ (s.term 1).sale = some quote1 ∧
        quote1.setAside ≤ s.setAsides) :=
  ⟨⟨rfl, rfl, rfl, rfl, by decide⟩, ⟨rfl, rfl, rfl, nofun⟩, rfl, rfl, rfl, rfl, by decide⟩

theorem witness_TariffBanksSwitch :
    (let s := { officeSys (fun a => { a with tariffs := { a.tariffs with pending := some (bank17, 1000) } }) with
        clock := { office.clock with tariffRaised := true } }
     Sound s ∧ s.powered = true ∧ s.clock.tariffRaised = true ∧ s.mem.sys.tariffs.pending = some (bank17, 1000) ∧
      1000 ≤ s.clock.reading) ∧
      (let s := { officeSys (fun a => { a with tariffs := { a.tariffs with pending := some (bank17, 1001) } }) with
          clock := { office.clock with tariffRaised := true } }
       ∀ b eff, s.mem.sys.tariffs.pending = some (b, eff) → s.clock.reading < eff) ∧
      shop.mem.sys.tariffs.lastApplied < 11 ∧ shop.clock.reading < 1001 ∧ 1000 ≤ shop.clock.reading :=
  ⟨⟨rfl, rfl, rfl, rfl, by decide⟩, fun b eff h => (by cases h; decide), by decide, by decide, by decide⟩

theorem witness_ScrubEventReadsItsWord :
    (∀ pos, pos = 0 ∨ pos = 262143 →
      (scrubbing pos []).powered = true ∧ starting (scrubbing pos []) = false ∧
        (scrubbing pos []).scrub.timer = some 0 ∧ (scrubbing pos []).scrub.pos < 262144 ∧ Sound (scrubbing pos [])) ∧
      (∀ pos, pos ∈ [0, 131071, 131072, 184319, 184320, 262143] → ∀ d : Disturb,
        let s := scrubbing pos [(pos, d)]
        s.powered = true ∧ starting s = false ∧ s.scrub.timer = some 0 ∧ s.scrub.pos = pos ∧
          s.mem.ecc = [(pos, d)] ∧ busy (pos / 8) s = false ∧ pos / 8 ∉ s.mem.sys.damage.slots ∧
          pos < 262144 ∧ (pos < 131072 ∨ 131072 ≤ pos ∧ pos < 184320 ∨ 184320 ≤ pos)) ∧
      (∀ last, last = 30 ∨ last = 31 →
        let s := { (scrubbing 0 []) with mem := { shop.mem with sys := { shop.mem.sys with
          damage := { slots := List.range' 1 (last + 1), overflow := false } } } }
        (last = 30 ∧ s.mem.sys.damage.slots.length < 32 ∨ last = 31 ∧ ¬ s.mem.sys.damage.slots.length < 32) ∧
          0 ∉ s.mem.sys.damage.slots ∧ 24 / 8 ∈ s.mem.sys.damage.slots) ∧
      wordOutcome single71.syndrome = .corrected 71 ∧ wordOutcome double.syndrome = .uncorrectable ∧
      busy (24 / 8) (selling quote1) = true :=
  ⟨by rintro _ (rfl | rfl) <;> exact ⟨rfl, rfl, rfl, by decide, rfl⟩,
    fun pos h d => by
      simp only [List.mem_cons, List.not_mem_nil, or_false] at h
      rcases h with rfl | rfl | rfl | rfl | rfl | rfl <;>
        exact ⟨rfl, rfl, rfl, rfl, rfl, rfl, List.not_mem_nil, by decide, by decide⟩,
    by rintro _ (rfl | rfl) <;> exact ⟨by decide, by decide, by decide⟩, disturbed_words.1, disturbed_words.2,
      by decide⟩

/-! ### The journal's writes and reads -/

/-- A record of a CLOCK_SET, and its entry of the queue. -/
def clockRecord : Record :=
  { head := { seq := 11, time := 1000, terminal := 0, shiftNo := 1, operator := 7 }, body := .clock 2000 }

/-- The entry of the write queue that holds it. -/
def clockEntry : QueueEntry :=
  { record := clockRecord, owner := some { terminal := 0, tag := 7 }, replyDue := true, figures := .none }

/-- A JOURNAL_RETRY waiting. -/
def retry1 : RetryWork := { terminal := 0, tag := 7, time := 1000, shiftNo := 1, operator := 7, replyDue := true }

/-- A lookup of sequence 6 waiting, its sale of slot 3. -/
def lookup1 (kind : VendKind) : VendLookup :=
  { kind := kind, tag := 7, slot := 3, seq := 6, time := 1000, replyDue := true }

/-- A JOURNAL_READ of three records from sequence 9. -/
def read1 : JournalReadWork := { tag := 7, start := 9, count := 3, replyDue := true }

/-- An INITIALISE waiting for its write outside the queue. -/
def init1 : InitWork :=
  { terminal := 0, tag := 7, time := 1000, shiftNo := 1, operator := 7, replyDue := true, wasInService := true
    outside := true, released := none }

/-- The shop with the oldest read of the journal waiting. -/
def waiting (l : Lookup) : State := { setLookup 0 (some l) shop with reads := [0] }

theorem witness_ArbiterGrantsInOrder :
    (let s := { shop with copy := none, init := some init1 }
     s.powered = true ∧ s.bus = none ∧ s.copy = none ∧ s.retry = none ∧ s.init = some init1 ∧ init1.outside = true ∧
      highestSeq [] s.device ≠ 4294967295) ∧
      (let s := { shop with queue := [clockEntry] }
       s.copy = some { head := 11, tail := 5, mark := none } ∧ s.queue = [clockEntry]) ∧
      (let s := { faulty with retry := some retry1 }
       s.copy = some { head := 11, tail := 5, mark := some { seq := 11, pos := 11 } } ∧ s.retry = some retry1 ∧
        Sound s) ∧
      (let s := { faulty with init := some init1 }
       s.retry = none ∧ s.copy = some { head := 11, tail := 5, mark := some { seq := 11, pos := 11 } } ∧
        s.init = some init1) ∧
      (let s := { shop with init := some init1 }
       s.retry = none ∧ s.queue = [] ∧ s.copy = some { head := 11, tail := 5, mark := none } ∧ 11 ≤ 4294967295 ∧
        11 - 5 < 4096) ∧
      (let s := { shop with init := some init1, copy := some { head := 4101, tail := 5, mark := none } }
       s.retry = none ∧ s.queue = [] ∧ s.copy = some { head := 4101, tail := 5, mark := none } ∧
        4101 ≤ 4294967295 ∧ 4096 ≤ 4101 - 5 ∧ Sound s) ∧
      (shop.queue = [] ∧ shop.retry = none ∧ shop.init = none ∧ shop.reads = []) ∧
      (∀ seq, seq ∈ [5, 10, 4, 11] →
        let v : VendLookup := { lookup1 .reissue with seq := seq }
        (waiting (.vend v)).reads = [0] ∧ ((waiting (.vend v)).term 0).lookup = some (.vend v) ∧
          (waiting (.vend v)).copy = some { head := 11, tail := 5, mark := none } ∧ Sound (waiting (.vend v)) ∧
          (5 ≤ v.seq ∧ v.seq < 11 ∨ v.seq < 5 ∨ 11 ≤ v.seq)) ∧
      ∀ start, start ∈ [5, 10, 4, 11] →
        let w : JournalReadWork := { read1 with start := start }
        (waiting (.journalRead w)).reads = [0] ∧ ((waiting (.journalRead w)).term 0).lookup = some (.journalRead w) ∧
          Sound (waiting (.journalRead w)) ∧ (5 ≤ w.start ∧ w.start < 11 ∨ w.start < 5 ∨ 11 ≤ w.start) := by
  refine ⟨⟨rfl, rfl, rfl, rfl, rfl, rfl, by decide +kernel⟩, ⟨rfl, rfl⟩, ⟨rfl, rfl, rfl⟩, ⟨rfl, rfl, rfl⟩,
    ⟨rfl, rfl, rfl, by decide, by decide⟩, ⟨rfl, rfl, rfl, by decide, by decide, rfl⟩, ⟨rfl, rfl, rfl, rfl⟩, ?_, ?_⟩
  · intro seq h
    exact ⟨rfl, rfl, rfl, rfl, by revert h; simp; omega⟩
  · intro seq h
    exact ⟨rfl, rfl, rfl, by revert h; simp; omega⟩

/-- A write of the clock record in hand. -/
def writing (job : WriteJob) (second : Bool) (phase : WritePhase) : State :=
  { shop with
    bus := some (.write { job := job, record := clockRecord, pos := 11, secondAttempt := second, phase := phase })
    queue := [clockEntry]
    device := [(11, .record clockRecord)] }

theorem witness_RecordWriteTakesItsSteps :
    ∀ phase, phase = .sending ∨ phase = .programming 20 ∨ phase = .recovering 20 →
      (writing .entry false phase).powered = true ∧
        (writing .entry false phase).bus = some (.write
          { job := .entry, record := clockRecord, pos := 11, secondAttempt := false, phase := phase }) :=
  fun _ _ => ⟨rfl, rfl⟩

/-- The queued entry of the sale that terminal 1 has confirmed. -/
def saleEntry : QueueEntry :=
  { record := { head := { seq := 11, time := 1000, terminal := 1, shiftNo := 2, operator := 8 }
                body := .sale { slot := 3, meter := 1001, tendered := 2000, tax := 261, recovered := 0,
                                purchased := 173, allowance := 0, carryBefore := 0, carryAfter := 9000,
                                monthBefore := 0, tokenCount := 1, tokenSeq := 1, keyChange := false, newGen := 3,
                                revokeDelta := 0, touched := [⟨1, 173, 10000⟩], ciphers := [5] } }
    owner := some { terminal := 1, tag := 7 }, replyDue := true, figures := .none }

/-- That sale, COMMITTING. -/
def committing1 : PendingSale := { quote1 with state := .committing, journalSeq := some 11, timer := none }

/-- The writes of the clock record that their next event fails: by the poll limit, an unacknowledged read-back, or a
second refusal. -/
def failing : List (Bool × WritePhase) :=
  [(false, .programming 0), (true, .recovering 0), (false, .readBack), (true, .sending)]

/-- What makes such a write fail. -/
def Fails (job : WriteJob) (x : Bool × WritePhase) : Prop :=
  ∃ w : BusWrite, (writing job x.1 x.2).bus = some (.write w) ∧ w.job = job ∧
    ((w.phase = .programming 0 ∨ w.phase = .recovering 0) ∨
      (w.phase = .readBack ∧ readBackPasses w.record w.pos .noAck (writing job x.1 x.2).device = false) ∨
      (w.phase = .sending ∧ w.secondAttempt = true))

theorem failing_fails (job : WriteJob) : ∀ x ∈ failing, Fails job x := by
  intro x h
  simp only [failing, List.mem_cons, List.not_mem_nil, or_false] at h
  rcases h with rfl | rfl | rfl | rfl <;> refine ⟨_, rfl, rfl, ?_⟩
  · exact .inl (.inl rfl)
  · exact .inl (.inr rfl)
  · exact .inr (.inl ⟨rfl, rfl⟩)
  · exact .inr (.inr ⟨rfl, rfl⟩)

theorem witness_WriteFaultAnswersEveryEntry :
    (∀ x ∈ failing, Fails .entry x) ∧
      (∀ second phase, Sound (writing .entry second phase) ∧ (writing .entry second phase).powered = true ∧
      (writing .entry second phase).copy = some { head := 11, tail := 5, mark := none } ∧
      starting (writing .entry second phase) = false ∧ ∀ k, clockEntry.record.body ≠ .init k) ∧
      (let s := { selling committing1 with queue := [saleEntry] }
       (s.term 1).sale = some committing1 ∧ committing1.state = .committing ∧ saleEntry ∈ s.queue ∧
        saleEntry.record.head.terminal = (1 : Fin 8).val ∧ committing1.journalSeq = some saleEntry.record.head.seq ∧
        (∃ b, saleEntry.record.body = .sale b) ∧ s.setAsides = setAsideSum s) ∧
      (let s := { writing .entry true .sending with
          queue := [{ clockEntry with record := { clockRecord with body := .init .initialise } }], init := some init1 }
       s.init = some init1 ∧ ∃ e ∈ s.queue, ∃ k, e.record.body = .init k) :=
  ⟨failing_fails .entry, fun _ _ => ⟨rfl, rfl, rfl, rfl, nofun⟩,
    ⟨rfl, rfl, List.mem_singleton_self _, rfl, rfl, ⟨_, rfl⟩, by decide⟩,
    rfl, _, List.mem_singleton_self _, _, rfl⟩

theorem witness_WriteFaultsOutsideQueue :
    (∀ job, ∀ x ∈ failing, Fails job x) ∧
      (∀ job second phase, Sound (writing job second phase) ∧ (writing job second phase).powered = true ∧
      (writing job second phase).copy = some { head := 11, tail := 5, mark := none }) ∧
      (let s := { writing .initOutside true .sending with init := some init1 }
       s.init = some init1 ∧ init1.outside = true ∧ init1.replyDue = true) ∧
      (let s := { writing .retryVoid true .sending with retry := some retry1 }
       s.retry = some retry1 ∧ retry1.replyDue = true) :=
  ⟨failing_fails, fun _ _ _ => ⟨rfl, rfl, rfl⟩,
    ⟨rfl, rfl, rfl⟩, rfl, rfl⟩

theorem witness_ReadBackCompletes :
    (∀ job, job ∈ [WriteJob.entry, .initOutside, .memoryLossInit] →
      let s := { writing job false .readBack with init := some init1 }
      let w : BusWrite := { job := job, record := clockRecord, pos := 11, secondAttempt := false, phase := .readBack }
      Sound s ∧ s.powered = true ∧ s.bus = some (.write w) ∧ s.copy = some { head := 11, tail := 5, mark := none } ∧
        readBackPasses w.record w.pos .held s.device = true ∧ s.queue = [clockEntry] ∧ s.init = some init1) ∧
      (∀ k, clockEntry.record.body ≠ .init k) ∧
      (∀ due, let r : RetryWork := { retry1 with replyDue := due }
       let s := { faulty with
          bus := some (.write { job := .retryVoid, record := clockRecord, pos := 11, secondAttempt := false,
                                phase := .readBack })
          retry := some r, device := [(11, .record clockRecord)] }
       Sound s ∧ s.powered = true ∧ s.retry = some r ∧ readBackPasses clockRecord 11 .held s.device = true) :=
  ⟨fun _ _ => ⟨rfl, rfl, rfl, rfl,
    (by decide : readBackPasses clockRecord 11 .held [(11, .record clockRecord)] = true), rfl, rfl⟩, nofun,
    fun _ => ⟨rfl, rfl, rfl,
      (by decide : readBackPasses clockRecord 11 .held [(11, .record clockRecord)] = true)⟩⟩

/-- The SALE record of sequence 6. -/
def saleRecord6 : Record :=
  { head := { seq := 6, time := 900, terminal := 1, shiftNo := 2, operator := 8 }
    body := .sale { slot := 3, meter := 1001, tendered := 2000, tax := 261, recovered := 0, purchased := 173,
                    allowance := 0, carryBefore := 0, carryAfter := 9000, monthBefore := 0, tokenCount := 1,
                    tokenSeq := 1, keyChange := false, newGen := 3, revokeDelta := 0, touched := [⟨1, 173, 10000⟩],
                    ciphers := [5] } }

/-- The shop with that record on the device and a lookup of it in hand. -/
def looking (kind : VendKind) : State :=
  { setLookup 0 (some (.vend (lookup1 kind))) shop with bus := some (.lookup 0), device := [(6,
    .record saleRecord6)] }

theorem found_looking (kind : VendKind) : ReadsAs .held (6 % 4096) (looking kind).device saleRecord6 :=
  .inl ⟨rfl, rfl⟩

theorem witness_ReadsEnd :
    (∀ kind, kind = VendKind.reissue ∨ kind = .reverse →
      Sound (looking kind) ∧ (looking kind).powered = true ∧ (looking kind).bus = some (.lookup 0) ∧
        ((looking kind).term 0).lookup = some (.vend (lookup1 kind)) ∧
        (∃ b, (∃ r, ReadsAs .held ((lookup1 kind).seq % 4096) (looking kind).device r ∧
          r.head.seq = (lookup1 kind).seq ∧ r.body = .sale b ∧ b.slot = (lookup1 kind).slot) ∧
          prospectiveBalance (looking kind).mem.sys.reserve (looking kind) + (b.purchased + b.allowance) ≤ 2000000000) ∧
        3 ∉ (looking kind).mem.sys.damage.slots ∧
        (∃ l, ((looking kind).mem.accounts.read 3).lastSale = some l ∧ l.reversed = false ∧ l.seq = 6 ∧
          l.reissues < (looking kind).mem.sys.settings.reissueLimit ∧ l.keyChange = false ∧
          ((looking kind).mem.accounts.read 3).counterMonth = monthOf l.time) ∧
        busy 3 (looking kind) = false ∧ Admits (looking kind)) ∧
      (∀ kind b, ¬ ∃ r, ReadsAs .noAck ((lookup1 kind).seq % 4096) (looking kind).device r ∧
        r.head.seq = (lookup1 kind).seq ∧ r.body = .sale b ∧ b.slot = (lookup1 kind).slot) ∧
      (let s := { setLookup 0 (some (.journalRead read1)) shop with bus := some (.journalRead 0 10) }
       s.bus = some (.journalRead 0 10) ∧ (s.term 0).lookup = some (.journalRead read1)) := by
  refine ⟨?_, ?_, rfl, rfl⟩
  · rintro _ (rfl | rfl) <;>
      exact ⟨rfl, rfl, rfl, rfl, ⟨_, ⟨saleRecord6, found_looking _, rfl, rfl, rfl⟩, by decide⟩, by decide,
        held (by decide +kernel), by decide, rfl⟩
  · rintro kind b ⟨r, (⟨h, -⟩ | ⟨x, h | ⟨h, -⟩, -⟩), -⟩ <;> exact absurd h nofun

/-! ### Supply, start-up, tamper -/

theorem witness_SupplyAndEnclosure :
    (shop.powered = true ∧ (∀ w, shop.bus ≠ some (.write w)) ∧ Sound shop ∧ shop.mem.sys.signature ≠ none ∧
      shop.mem.sys.mark = none ∧ shop.enclosureOpen = false) ∧
      (Sound faulty ∧ faulty.mem.sys.signature ≠ none ∧ faulty.mem.sys.mark = some { seq := 11, pos := 11 }) ∧
      (∀ phase, phase ∈ [WritePhase.sending, .programming 0, .recovering 0, .readBack] →
        let s := writing .entry false phase
        let w : BusWrite := { job := .entry, record := clockRecord, pos := 11, secondAttempt := false, phase :=
          phase }
        s.powered = true ∧ s.bus = some (.write w) ∧ Sound s ∧ s.mem.sys.signature ≠ none ∧ s.mem.sys.mark = none ∧
          ((w.phase = .sending ∨ w.phase = .readBack) ∨ ∃ n, w.phase = .programming n ∨ w.phase = .recovering n)) ∧
      (Sound State.reset ∧ State.reset.mem.sys.signature = none) ∧
      (let s := { shop with powered := false }
       s.enclosureOpen = false ∧ s.powered = false) :=
  ⟨⟨rfl, fun w => by simp [shop, office], rfl, by simp [shop, office, State.reset], rfl, rfl⟩,
    ⟨rfl, by simp [faulty, shop, office, State.reset], rfl⟩,
    fun phase h => ⟨rfl, rfl, rfl, by simp [writing, shop, office, State.reset], rfl, by
      simp only [List.mem_cons, List.not_mem_nil, or_false] at h
      rcases h with rfl | rfl | rfl | rfl <;> simp⟩,
    ⟨rfl, rfl⟩, rfl, rfl⟩

/-- The shop STARTING, with pages on the device. -/
def scanning (p : BootPhase) (device : SMap Page) : State :=
  { shop with mode := .starting p, bus := some .scan, device := device }

/-- The clock record as the one before the head. -/
def pastRecord : Record := { clockRecord with head := { clockRecord.head with seq := 10 } }

/-- 124 bytes of ones. -/
def ones : List Byte := List.replicate 124 0xFF#8

/-- A page whose stored CRC is one more than that of the 124 bytes before it. -/
def spoilt : List Byte := ones ++ natBytes 4 ((crc32 ones).toNat + 1)

theorem crc_spoilt : crcGood spoilt = false := by
  have h : ones.length = 124 := List.length_replicate
  simp only [crcGood, spoilt, List.drop_left' h, List.take_left' h, beq_eq_false_iff_ne]
  intro e
  have := congrArg beNat e
  rw [beNat_natBytes, beNat_natBytes] at this
  omega

theorem reads_spoilt {pos : Nat} {device : SMap Page} {r : Record} : ¬ ReadsAs (.bytes spoilt) pos device r := by
  rintro (⟨h, -⟩ | ⟨b, h | ⟨h, -⟩, hc, -⟩)
  · exact absurd h nofun
  · cases h
    simp [crc_spoilt] at hc
  · exact absurd h nofun

theorem witness_RollForwardReadsTheJournal :
    (∀ again : Bool,
      let s := scanning (.lastRecord again) [(10, .record pastRecord)]
      Sound s ∧ s.powered = true ∧ s.copy = some { head := 11, tail := 5, mark := none } ∧
        s.mode = .starting (.lastRecord again) ∧ ReadsAs .held ((11 - 1) % 4096) s.device pastRecord ∧
        pastRecord.head.seq = 11 - 1 ∧ ReadGot.bytes spoilt ≠ .noAck ∧
        ∀ r, ReadsAs (.bytes spoilt) ((11 - 1) % 4096) s.device r → r.head.seq ≠ 11 - 1) ∧
      (∀ again : Bool,
        let s := scanning (.scan again) [(11, .record clockRecord)]
        Sound s ∧ s.powered = true ∧ s.copy = some { head := 11, tail := 5, mark := none } ∧
          s.mode = .starting (.scan again) ∧ ReadsAs .held (11 % 4096) s.device clockRecord ∧
          clockRecord.head.seq = 11 ∧ (∀ k, clockRecord.body ≠ .init k) ∧
          ∀ r, ReadsAs (.bytes spoilt) (11 % 4096) s.device r → r.head.seq ≠ 11) ∧
      (let s := scanning (.scan false) []
       ∀ r, ReadsAs .held (11 % 4096) s.device r → r.head.seq ≠ 11) ∧
      (let s := scanning (.scan false) [(11, .record pastRecord)]
       ReadsAs .held (11 % 4096) s.device pastRecord ∧ pastRecord.head.seq ≠ 11) :=
  ⟨fun _ => ⟨rfl, rfl, rfl, rfl, .inl ⟨rfl, rfl⟩, rfl, nofun, fun _ h => absurd h reads_spoilt⟩,
    fun _ => ⟨rfl, rfl, rfl, rfl, .inl ⟨rfl, rfl⟩, rfl, nofun, fun _ h => absurd h reads_spoilt⟩,
    fun _ h => by rcases h with ⟨-, h⟩ | ⟨_, h | ⟨-, h⟩, -⟩ <;> exact absurd h nofun,
    .inl ⟨rfl, rfl⟩, by decide⟩

theorem witness_StartUpBeginsAndEnds :
    (Sound State.reset ∧ State.reset.powered = true ∧ State.reset.mode = .starting .memoryLoss ∧
      State.reset.bus = some .scan ∧ highestSeq [] State.reset.device ≠ 4294967295) ∧
      (let last : Record := { clockRecord with head := { clockRecord.head with seq := 4294967295 } }
       let s := { State.reset with device := [(0, .record last)] }
       Sound s ∧ s.mode = .starting .memoryLoss ∧ s.bus = some .scan ∧ highestSeq [] s.device = 4294967295) ∧
      (∀ phase, phase = WritePhase.readBack ∨ phase = .sending →
        let w : BusWrite := { job := .startUpVoid, record := clockRecord, pos := 11, secondAttempt := false,
                              phase := phase }
        let s := { scanning .startUpVoid [(11, .record clockRecord)] with bus := some (.write w) }
        Sound s ∧ s.powered = true ∧ s.bus = some (.write w) ∧ w.job = .startUpVoid ∧
          s.copy = some { head := 11, tail := 5, mark := none } ∧ (w.phase = .readBack ∨ w.phase = .sending) ∧
          w.secondAttempt = false ∧ readBackPasses w.record w.pos .held s.device = true ∧
          readBackPasses w.record w.pos .noAck s.device = false) ∧
      (scanning (.scan false) []).mem.sys.tariffs.pending = none ∧
      ∀ eff, eff = 1001 ∨ eff = 1000 →
        let s := officeSys (fun a => { a with tariffs := { a.tariffs with pending := some (bank17, eff) } })
        Sound s ∧ s.mem.sys.tariffs.pending = some (bank17, eff) ∧
          (eff = 1001 ∧ s.clock.reading < eff ∨ eff = 1000 ∧ eff ≤ s.clock.reading) := by
  refine ⟨⟨rfl, rfl, rfl, rfl, by decide +kernel⟩, ⟨rfl, rfl, rfl, by decide +kernel⟩, ?_, rfl, ?_⟩
  · intro phase h
    exact ⟨rfl, rfl, rfl, rfl, rfl, h, rfl, by
      show readBackPasses clockRecord 11 .held [(11, .record clockRecord)] = true; decide, rfl⟩
  · rintro _ (rfl | rfl) <;> exact ⟨rfl, rfl, by decide⟩

/-! ### The effects of records, and the computations -/

/-- The shop at a later hour, its account with debt, units of the month and allowance, units issued, and a committing
sale of sequence 11 at terminal 1. -/
def completing : State :=
  setSale 1 (some committing1)
    { shop with
      setAsides := 173
      mem := { shop.mem with
        accounts := { eraApplied := 0, cells := [(3, { holder with debt := 2000, monthUnits := 173,
                                                                   allowanceIssued := 50 })] }
        sys := { shop.mem.sys with reserve := { shop.mem.sys.reserve with totalGranted := 250223, totalIssued :=
          223 } } } }

theorem witness_VendRecordsWriteTheirEffects :
    let s := completing
    let h : RecordHead := { seq := 11, time := 1000, terminal := 1, shiftNo := 2, operator := 8 }
    let a := s.mem.accounts.read 3
    Sound s ∧ h.terminal = (1 : Fin 8).val ∧ 3 ∉ s.mem.sys.damage.slots ∧ a.lastApplied < h.seq ∧
      (s.mem.sys.terms.get 1).lastApplied < h.seq ∧ (s.mem.sys.terms.get 1).shiftNo = h.shiftNo ∧
      (∃ p, (s.term 1).sale = some p ∧ p.state = .committing ∧ p.journalSeq = some h.seq ∧ p.setAside ≤ s.setAsides) ∧
      2000 ≤ a.debt ∧ s.mem.sys.reserve.lastApplied < h.seq ∧ 173 + 50 ≤ s.mem.sys.reserve.balance ∧
      173 + 50 ≤ s.mem.sys.reserve.totalIssued ∧ ¬ a.counterMonth < monthOf h.time ∧ 173 ≤ a.monthUnits ∧
      50 ≤ a.allowanceIssued :=
  ⟨rfl, rfl, by decide, by decide, by decide, by decide, ⟨_, rfl, rfl, rfl, by decide⟩, by decide, by decide,
    by decide,
    by decide, by decide +kernel, by decide, by decide⟩

theorem witness_DamagedSlotWithholdsAccountAlone :
    let listed := { completing with mem := { completing.mem with sys := { completing.mem.sys with
      damage := { slots := [3], overflow := false } } } }
    let met (a : Nat) := { completing with mem := { completing.mem with ecc := [(a, double)] } }
    let h : RecordHead := { seq := 11, time := 1000, terminal := 1, shiftNo := 2, operator := 8 }
    (Sound listed ∧ 3 ∈ listed.mem.sys.damage.slots) ∧
      (∀ a, a = 24 ∨ a = 31 → 3 ∉ (met a).mem.sys.damage.slots ∧
        (met a).mem.ecc = [(a, double)] ∧ a < 131072 ∧ a / 8 = 3) ∧
      wordOutcome double.syndrome = .uncorrectable ∧ h.terminal = (1 : Fin 8).val ∧
      ∀ s, s = listed ∨ s = met 24 → (s.mem.sys.terms.get 1).lastApplied < h.seq ∧
        (s.mem.sys.terms.get 1).shiftNo = h.shiftNo ∧
        (∃ p, (s.term 1).sale = some p ∧ p.state = .committing ∧ p.journalSeq = some h.seq ∧
          p.setAside ≤ s.setAsides) ∧
        s.mem.sys.reserve.lastApplied < h.seq ∧ 173 + 50 ≤ s.mem.sys.reserve.balance ∧
        173 + 50 ≤ s.mem.sys.reserve.totalIssued :=
  ⟨⟨rfl, List.mem_singleton_self _⟩, by rintro _ (rfl | rfl) <;> exact ⟨List.not_mem_nil, rfl, by decide, by decide⟩,
    disturbed_words.2, rfl, by
      rintro _ (rfl | rfl) <;>
        exact ⟨(by decide : 0 < 11), rfl, ⟨_, rfl, rfl, rfl, (by decide : 173 ≤ 173)⟩, (by decide : 0 < 11),
          (by decide : 173 + 50 ≤ 250000), (by decide : 173 + 50 ≤ 223)⟩⟩

theorem witness_GrantsAddAndRecordsKeepReserveLaw :
    Sound shop ∧ shop.mem.sys.reserve.balanced ∧
      (∀ b, saleRecord6.body = .sale b → b.purchased + b.allowance ≤ shop.mem.sys.reserve.balance) ∧
      (∀ b, saleRecord6.body = .reversal b → b.purchased + b.allowance ≤ shop.mem.sys.reserve.totalIssued) ∧
      (∀ b, clockRecord.body ≠ .sale b) ∧ (∀ b, clockRecord.body ≠ .reversal b) ∧
      (∀ v, clockRecord.body ≠ .grant v) ∧ ∀ k, clockRecord.body ≠ .init k :=
  ⟨rfl, rfl, fun b h => (by cases h; decide), nofun, nofun, nofun, nofun, nofun⟩

theorem witness_KeyAndClockRecordsTakeEffect :
    shop.secure.keyLastApplied < 11 ∧ shop.secure.tamperLatch = false ∧
      { shop.secure with tamperLatch := true }.tamperLatch = true ∧
      SMap.find 0 shop.secure.slots = some { state := .active, area := 12, gen := 3, key := 0 } ∧
      (12 ≠ 13 ∨ 3 ≠ 3) ∧ (12 ≠ 12 ∨ 3 ≠ 4) ∧ SMap.find 1 shop.secure.slots = none ∧
      shop.clock.lastApplied < 11 ∧ shop.clock.reading ≤ lastReading ∧
      (let moved := shop.clock.reading + 3155758999 - 0
       shop.month ≤ monthOf moved ∧ moved ≤ lastReading) ∧
      (let moved := shop.clock.reading + 3155759000 - 0
       shop.month ≤ monthOf moved ∧ lastReading < moved) ∧
      monthOf (31 * 86400 + 0 - 1) < monthOf (31 * 86400) ∧
      (∀ n, n = 2000 ∨ n = 1999 →
        let s := shop.setClock { shop.clock with alarm := some 2000 }
        let moved := s.clock.reading + n - clockRecord.head.time
        s.clock.lastApplied < 11 ∧ s.month ≤ monthOf moved ∧ moved ≤ lastReading ∧
          (n = 2000 ∧ s.clock.reading < 2000 ∧ 2000 ≤ moved ∨ n = 1999 ∧ moved < 2000)) := by
  refine ⟨by decide, rfl, rfl, rfl, by decide, by decide, rfl, by decide, by decide +kernel, by decide +kernel,
    by decide +kernel, by decide +kernel, ?_⟩
  rintro _ (rfl | rfl) <;> decide +kernel

theorem witness_OfficeRecordsTakeEffect :
    Sound shop ∧ (7 : Fin 8).val = 7 ∧ shop.mem.sys.settingsApplied < 11 ∧ 0 ≤ shop.mem.sys.settingsApplied ∧
      shop.copy = some { head := 11, tail := 5, mark := none } ∧ shop.mem.sys.signature = some 0 ∧ 0 < 11 ∧ 0 ≤ 0 ∧
      shop.init = none :=
  ⟨rfl, rfl, by decide, by decide, rfl, rfl, by decide, by decide, rfl⟩

theorem witness_AccountRecordsTakeEffect :
    (Sound shop ∧ shop.mem.wf = true ∧ (shop.mem.accounts.read 3).lastApplied < 11 ∧
      3 ∉ shop.mem.sys.damage.slots ∧ shop.mem.index.count = shop.mem.index.entries.length) ∧
      (∀ r, r ∈ [AccountRecord.create 3 default, .edit 3 1001 default, .close 3 1001, .replace 3 1001 1002 63 15,
        .load 3 holder, .rekey 3 1001] → (RecordBody.account r).slot? = some 3) ∧
      (let s := officeSys (fun a => { a with damage := { slots := [3], overflow := false } })
       Sound s ∧ s.mem.wf = true ∧ (s.mem.accounts.read 3).lastApplied < 11 ∧
         0 ≤ (s.mem.accounts.read 3).lastApplied ∧
        3 ∈ s.mem.sys.damage.slots) := by
  refine ⟨⟨rfl, by decide, by decide, by decide, by decide⟩, ?_, rfl, by decide, by decide, by decide, by decide⟩
  simp [RecordBody.slot?]

theorem witness_MinimumAndRecoveryGoByRule :
    (caseOne 499 5000).tender < (caseOne 499 5000).minSale ∧
      { caseOne 10050 5000 with rate := 5000 }.rate ≤ 5000 ∧ (∃ r, computeSale { caseOne 10050 5000 with rate :=
        5000 } = .ok r) ∧
      { caseOne 10050 5000 with rate := 0 }.rate = 0 ∧ 2000 ≤ 10050 ∧ energyMoney (caseOne 10050 5000) 0 = 0 :=
  ⟨by decide, by decide, ⟨_, rfl⟩, rfl, by decide, by decide +kernel⟩

theorem witness_PaymentComputationGoesByRule :
    (∀ debt tender, (debt, tender) ∈ [(0, 2500), (2000, 2500), (2000, 1), (2000, 2301)] →
      let i : CreditInputs := { caseOne tender 5000 with mode := .payment, debt := debt }
      i.mode = .payment ∧
        (i.debt = 0 ∨ i.debt ≠ 0 ∧ i.debt < netAmount i.tender i.tax ∨ i.debt ≠ 0 ∧ netAmount i.tender i.tax = 0 ∨
          0 < netAmount i.tender i.tax ∧ netAmount i.tender i.tax ≤ i.debt)) ∧
      clearingTender 2000 1500 < 5000000 := by
  constructor
  · intro debt tender h
    simp only [List.mem_cons, List.not_mem_nil, or_false, Prod.mk.injEq] at h
    rcases h with ⟨rfl, rfl⟩ | ⟨rfl, rfl⟩ | ⟨rfl, rfl⟩ | ⟨rfl, rfl⟩ <;> exact ⟨rfl, by decide⟩
  · decide

theorem witness_SaleComputationAccountsForAll :
    (∃ r, computeSale (caseOne 10050 5000) = .ok r) ∧ (caseOne 10050 5000).rate ≤ 5000 ∧
      (caseOne 10050 5000).blocks ≠ [] ∧ (caseOne 10050 5000).month ≤ 16777215 ∧
      ∀ b ∈ (caseOne 10050 5000).blocks, 1 ≤ b.price ∧ b.price ≤ 999999 ∧ b.bound ≤ 16777215 :=
  ⟨⟨_, test_caseOne⟩, by decide, by decide, by decide, by decide⟩

theorem witness_SuggestedTenderIsLargestThatFits :
    (caseOne 10050 400).rate ≤ 5000 ∧ 7688 < 7689 ∧ 7689 ≤ 5000000 ∧
      (caseOne 10050 400).minSale ≤ (caseOne 10050 400).tender ∧
        fits (caseOne 10050 400) (caseOne 10050 400).tender = false := by
  decide +kernel

theorem witness_KeyPlansAndTokensGoByRule :
    let slots : SMap KeySlot :=
      [(0, { state := .retired, area := 12, gen := 3, key := 1 }),
       (1, { state := .active, area := 12, gen := 4, key := 2 })]
    currentGen 12 slots = some 4 ∧ currentGen 13 slots = none ∧
      (holder.area = 12 ∧ holder.keyGen ≠ 4 ∧ keySlotOf 12 holder.keyGen slots ≠ none ∧ keySlotOf 12 2 slots = none) ∧
      (let a := { holder with keyGen := 4, issueSeq := 65535 }
       ¬ (a.keyGen ≠ 4 ∨ a.forceKeyChange = true) ∧ a.issueSeq = 65535) ∧
      (let a := { holder with keyGen := 4, issueSeq := 65534, revokePending := some 65504 }
       ¬ (a.keyGen ≠ 4 ∨ a.forceKeyChange = true) ∧ a.issueSeq ≠ 65535 ∧ a.revokePending = some 65504 ∧
        65504 + 31 = a.issueSeq + 1) ∧
      keySlotOf 12 4 slots = some (1, { state := .active, area := 12, gen := 4, key := 2 }) ∧
      keySlotOf 12 3 slots = some (0, { state := .retired, area := 12, gen := 3, key := 1 }) := by decide

theorem witness_FormatsReadBack : wideHead.fits ∧ wideSale.fits ∧ wideAccount.inRange := by
  unfold RecordHead.fits SaleBody.fits Account.inRange
  exact ⟨by decide, by decide, by simp [wideAccount]⟩

end Sys2Proof.Tests
end

section
/-!
SUPPORT. What each part of a completion writes when no word of account memory is disturbed, and what its guard passes
over (R6, R92, R103, R134).
-/
namespace Sys2Proof.Machine

/-! ### The writes of a completion, with no word disturbed -/

theorem writeSlot_of_sound {s : State} (hs : s.mem.ecc = []) (slot : Nat) (a : Account) :
    writeSlot slot a s = s.setAccounts (s.mem.accounts.write slot a) := by
  simp [writeSlot, freshWords_of_sound hs]

/-- An account's record is withheld when its slot is listed, written past its last applied, and else passed over. -/
theorem applyAccount_of_sound {s : State} (hs : s.mem.ecc = []) (slot : Nat) (h : RecordHead) (f : Account → Account) :
    applyAccount slot h f s =
      if slot ∈ s.mem.sys.damage.slots then (.withheld, s)
      else if (s.mem.accounts.read slot).lastApplied < h.seq then
        (.written, s.setAccounts (s.mem.accounts.write slot
          { f ((s.mem.accounts.read slot).bringTo (monthOf h.time)) with lastApplied := h.seq }))
      else (.passedOver, s) := by
  simp only [applyAccount, touchItem_of_sound hs, damageView_of_sound hs, slotRecord_of_sound hs, readSlot_of_sound hs,
    writeSlot_of_sound hs]

theorem changeIndex_of_sound {s : State} (hs : s.mem.ecc = []) (f : SMap IndexEntry → SMap IndexEntry) :
    changeIndex f s = s.setIndex { s.mem.index with
      entries := f s.mem.index.entries
      count := dropBy 24576 (s.mem.index.count + (f s.mem.index.entries).length) s.mem.index.entries.length } := by
  simp [changeIndex, readWords_of_sound hs, freshWords_of_sound hs, hasBad_of_sound hs]

theorem leaveDamage_of_sound {s : State} (hs : s.mem.ecc = []) (slot : Nat) :
    leaveDamage slot s = s.setSys { s.mem.sys with
      damage := { s.mem.sys.damage with slots := s.mem.sys.damage.slots.filter (· != slot) } } :=
  writeItem_of_sound hs _ _

/-- A terminal's entry is written whole past its last applied, and else stands. -/
theorem applyTerm_of_sound {s : State} (hs : s.mem.ecc = []) (t : Fin 8) (seq : Nat) (f : TermEntry → TermEntry) :
    applyTerm t seq f s = s.setSys { s.mem.sys with
      terms := s.mem.sys.terms.put t
        (if (s.mem.sys.terms.get t).lastApplied < seq then { f (s.mem.sys.terms.get t) with lastApplied := seq }
         else s.mem.sys.terms.get t) } :=
  writeItem_of_sound hs _ _

/-- The reserve record is written whole past its last applied, and else stands. -/
theorem applyReserve_of_sound {s : State} (hs : s.mem.ecc = []) (seq : Nat) (f : ReserveRecord → ReserveRecord) :
    applyReserve seq f s = s.setSys { s.mem.sys with
      reserve := if s.mem.sys.reserve.lastApplied < seq then { f s.mem.sys.reserve with lastApplied := seq }
                 else s.mem.sys.reserve } := by
  unfold applyReserve
  rw [writeItem_of_sound hs]
  split <;> rfl

/-! ### What a guard passes over -/

/-- The account of a slot is beyond a sequence's reach: its slot is listed, or the sequence is not past its last
applied (R6, R149). -/
def AccountPast (slot seq : Nat) (m : AccountMemory) : Prop :=
  slot ∈ m.sys.damage.slots ∨ seq ≤ (m.accounts.read slot).lastApplied

/-- A write of the system area that leaves the damage list leaves every account's reach. -/
theorem AccountPast.setSys {slot seq : Nat} {s : State} {v : SystemArea} (p : AccountPast slot seq s.mem)
    (damage : v.damage = s.mem.sys.damage) : AccountPast slot seq (s.setSys v).mem := by
  unfold AccountPast at p ⊢
  rw [State.setSys_mem, damage]
  exact p

/-- No entry of the terminal a head names takes its sequence (R103). -/
def TotalsPast (h : RecordHead) (m : AccountMemory) : Prop :=
  ∀ t, headTerminal h = some t → h.seq ≤ (m.sys.terms.get t).lastApplied

theorem applyAccount_past {s : State} (hs : s.mem.ecc = []) {slot : Nat} {h : RecordHead}
    (p : AccountPast slot h.seq s.mem) (f : Account → Account) :
    (applyAccount slot h f s).1 ≠ .written ∧ (applyAccount slot h f s).2 = s := by
  rw [applyAccount_of_sound hs]
  rcases p with listed | passed
  · simp [listed]
  · split
    · simp
    · simp [Nat.not_lt.mpr passed]

theorem applyTerm_past {s : State} (hs : s.mem.ecc = []) {t : Fin 8} {seq : Nat}
    (p : seq ≤ (s.mem.sys.terms.get t).lastApplied) (f : TermEntry → TermEntry) : applyTerm t seq f s = s := by
  rw [applyTerm_of_sound hs, if_neg (Nat.not_lt.mpr p), Eight.put_get]
  rfl

theorem applyReserve_past {s : State} (hs : s.mem.ecc = []) {seq : Nat} (p : seq ≤ s.mem.sys.reserve.lastApplied)
    (f : ReserveRecord → ReserveRecord) : applyReserve seq f s = s := by
  rw [applyReserve_of_sound hs, if_neg (Nat.not_lt.mpr p)]
  rfl

theorem applyTotals_past {s : State} (hs : s.mem.ecc = []) {h : RecordHead} (p : TotalsPast h s.mem)
    (f : ShiftTotals → ShiftTotals) : applyTotals h f s = s := by
  unfold applyTotals
  split
  · rfl
  · exact applyTerm_past hs (p _ ‹_›) _

theorem indexWhen_of_ne_written {r : Reached × State} (h : r.1 ≠ .written) (f : SMap IndexEntry → SMap IndexEntry) :
    indexWhen r f = r.2 := by
  obtain ⟨reached, s⟩ := r
  cases reached
  · exact absurd rfl h
  · rfl
  · rfl

/-! ### What each part leaves, and that its guard then passes its record over -/

/-- A completion's account write reaches the account region alone, and leaves the account past its record. -/
theorem applyAccount_leaves {s : State} (hs : s.mem.ecc = []) (slot : Nat) (h : RecordHead) (f : Account → Account) :
    let u := (applyAccount slot h f s).2
    u = s.setAccounts u.mem.accounts ∧ u.mem.ecc = [] ∧ AccountPast slot h.seq u.mem := by
  dsimp only
  rw [applyAccount_of_sound hs]
  split
  · exact ⟨rfl, hs, .inl ‹_›⟩
  · split
    · refine ⟨rfl, hs, .inr ?_⟩
      simp [AccountStore.read_write]
    · exact ⟨rfl, hs, .inr (Nat.not_lt.mp ‹_›)⟩

theorem applyTerm_leaves {s : State} (hs : s.mem.ecc = []) (t : Fin 8) (seq : Nat) (f : TermEntry → TermEntry) :
    let u := applyTerm t seq f s
    u = s.setSys { s.mem.sys with terms := u.mem.sys.terms } ∧ u.mem.ecc = [] ∧
      seq ≤ (u.mem.sys.terms.get t).lastApplied := by
  dsimp only
  rw [applyTerm_of_sound hs]
  refine ⟨rfl, hs, ?_⟩
  rw [State.setSys_mem, Eight.get_put_self]
  split
  · exact le_refl seq
  · exact Nat.not_lt.mp ‹_›

theorem applyReserve_leaves {s : State} (hs : s.mem.ecc = []) (seq : Nat) (f : ReserveRecord → ReserveRecord) :
    let u := applyReserve seq f s
    u = s.setSys { s.mem.sys with reserve := u.mem.sys.reserve } ∧ u.mem.ecc = [] ∧
      seq ≤ u.mem.sys.reserve.lastApplied := by
  dsimp only
  rw [applyReserve_of_sound hs]
  refine ⟨rfl, hs, ?_⟩
  rw [State.setSys_mem]
  dsimp only
  split
  · exact le_refl seq
  · exact Nat.not_lt.mp ‹_›

theorem applyTotals_leaves {s : State} (hs : s.mem.ecc = []) (h : RecordHead) (f : ShiftTotals → ShiftTotals) :
    let u := applyTotals h f s
    u = s.setSys { s.mem.sys with terms := u.mem.sys.terms } ∧ u.mem.ecc = [] ∧ TotalsPast h u.mem := by
  dsimp only
  unfold applyTotals
  split
  · rename_i e
    exact ⟨rfl, hs, fun t ht => by rw [e] at ht; cases ht⟩
  · rename_i t e
    obtain ⟨frame, sound, past⟩ := applyTerm_leaves hs t h.seq
      (fun e => if e.shiftNo = h.shiftNo then { e with totals := f e.totals } else e)
    exact ⟨frame, sound, fun u hu => by rw [e] at hu; cases hu; exact past⟩

/-- A sale that its record ends is gone, and nothing of account memory with it. -/
theorem endSale_leaves (h : RecordHead) (s : State) :
    (endSale h s).mem = s.mem ∧ saleOf? h (endSale h s) = none := by
  unfold endSale
  cases e : saleOf? h s with
  | none => exact ⟨rfl, e⟩
  | some x =>
    obtain ⟨t, p⟩ := x
    unfold saleOf? at e
    split at e
    · cases e
    · rename_i ht
      split at e
      · rename_i q hq
        split at e
        · cases e
          simp only [releaseSale, hq]
          refine ⟨rfl, ?_⟩
          simp [saleOf?, ht, setSale, State.setTerm, State.term]
        · cases e
      · cases e

theorem endSale_of_none {h : RecordHead} {s : State} (e : saleOf? h s = none) : endSale h s = s := by
  unfold endSale
  rw [e]

end Sys2Proof.Machine
end

section
/-!
SUPPORT. A record's effects taken a second time change nothing (R134, R183 step 1): what each kind of record leaves is
what its own guards pass over.
-/
namespace Sys2Proof.Machine

/-! ### Vend records -/

theorem applySale_past {s : State} (hs : s.mem.ecc = []) {h : RecordHead} {b : SaleBody}
    (account : AccountPast b.slot h.seq s.mem) (reserve : h.seq ≤ s.mem.sys.reserve.lastApplied)
    (totals : TotalsPast h s.mem) (sale : saleOf? h s = none) : (applySale h b s).2 = s := by
  simp only [applySale, (applyAccount_past hs account _).2, applyReserve_past hs reserve, applyTotals_past hs totals,
    endSale_of_none sale]

theorem applySale_again {s : State} (hs : s.mem.ecc = []) (h : RecordHead) (b : SaleBody) :
    (applySale h b (applySale h b s).2).2 = (applySale h b s).2 := by
  obtain ⟨-, sound1, account⟩ := applyAccount_leaves hs b.slot h (saleOn h b)
  obtain ⟨frame2, sound2, reserve⟩ := applyReserve_leaves sound1 h.seq (debit (b.purchased + b.allowance))
  obtain ⟨frame3, sound3, totals⟩ := applyTotals_leaves sound2 h (saleTotals b)
  obtain ⟨mem, gone⟩ := endSale_leaves h (applyTotals h (saleTotals b)
    (applyReserve h.seq (debit (b.purchased + b.allowance)) (applyAccount b.slot h (saleOn h b) s).2))
  apply applySale_past
  · exact mem ▸ sound3
  · show AccountPast _ _ (endSale _ _).mem
    rw [mem, frame3, frame2]
    exact (account.setSys rfl).setSys rfl
  · show _ ≤ (endSale _ _).mem.sys.reserve.lastApplied
    rw [mem, frame3]
    exact reserve
  · show TotalsPast _ (endSale _ _).mem
    rw [mem]
    exact totals
  · exact gone

theorem applyPayment_past {s : State} (hs : s.mem.ecc = []) {h : RecordHead} {b : PaymentBody}
    (account : AccountPast b.slot h.seq s.mem) (totals : TotalsPast h s.mem) (sale : saleOf? h s = none) :
    (applyPayment h b s).2 = s := by
  simp only [applyPayment, (applyAccount_past hs account _).2, applyTotals_past hs totals, endSale_of_none sale]

theorem applyPayment_again {s : State} (hs : s.mem.ecc = []) (h : RecordHead) (b : PaymentBody) :
    (applyPayment h b (applyPayment h b s).2).2 = (applyPayment h b s).2 := by
  obtain ⟨-, sound1, account⟩ := applyAccount_leaves hs b.slot h
    (fun a => { a with debt := dropBy 99999999 a.debt b.recovered })
  obtain ⟨frame2, sound2, totals⟩ := applyTotals_leaves sound1 h (paymentTotals b)
  obtain ⟨mem, gone⟩ := endSale_leaves h (applyTotals h (paymentTotals b)
    (applyAccount b.slot h (fun a => { a with debt := dropBy 99999999 a.debt b.recovered }) s).2)
  apply applyPayment_past
  · exact mem ▸ sound2
  · show AccountPast _ _ (endSale _ _).mem
    rw [mem, frame2]
    exact account.setSys rfl
  · show TotalsPast _ (endSale _ _).mem
    rw [mem]
    exact totals
  · exact gone

theorem applyReissue_again {s : State} (hs : s.mem.ecc = []) (h : RecordHead) (slot link : Nat) (figures : Figures) :
    (applyReissue h slot link figures (applyReissue h slot link figures s).2).2 =
      (applyReissue h slot link figures s).2 := by
  obtain ⟨-, sound1, account⟩ := applyAccount_leaves hs slot h reissueOn
  obtain ⟨frame2, sound2, totals⟩ := applyTotals_leaves sound1 h
    (fun t => { t with reissues := totalUp t.reissues 1 })
  simp only [applyReissue]
  rw [(applyAccount_past sound2 (by rw [frame2]; exact account.setSys rfl) _).2, applyTotals_past sound2 totals]

/-- With its account not in the damage list, a REVERSAL leaves the debt it answers with to be read. -/
theorem applyReversal_of_whole {s : State} (hs : s.mem.ecc = []) (h : RecordHead) {b : ReversalBody}
    (whole : b.slot ∉ s.mem.sys.damage.slots) :
    let u := (applyAccount b.slot h (reversalOn b) s).2
    applyReversal h b s =
      ((.ok, .reversed b.backLink b.tendered (b.purchased + b.allowance) (u.mem.accounts.read b.slot).debt),
        applyTotals h (reversalTotals b) (applyReserve h.seq (creditBack (b.purchased + b.allowance)) u)) := by
  have reached : (applyAccount b.slot h (reversalOn b) s).1 ≠ .withheld := by
    rw [applyAccount_of_sound hs, if_neg whole]
    split <;> simp
  simp only [applyReversal]
  cases e : (applyAccount b.slot h (reversalOn b) s).1 with
  | withheld => exact absurd e reached
  | written => rfl
  | passedOver => rfl

theorem applyReversal_again {s : State} (hs : s.mem.ecc = []) (h : RecordHead) {b : ReversalBody}
    (whole : b.slot ∉ s.mem.sys.damage.slots) :
    (applyReversal h b (applyReversal h b s).2).2 = (applyReversal h b s).2 := by
  obtain ⟨frame1, sound1, account⟩ := applyAccount_leaves hs b.slot h (reversalOn b)
  obtain ⟨frame2, sound2, reserve⟩ := applyReserve_leaves sound1 h.seq (creditBack (b.purchased + b.allowance))
  obtain ⟨frame3, sound3, totals⟩ := applyTotals_leaves sound2 h (reversalTotals b)
  rw [applyReversal_of_whole hs h whole, applyReversal_of_whole sound3 h (by rw [frame3, frame2, frame1]; exact whole)]
  dsimp only
  rw [(applyAccount_past sound3 (by rw [frame3, frame2]; exact (account.setSys rfl).setSys rfl) _).2,
    applyReserve_past sound3 (by rw [frame3]; exact reserve), applyTotals_past sound3 totals]

theorem applyGrant_again {s : State} (hs : s.mem.ecc = []) (h : RecordHead) (v : Voucher) :
    (applyGrant h v (applyGrant h v s).2).2 = (applyGrant h v s).2 := by
  obtain ⟨-, sound, reserve⟩ := applyReserve_leaves hs h.seq (addGrant v)
  simp only [applyGrant]
  rw [applyReserve_past (s := raiseFloor v.number _) sound reserve]
  simp [raiseFloor, State.setSecure]

/-! ### Account records -/

/-- A record that writes an account under its guard, and the index with it, does neither a second time. -/
theorem indexWhen_again {s : State} (hs : s.mem.ecc = []) (slot : Nat) (h : RecordHead) (f : Account → Account)
    (g : SMap IndexEntry → SMap IndexEntry) :
    let u := indexWhen (applyAccount slot h f s) g
    indexWhen (applyAccount slot h f u) g = u := by
  obtain ⟨-, sound, account⟩ := applyAccount_leaves hs slot h f
  have past : AccountPast slot h.seq (indexWhen (applyAccount slot h f s) g).mem ∧
      (indexWhen (applyAccount slot h f s) g).mem.ecc = [] := by
    unfold indexWhen
    split
    · rw [changeIndex_of_sound sound]
      exact ⟨account, sound⟩
    · exact ⟨account, sound⟩
  dsimp only
  obtain ⟨reached, same⟩ := applyAccount_past past.2 past.1 f
  rw [indexWhen_of_ne_written reached, same]

/-- A LOAD writes its image past the last applied alone, whether or not its slot is listed (R153). -/
theorem applyLoad_of_sound {s : State} (hs : s.mem.ecc = []) (slot : Nat) (image : Account) (h : RecordHead) :
    applyLoad slot image h s =
      let u := if (s.mem.accounts.read slot).lastApplied < h.seq then
          changeIndex (loadEntries slot image)
            (leaveDamage slot (s.setAccounts (s.mem.accounts.write slot { image with lastApplied := h.seq })))
        else s
      ((.ok, .loaded slot (decide (slot ∈ s.mem.sys.damage.slots)) u.mem.sys.damage.slots.length), u) := by
  unfold applyLoad
  simp only [touchItem_of_sound hs, damageView_of_sound hs, slotRecord_of_sound hs, readSlot_of_sound hs,
    writeSlot_of_sound hs, Option.all_some, decide_eq_true_eq]
  split
  · have sound : (leaveDamage slot
        (s.setAccounts (s.mem.accounts.write slot { image with lastApplied := h.seq }))).mem.ecc = [] := by
      rw [leaveDamage_of_sound (by exact hs)]
      exact hs
    have listed := changeIndex_of_sound sound (loadEntries slot image)
    rw [damageView_of_sound (by rw [listed]; exact sound)]
  · rw [damageView_of_sound hs]

theorem applyLoad_again {s : State} (hs : s.mem.ecc = []) (slot : Nat) (image : Account) (h : RecordHead) :
    (applyLoad slot image h (applyLoad slot image h s).2).2 = (applyLoad slot image h s).2 := by
  rw [applyLoad_of_sound hs]
  dsimp only
  split
  · rw [leaveDamage_of_sound (by exact hs), changeIndex_of_sound (by exact hs), applyLoad_of_sound (by exact hs)]
    dsimp only
    rw [if_neg]
    simp [AccountStore.read_write]
  · rw [applyLoad_of_sound hs]
    dsimp only
    rw [if_neg ‹_›]

theorem applyAccountRecord_again {s : State} (hs : s.mem.ecc = []) (h : RecordHead) (a : AccountRecord) :
    (applyAccountRecord h a (applyAccountRecord h a s).2).2 = (applyAccountRecord h a s).2 := by
  have written (slot : Nat) (f : Account → Account) :
      (applyAccount slot h f (applyAccount slot h f s).2).2 = (applyAccount slot h f s).2 := by
    obtain ⟨-, sound, account⟩ := applyAccount_leaves hs slot h f
    exact (applyAccount_past sound account f).2
  cases a <;> simp only [applyAccountRecord]
  case create slot n => exact indexWhen_again hs slot h _ _
  case edit slot _ e => exact written slot _
  case close slot _ => exact indexWhen_again hs slot h _ _
  case replace slot old meter area gen => exact indexWhen_again hs slot h _ _
  case load slot image => exact applyLoad_again hs slot image h
  case rekey slot _ => exact written slot _

/-! ### Shift, key, clock and settings records -/

theorem applyTerm_again {s : State} (hs : s.mem.ecc = []) (t : Fin 8) (seq : Nat) (f : TermEntry → TermEntry) :
    applyTerm t seq f (applyTerm t seq f s) = applyTerm t seq f s := by
  obtain ⟨-, sound, past⟩ := applyTerm_leaves hs t seq f
  exact applyTerm_past sound past f

theorem keyOn_lastApplied (seq : Nat) (k : KeyBody) (m : SecureMemory) : (keyOn seq k m).keyLastApplied = seq := by
  unfold keyOn
  repeat' split
  all_goals rfl

theorem applyKey_again (h : RecordHead) (k : KeyBody) (s : State) :
    (applyKey h k (applyKey h k s).2).2 = (applyKey h k s).2 := by
  by_cases p : s.secure.keyLastApplied < h.seq
  · simp [applyKey, p, keyOn_lastApplied]
  · simp [applyKey, p]

theorem applyClock_again (h : RecordHead) (new : Nat) (s : State) :
    (applyClock h new (applyClock h new s).2).2 = (applyClock h new s).2 := by
  by_cases p : s.clock.lastApplied < h.seq <;> simp [applyClock, p]

theorem applySettings_again {s : State} (hs : s.mem.ecc = []) (h : RecordHead) (c : SettingsChange) :
    applySettings h c (applySettings h c s) = applySettings h c s := by
  have same {u : State} (hu : u.mem.ecc = []) (p : h.seq ≤ u.mem.sys.settingsApplied) : applySettings h c u = u := by
    simp [applySettings, touchItem_of_sound hu, itemBad_of_sound hu, Nat.not_lt.mpr p]
  have mem (u : State) : (restartScrub c u).mem = u.mem := by
    unfold restartScrub
    repeat' split
    all_goals rfl
  by_cases p : s.mem.sys.settingsApplied < h.seq
  · have written : applySettings h c s = restartScrub c (s.setSys
        { s.mem.sys with settings := c.on s.mem.sys.settings, settingsApplied := h.seq }) := by
      simp [applySettings, touchItem_of_sound hs, itemBad_of_sound hs, p, storeItems_of_sound hs]
    refine same ?_ ?_
    · rw [written, mem]
      exact hs
    · rw [written, mem]
      exact le_refl h.seq
  · rw [same hs (Nat.not_lt.mp p), same hs (Nat.not_lt.mp p)]

/-! ### Tariff records -/

theorem alarmFromMemory_of_sound {s : State} (hs : s.mem.ecc = []) :
    alarmFromMemory s = alarmFromPending s.mem.sys.tariffs s := by
  simp [alarmFromMemory, touchItem_of_sound hs, itemBad_of_sound hs]

@[simp] theorem alarmFromPending_mem (t : TariffStore) (s : State) : (alarmFromPending t s).mem = s.mem := by
  unfold alarmFromPending
  split <;> rfl

@[simp] theorem alarmFromPending_init (t : TariffStore) (s : State) : (alarmFromPending t s).init = s.init := by
  unfold alarmFromPending
  split <;> rfl

theorem tariffOn_lastApplied (seq reading : Nat) (b : TariffBank) (effective : Nat) (t : TariffStore) :
    (tariffOn seq reading b effective t).lastApplied = seq := by
  unfold tariffOn
  split <;> rfl

theorem installBank_mem {s : State} (hs : s.mem.ecc = []) (seq : Nat) (b : TariffBank) (effective : Nat) :
    (installBank seq b effective s).mem = { s.mem with sys := { s.mem.sys with
      tariffs := tariffOn seq s.clock.reading b effective s.mem.sys.tariffs } } := by
  unfold installBank
  simp only [itemBad_of_sound hs, writeItems_of_sound hs]
  rw [alarmFromMemory_of_sound (by exact hs)]
  simp

theorem applyTariff_again {s : State} (hs : s.mem.ecc = []) (h : RecordHead) (b : TariffBank) (effective : Nat) :
    (applyTariff h b effective (applyTariff h b effective s).2).2 = (applyTariff h b effective s).2 := by
  have whole {u : State} (hu : u.mem.ecc = []) : (applyTariff h b effective u).2 =
      if u.mem.sys.tariffs.lastApplied < h.seq then installBank h.seq b effective u else u := by
    simp [applyTariff, touchItem_of_sound hu, itemBad_of_sound hu]
  rw [whole hs]
  split
  · have mem := installBank_mem hs h.seq b effective
    rw [whole (by rw [mem]; exact hs), if_neg]
    simp [mem, tariffOn_lastApplied]
  · rw [whole hs, if_neg ‹_›]

/-! ### INIT records -/

theorem takeTariffEffective_of_sound {s : State} (hs : s.mem.ecc = []) :
    takeTariffEffective s =
      if s.mem.sys.tariffs.due s.clock.reading then
        (s.setSys { s.mem.sys with tariffs := s.mem.sys.tariffs.switchAt s.clock.reading }).setClock
          { s.clock with alarm := none }
      else s := by
  simp [takeTariffEffective, touchItem_of_sound hs, itemBad_of_sound hs, writeItems_of_sound hs]

theorem takeTariffEffective_leaves {s : State} (hs : s.mem.ecc = []) :
    (takeTariffEffective s).mem.ecc = [] ∧ (takeTariffEffective s).mem.sys.signature = s.mem.sys.signature := by
  rw [takeTariffEffective_of_sound hs]
  by_cases due : s.mem.sys.tariffs.due s.clock.reading = true
  · simp [due, hs]
  · simp [due, hs]

theorem endStartUp_leaves {s : State} (hs : s.mem.ecc = []) :
    (endStartUp s).mem.ecc = [] ∧ (endStartUp s).mem.sys.signature = s.mem.sys.signature := by
  have alarmed : (alarmFromMemory s).mem = s.mem := by rw [alarmFromMemory_of_sound hs, alarmFromPending_mem]
  obtain ⟨sound, signature⟩ := takeTariffEffective_leaves (s := alarmFromMemory s) (alarmed ▸ hs)
  unfold endStartUp
  rw [touchItem_of_sound sound]
  exact ⟨sound, signature.trans (by rw [alarmed])⟩

theorem restartIdles_leave (l : List (Fin 8)) {s : State} (hs : s.mem.ecc = []) :
    (l.foldl (fun acc t => restartIdle t acc) s).mem = s.mem ∧
      (l.foldl (fun acc t => restartIdle t acc) s).init = s.init := by
  induction l generalizing s with
  | nil => exact ⟨rfl, rfl⟩
  | cons t l ih =>
    obtain ⟨i, e⟩ := restartIdle_of_sound hs t
    rw [List.foldl_cons, e]
    exact ih (s := setIdle t i s) hs

/-- The return from an INITIALISE leaves no such operation and account memory as it stood. -/
theorem returnFromInit_leaves {s : State} (hs : s.mem.ecc = []) :
    (returnFromInit s).mem = s.mem ∧ (returnFromInit s).init = none := by
  unfold returnFromInit
  cases e : s.init with
  | none => exact ⟨rfl, e⟩
  | some i =>
    dsimp only
    obtain ⟨mem, init⟩ := restartIdles_leave allTerminals
      (s := (s.setMode (if i.wasInService && s.sysFault.isNone then .inService else .outOfService)).setInit none) hs
    generalize allTerminals.foldl _ _ = u at mem init ⊢
    rw [State.setInit_mem, State.setMode_mem] at mem
    rw [touchItem_of_sound (by rw [mem]; exact hs)]
    exact ⟨mem, init⟩

/-- An INIT record that the init sequence passes over, with no INITIALISE waiting for it, changes nothing. -/
theorem applyInit_past {s : State} (hs : s.mem.ecc = []) {h : RecordHead} (past : initApplies h.seq s = false)
    (none : s.init = none) : (applyInit h s).2 = s := by
  simp [applyInit, touchItem_of_sound hs, past, returnFromInit, none]

theorem applyInit_again {s : State} (hs : s.mem.ecc = []) (h : RecordHead) :
    (applyInit h (applyInit h s).2).2 = (applyInit h s).2 := by
  have applies {u : State} (hu : u.mem.ecc = []) :
      initApplies h.seq u = u.mem.sys.signature.all (fun n => decide (n < h.seq)) := by
    simp [initApplies, itemBad_of_sound hu]
  have split : (applyInit h s).2 =
      if initApplies h.seq s then (endStartUp (initialiseAll h.seq s)).setInit none else returnFromInit s := by
    simp [applyInit, touchItem_of_sound hs]
  by_cases p : initApplies h.seq s = true
  · rw [split, if_pos p]
    obtain ⟨sound, signature⟩ := endStartUp_leaves (s := initialiseAll h.seq s) rfl
    refine applyInit_past (by rw [State.setInit_mem]; exact sound) ?_ (State.setInit_init _ _)
    rw [applies (by rw [State.setInit_mem]; exact sound), State.setInit_mem, signature]
    simp [initialiseAll, dropTerminals, AccountMemory.initial, SystemArea.initial]
  · rw [split, if_neg p]
    obtain ⟨mem, init⟩ := returnFromInit_leaves hs
    refine applyInit_past (mem ▸ hs) ?_ init
    rw [applies (mem ▸ hs), mem, ← applies hs]
    simpa using p

/-! ### Every record -/

/-- Settles O12: what each kind of record leaves is past that record's own guards. -/
theorem completionTakenAgainChangesNothing : Obligations.CompletionTakenAgainChangesNothing := by
  intro s r inService figures hs whole
  obtain ⟨h, body⟩ := r
  cases body with
  | init _ => exact applyInit_again hs h
  | void _ => rfl
  | sale b => exact applySale_again hs h b
  | payment b => exact applyPayment_again hs h b
  | reissue slot _ link => exact applyReissue_again hs h slot link figures
  | reversal b => exact applyReversal_again hs h (whole b rfl)
  | grant v => exact applyGrant_again hs h v
  | shiftOpen =>
    simp only [applyRecord, applyShiftOpen]
    cases headTerminal h with
    | none => rfl
    | some t => exact applyTerm_again hs t h.seq _
  | shiftClose b => exact applyTerm_again hs b.target h.seq _
  | account a => exact applyAccountRecord_again hs h a
  | key k => exact applyKey_again h k s
  | tariff b effective => exact applyTariff_again hs h b effective
  | clock new => exact applyClock_again h new s
  | settings c => exact applySettings_again hs h c
  | terminal t _ => exact applyTerm_again hs t h.seq _
  | other _ => rfl

end Sys2Proof.Machine
end

section
/-!
SUPPORT. What the completion of a SALE, PAYMENT, REISSUE or REVERSAL record writes when every guard lets it through
(R78, R81, R86, R89).
-/
namespace Sys2Proof.Machine

/-! ### Each part of a completion, let through by its guard -/

theorem dropBy_of_le {a b : Nat} (h : b ≤ a) (limit : Nat) : dropBy limit a b = a - b := if_pos h

/-- The account that a record writes: its effect on the account brought to the record's month, under the
record's sequence (R5, R6). -/
def accountAfter (h : RecordHead) (f : Account → Account) (a : Account) : Account :=
  { f (a.bringTo (monthOf h.time)) with lastApplied := h.seq }

theorem applyAccount_written {s : State} (hs : s.mem.ecc = []) {slot : Nat} {h : RecordHead}
    (whole : slot ∉ s.mem.sys.damage.slots) (past : (s.mem.accounts.read slot).lastApplied < h.seq)
    (f : Account → Account) :
    applyAccount slot h f s = (.written,
      s.setAccounts (s.mem.accounts.write slot (accountAfter h f (s.mem.accounts.read slot)))) := by
  rw [applyAccount_of_sound hs, if_neg whole, if_pos past]
  rfl

theorem applyReserve_written {s : State} (hs : s.mem.ecc = []) {seq : Nat} (past : s.mem.sys.reserve.lastApplied < seq)
    (f : ReserveRecord → ReserveRecord) :
    applyReserve seq f s =
      s.setSys { s.mem.sys with reserve := { f s.mem.sys.reserve with lastApplied := seq } } := by
  rw [applyReserve_of_sound hs, if_pos past]

theorem headTerminal_of_eq {h : RecordHead} {t : Fin 8} (e : h.terminal = t.val) : headTerminal h = some t := by
  simp [headTerminal, e]

/-- The shift that a record belongs to has its totals raised and its entry's last applied with them (R115). -/
theorem applyTotals_written {s : State} (hs : s.mem.ecc = []) {h : RecordHead} {t : Fin 8} (from_ : h.terminal = t.val)
    (past : (s.mem.sys.terms.get t).lastApplied < h.seq) (shift : (s.mem.sys.terms.get t).shiftNo = h.shiftNo)
    (f : ShiftTotals → ShiftTotals) :
    applyTotals h f s = s.setSys { s.mem.sys with
      terms := s.mem.sys.terms.put t { s.mem.sys.terms.get t with
        totals := f (s.mem.sys.terms.get t).totals, lastApplied := h.seq } } := by
  simp only [applyTotals, headTerminal_of_eq from_, applyTerm_of_sound hs, if_pos past, if_pos shift]

/-! ### The sale that a record ends -/

/-- The COMMITTING sale of a record's terminal that holds its sequence is the one it ends. -/
theorem saleOf?_of_committing {h : RecordHead} {t : Fin 8} {p : PendingSale} {s u : State}
    (from_ : h.terminal = t.val) (terms : u.terms = s.terms) (sale : (s.term t).sale = some p)
    (committing : p.state = .committing) (seq : p.journalSeq = some h.seq) : saleOf? h u = some (t, p) := by
  unfold State.term at sale
  simp [saleOf?, headTerminal_of_eq from_, State.term, terms, sale, committing, seq]

/-- The end of a sale reaches the volatile part of the terminal table and the sum of set-asides alone. -/
theorem endSale_frame (h : RecordHead) (s : State) :
    endSale h s = (s.setTerms (endSale h s).terms).setSetAsides (endSale h s).setAsides := by
  unfold endSale releaseSale
  split
  · split <;> rfl
  · rfl

theorem endSale_of_committing {h : RecordHead} {t : Fin 8} {p : PendingSale} {s u : State}
    (from_ : h.terminal = t.val) (terms : u.terms = s.terms) (sum : u.setAsides = s.setAsides)
    (sale : (s.term t).sale = some p) (committing : p.state = .committing) (seq : p.journalSeq = some h.seq)
    (room : p.setAside ≤ s.setAsides) :
    ((endSale h u).term t).sale = none ∧ (endSale h u).setAsides = s.setAsides - p.setAside := by
  have held : (u.term t).sale = some p := by rw [State.term, terms]; exact sale
  have released : endSale h u = setSale t none (dropSetAside p.setAside u) := by
    simp only [endSale, saleOf?_of_committing from_ terms sale committing seq, releaseSale, held]
  rw [released]
  constructor
  · simp [setSale, State.setTerm, State.term]
  · simp [setSale, State.setTerm, dropSetAside, sum, dropBy_of_le room]

/-! ### What a vend record writes -/

/-- A slot's account, the reserve and a terminal's entry stand as given; all else of account memory, the key store, the
clock, the pointers, the write queue and the replies stands as it was. -/
def VendWrote (s : State) (t : Fin 8) (slot : Nat) (account : Account) (reserve : ReserveRecord) (entry : TermEntry)
    (u : State) : Prop :=
  u.mem.accounts.read slot = account ∧ (∀ n, n ≠ slot → u.mem.accounts.read n = s.mem.accounts.read n) ∧
    u.mem.index = s.mem.index ∧
    u.mem.sys = { s.mem.sys with reserve := reserve, terms := s.mem.sys.terms.put t entry } ∧
    u.secure = s.secure ∧ u.clock = s.clock ∧ u.copy = s.copy ∧ u.queue = s.queue ∧ u.tx = s.tx

theorem vendWrote_writes (s : State) (t : Fin 8) (slot : Nat) (account : Account) (reserve : ReserveRecord)
    (entry : TermEntry) :
    VendWrote s t slot account reserve entry ((s.setAccounts (s.mem.accounts.write slot account)).setSys
      { s.mem.sys with reserve := reserve, terms := s.mem.sys.terms.put t entry }) := by
  refine ⟨?_, fun n other => ?_, rfl, rfl, rfl, rfl, rfl, rfl, rfl⟩
  · simp [AccountStore.read_write]
  · simp [AccountStore.read_write, other]

theorem VendWrote.endSale {s u : State} {t : Fin 8} {slot : Nat} {account : Account} {reserve : ReserveRecord}
    {entry : TermEntry} (w : VendWrote s t slot account reserve entry u) (h : RecordHead) :
    VendWrote s t slot account reserve entry (endSale h u) := by
  rw [endSale_frame]
  exact w

section
variable {s : State} {h : RecordHead} {t : Fin 8} {slot : Nat}

/-- The entry of a terminal that a vend record writes (R103, R115). -/
def vendEntry (h : RecordHead) (f : ShiftTotals → ShiftTotals) (e : TermEntry) : TermEntry :=
  { e with totals := f e.totals, lastApplied := h.seq }

/-- A record of a terminal's present shift, past what was last applied to its account and its terminal's entry. -/
structure VendDue (s : State) (h : RecordHead) (t : Fin 8) (slot : Nat) : Prop where
  sound : s.mem.ecc = []
  terminal : h.terminal = t.val
  whole : slot ∉ s.mem.sys.damage.slots
  account : (s.mem.accounts.read slot).lastApplied < h.seq
  entry : (s.mem.sys.terms.get t).lastApplied < h.seq
  shift : (s.mem.sys.terms.get t).shiftNo = h.shiftNo

/-- The state after a vend record that touches no reserve. -/
theorem VendDue.unreserved (due : VendDue s h t slot) (f : Account → Account) (g : ShiftTotals → ShiftTotals) :
    applyTotals h g (applyAccount slot h f s).2 =
      (s.setAccounts (s.mem.accounts.write slot (accountAfter h f (s.mem.accounts.read slot)))).setSys { s.mem.sys with
        reserve := s.mem.sys.reserve
        terms := s.mem.sys.terms.put t (vendEntry h g (s.mem.sys.terms.get t)) } := by
  rw [applyAccount_written due.sound due.whole due.account]
  rw [applyTotals_written (by exact due.sound) due.terminal (by exact due.entry) (by exact due.shift)]
  rfl

/-- The state after a vend record that touches the reserve. -/
theorem VendDue.reserved (due : VendDue s h t slot) (past : s.mem.sys.reserve.lastApplied < h.seq)
    (f : Account → Account) (k : ReserveRecord → ReserveRecord) (g : ShiftTotals → ShiftTotals) :
    applyTotals h g (applyReserve h.seq k (applyAccount slot h f s).2) =
      (s.setAccounts (s.mem.accounts.write slot (accountAfter h f (s.mem.accounts.read slot)))).setSys { s.mem.sys with
        reserve := { k s.mem.sys.reserve with lastApplied := h.seq }
        terms := s.mem.sys.terms.put t (vendEntry h g (s.mem.sys.terms.get t)) } := by
  rw [applyAccount_written due.sound due.whole due.account]
  rw [applyReserve_written (by exact due.sound) (by exact past),
    applyTotals_written (by exact due.sound) due.terminal (by exact due.entry) (by exact due.shift)]
  rfl

theorem VendDue.sale {b : SaleBody} (due : VendDue s h t b.slot) (past : s.mem.sys.reserve.lastApplied < h.seq) :
    VendWrote s t b.slot (accountAfter h (saleOn h b) (s.mem.accounts.read b.slot))
      { debit (b.purchased + b.allowance) s.mem.sys.reserve with lastApplied := h.seq }
      (vendEntry h (saleTotals b) (s.mem.sys.terms.get t)) (applySale h b s).2 := by
  simp only [applySale, due.reserved past]
  exact (vendWrote_writes ..).endSale h

theorem VendDue.payment {b : PaymentBody} (due : VendDue s h t b.slot) :
    VendWrote s t b.slot
      (accountAfter h (fun a => { a with debt := dropBy 99999999 a.debt b.recovered }) (s.mem.accounts.read b.slot))
      s.mem.sys.reserve (vendEntry h (paymentTotals b) (s.mem.sys.terms.get t)) (applyPayment h b s).2 := by
  simp only [applyPayment, due.unreserved]
  exact (vendWrote_writes ..).endSale h

theorem VendDue.reissue (due : VendDue s h t slot) (link : Nat) (figures : Figures) :
    VendWrote s t slot (accountAfter h reissueOn (s.mem.accounts.read slot)) s.mem.sys.reserve
      (vendEntry h (fun x => { x with reissues := totalUp x.reissues 1 }) (s.mem.sys.terms.get t))
      (applyReissue h slot link figures s).2 := by
  simp only [applyReissue, due.unreserved]
  exact vendWrote_writes ..

theorem VendDue.reversal {b : ReversalBody} (due : VendDue s h t b.slot)
    (past : s.mem.sys.reserve.lastApplied < h.seq) :
    VendWrote s t b.slot (accountAfter h (reversalOn b) (s.mem.accounts.read b.slot))
      { creditBack (b.purchased + b.allowance) s.mem.sys.reserve with lastApplied := h.seq }
      (vendEntry h (reversalTotals b) (s.mem.sys.terms.get t)) (applyReversal h b s).2 := by
  rw [applyReversal_of_whole due.sound h due.whole]
  dsimp only
  rw [due.reserved past]
  exact vendWrote_writes ..

/-- A REVERSAL answers with the debt that its account is left with. -/
theorem VendDue.reversal_spoken {b : ReversalBody} (due : VendDue s h t b.slot) :
    (applyReversal h b s).1 = (.ok, .reversed b.backLink b.tendered (b.purchased + b.allowance)
      (accountAfter h (reversalOn b) (s.mem.accounts.read b.slot)).debt) := by
  rw [applyReversal_of_whole due.sound h due.whole, applyAccount_written due.sound due.whole due.account]
  simp [AccountStore.read_write, accountAfter]

end

/-! ### The account and the reserve, with no figure below zero -/

section
variable (a : Account) (m : Nat)

@[simp] theorem Account.bringTo_debt : (a.bringTo m).debt = a.debt := by
  unfold Account.bringTo; split <;> rfl
@[simp] theorem Account.bringTo_keyGen : (a.bringTo m).keyGen = a.keyGen := by
  unfold Account.bringTo; split <;> rfl
@[simp] theorem Account.bringTo_forceKeyChange : (a.bringTo m).forceKeyChange = a.forceKeyChange := by
  unfold Account.bringTo; split <;> rfl
@[simp] theorem Account.bringTo_state : (a.bringTo m).state = a.state := by
  unfold Account.bringTo; split <;> rfl
@[simp] theorem Account.bringTo_tariffClass : (a.bringTo m).tariffClass = a.tariffClass := by
  unfold Account.bringTo; split <;> rfl
@[simp] theorem Account.bringTo_allowanceFlag : (a.bringTo m).allowanceFlag = a.allowanceFlag := by
  unfold Account.bringTo; split <;> rfl
@[simp] theorem Account.bringTo_rate : (a.bringTo m).rate = a.rate := by
  unfold Account.bringTo; split <;> rfl
@[simp] theorem Account.bringTo_maxPerSale : (a.bringTo m).maxPerSale = a.maxPerSale := by
  unfold Account.bringTo; split <;> rfl
@[simp] theorem Account.bringTo_lastSale : (a.bringTo m).lastSale = a.lastSale := by
  unfold Account.bringTo; split <;> rfl

end

/-- Settles O49: each vend record goes through one account write, one entry write and, for a SALE and a REVERSAL, one
reserve write; a SALE and a PAYMENT then end their sale. -/
theorem vendRecordsWriteTheirEffects : Obligations.VendRecordsWriteTheirEffects := by
  intro s h t slot inService figures hs from_ whole a now r e x up after wrote ends account entry shift
  have due : VendDue s h t slot := ⟨hs, from_, whole, account, entry, shift⟩
  have now_eq : now = { a.bringTo (monthOf h.time) with lastApplied := h.seq } := by
    simp only [now, Account.bringTo]
    split <;> rfl
  have ended (v : State) (terms : v.terms = s.terms) (sum : v.setAsides = s.setAsides) : ends (endSale h v) :=
    fun p sale committing seq room => endSale_of_committing from_ terms sum sale committing seq room
  refine ⟨fun b slot_eq recovered past balance => ?_, fun b slot_eq recovered => ?_, fun meter link => ?_,
    fun b slot_eq past issued units allowance => ?_⟩
  · subst slot_eq
    have sale := due.sale past
    simp only [accountAfter, saleOn, debit, Account.bringTo_debt, Account.bringTo_keyGen,
      Account.bringTo_forceKeyChange, dropBy_of_le (a := (s.mem.accounts.read b.slot).debt) recovered,
      dropBy_of_le (a := s.mem.sys.reserve.balance) balance] at sale
    refine ⟨now_eq ▸ sale, ?_, fun p sale committing seq => ?_⟩
    · show ends (endSale h _)
      rw [due.reserved past]
      exact ended _ (by simp) (by simp)
    · show soldSpoken h b _ = _
      rw [due.reserved past]
      unfold soldSpoken
      rw [saleOf?_of_committing from_ (by rfl) sale committing seq]
  · subst slot_eq
    have payment := due.payment
    simp only [accountAfter, Account.bringTo_debt,
      dropBy_of_le (a := (s.mem.accounts.read b.slot).debt) recovered] at payment
    refine ⟨now_eq ▸ payment, ?_, fun p sale committing seq => ?_⟩
    · show ends (endSale h _)
      rw [due.unreserved]
      exact ended _ (by simp) (by simp)
    · show paidSpoken h b _ = _
      rw [due.unreserved]
      unfold paidSpoken
      rw [saleOf?_of_committing from_ (by rfl) sale committing seq]
  · have reissue := due.reissue link figures
    simp only [accountAfter, reissueOn, Account.bringTo_lastSale] at reissue
    refine ⟨now_eq ▸ reissue, fun seq ciphers held => ?_⟩
    show reissueSpoken link figures = _
    rw [held]
    rfl
  · subst slot_eq
    have reversal := due.reversal past
    have spoken := due.reversal_spoken
    have units : b.purchased ≤ ((s.mem.accounts.read b.slot).bringTo (monthOf h.time)).monthUnits := by
      rw [now_eq] at units
      exact units
    have allowance : b.allowance ≤ ((s.mem.accounts.read b.slot).bringTo (monthOf h.time)).allowanceIssued := by
      rw [now_eq] at allowance
      exact allowance
    simp only [accountAfter, reversalOn, creditBack, Account.bringTo_debt, Account.bringTo_lastSale,
      dropBy_of_le units, dropBy_of_le allowance,
      dropBy_of_le (a := s.mem.sys.reserve.totalIssued) issued] at reversal spoken
    exact ⟨now_eq ▸ reversal, spoken⟩

end Sys2Proof.Machine
end

section
/-!
SUPPORT. What the completion of an ACCOUNT record writes: the account, the system area and the index, for every subkind
in one form (R15 to R21, R153).
-/
namespace Sys2Proof.Machine

theorem SMap.find_of_forall_lt {α : Type} {k : Nat} {m : SMap α} (h : ∀ x ∈ m, k < x.1) : SMap.find k m = none := by
  induction m with
  | nil => rfl
  | cons x m ih =>
    obtain ⟨j, a⟩ := x
    have hj : k < j := h (j, a) List.mem_cons_self
    simp [SMap.find, hj.ne', ih fun y hy => h y (List.mem_cons_of_mem _ hy)]

/-- What a map of rising keys holds at a key, once the pairs that fail a test are gone. -/
theorem SMap.find_keep {α : Type} (p : Nat → α → Bool) (k : Nat) {m : SMap α} (h : SMap.rising m = true) :
    SMap.find k (SMap.keep p m) = (SMap.find k m).filter (p k) := by
  rw [SMap.rising_iff] at h
  induction m with
  | nil => rfl
  | cons x m ih =>
    obtain ⟨j, a⟩ := x
    obtain ⟨below, rest⟩ := List.pairwise_cons.mp h
    have ih := ih rest
    unfold SMap.keep at ih ⊢
    by_cases e : j = k
    · subst e
      by_cases kept : p j a = true
      · simp [SMap.find, kept, Option.filter]
      · rw [List.filter_cons_of_neg (by exact kept), ih, SMap.find_of_forall_lt below]
        simp [SMap.find, kept, Option.filter]
    · by_cases kept : p j a = true
      · simp [SMap.find, kept, e, ih]
      · simp [SMap.find, kept, e, ih]

/-- The entries of a slot that a change drops are those of one kind, or all (R10, R153). -/
theorem find_dropEntries (slot : Nat) (liveOnly : Bool) (k : Nat) {m : SMap IndexEntry} (h : SMap.rising m = true) :
    SMap.find k (dropEntries slot liveOnly m) =
      (SMap.find k m).filter (fun e => e.slot != slot || liveOnly && e.kind != .live) := by
  unfold dropEntries
  rw [SMap.find_keep _ k h]
  congr 1
  funext e
  cases liveOnly <;> simp [bne, Bool.or_comm]

/-! ### An ACCOUNT record's effects in one form -/

/-- What an ACCOUNT record makes of the account it names (R15, R17, R18, R20, R21, R153). -/
def AccountRecord.on (h : RecordHead) : AccountRecord → Account → Account
  | .create _ n => fun _ => newRecord n (monthOf h.time)
  | .edit _ _ e => e.on
  | .close _ _ => fun _ => .blank 0
  | .replace _ _ meter area gen => replaceOn meter area gen
  | .load _ image => fun _ => image
  | .rekey _ _ => fun a => { a with forceKeyChange := true }

/-- What an ACCOUNT record makes of the index entries (R10, R153). -/
def AccountRecord.reindex (h : RecordHead) : AccountRecord → SMap IndexEntry → SMap IndexEntry
  | .create slot n => SMap.put n.meter { slot := slot, kind := .live }
  | .edit _ _ _ => id
  | .close slot _ => dropEntries slot false
  | .replace slot old meter _ _ => fun m =>
    SMap.put meter { slot := slot, kind := .live } (SMap.put old { slot := slot, kind := .retired h.time } m)
  | .load slot image => loadEntries slot image
  | .rekey _ _ => id

/-- What an ACCOUNT record makes of the system area: a LOAD alone reaches it, in the damage list (R146). -/
def AccountRecord.onSys : AccountRecord → SystemArea → SystemArea
  | .load slot _ => fun a => { a with damage := { a.damage with slots := a.damage.slots.filter (· != slot) } }
  | _ => id

/-- What an ACCOUNT record other than a LOAD is answered with when its account is not withheld (R13). -/
def AccountRecord.answer : AccountRecord → ReplyBody
  | .create slot _ => .created slot
  | _ => .empty

theorem State.setAccounts_alone (s : State) (v : AccountStore) :
    ((s.setAccounts v).setSys s.mem.sys).setIndex s.mem.index = s.setAccounts v := rfl

/-- The state after an ACCOUNT record of a slot that no guard passes over. -/
def accountWritten (h : RecordHead) (slot : Nat) (r : AccountRecord) (s : State) : State :=
  ((s.setAccounts (s.mem.accounts.write slot (accountAfter h (r.on h) (s.mem.accounts.read slot)))).setSys
    (r.onSys s.mem.sys)).setIndex { s.mem.index with
      entries := r.reindex h s.mem.index.entries
      count := dropBy 24576 (s.mem.index.count + (r.reindex h s.mem.index.entries).length)
        s.mem.index.entries.length }

theorem AccountRecord.reindex_rising (h : RecordHead) (r : AccountRecord) {m : SMap IndexEntry}
    (rising : SMap.rising m = true) : SMap.rising (r.reindex h m) = true := by
  cases r with
  | create slot n => exact SMap.put_rising _ _ rising
  | edit _ _ _ => exact rising
  | close slot _ => exact dropEntries_rising _ _ rising
  | replace slot old meter _ _ => exact SMap.put_rising _ _ (SMap.put_rising _ _ rising)
  | load slot image => exact loadEntries_rising _ _ rising
  | rekey _ _ => exact rising

section
variable {s : State} {h : RecordHead} {r : AccountRecord} {slot : Nat}

/-- Past its last applied, the account that a record reaches is written whole, and the index follows: a LOAD reaches
every account, any other record one whose slot is not listed. -/
theorem applyAccountRecord_written (hs : s.mem.ecc = []) (named : (RecordBody.account r).slot? = some slot)
    (past : (s.mem.accounts.read slot).lastApplied < h.seq)
    (reached : (∃ image, r = .load slot image) ∨ slot ∉ s.mem.sys.damage.slots) :
    (applyAccountRecord h r s).2 = accountWritten h slot r s := by
  have unchanged : dropBy 24576 (s.mem.index.count + s.mem.index.entries.length) s.mem.index.entries.length =
      s.mem.index.count := by
    rw [dropBy_of_le (Nat.le_add_left ..), Nat.add_sub_cancel]
  have whole (other : ∀ sl image, r ≠ .load sl image) : slot ∉ s.mem.sys.damage.slots :=
    reached.resolve_left fun ⟨image, e⟩ => other slot image e
  cases r with
  | create sl n =>
    cases named
    simp only [applyAccountRecord, applyAccount_written hs (whole (by simp)) past, indexWhen]
    rw [changeIndex_of_sound (by exact hs)]
    simp only [accountWritten, AccountRecord.reindex, AccountRecord.onSys, id]
    rfl
  | edit sl _ e =>
    cases named
    simp only [applyAccountRecord, applyAccount_written hs (whole (by simp)) past, accountWritten,
      AccountRecord.on, AccountRecord.reindex, AccountRecord.onSys, id, unchanged]
    exact (State.setAccounts_alone s _).symm
  | close sl _ =>
    cases named
    simp only [applyAccountRecord, applyAccount_written hs (whole (by simp)) past, indexWhen]
    rw [changeIndex_of_sound (by exact hs)]
    simp only [accountWritten, AccountRecord.reindex, AccountRecord.onSys, id]
    rfl
  | replace sl old meter area gen =>
    cases named
    simp only [applyAccountRecord, applyAccount_written hs (whole (by simp)) past, indexWhen]
    rw [changeIndex_of_sound (by exact hs)]
    simp only [accountWritten, AccountRecord.reindex, AccountRecord.onSys, id]
    rfl
  | load sl image =>
    cases named
    simp only [applyAccountRecord, applyLoad_of_sound hs, if_pos past]
    rw [leaveDamage_of_sound (by exact hs), changeIndex_of_sound (by exact hs)]
    simp only [accountWritten, AccountRecord.reindex, AccountRecord.onSys]
    rfl
  | rekey sl _ =>
    cases named
    simp only [applyAccountRecord, applyAccount_written hs (whole (by simp)) past, accountWritten,
      AccountRecord.on, AccountRecord.reindex, AccountRecord.onSys, id, unchanged]
    exact (State.setAccounts_alone s _).symm

/-- Not past its last applied, a record changes nothing. -/
theorem applyAccountRecord_past (hs : s.mem.ecc = []) (named : (RecordBody.account r).slot? = some slot)
    (past : h.seq ≤ (s.mem.accounts.read slot).lastApplied) : (applyAccountRecord h r s).2 = s := by
  have passed (f : Account → Account) := applyAccount_past (h := h) hs (.inr past) f
  have indexed (f : Account → Account) (g : SMap IndexEntry → SMap IndexEntry) :
      indexWhen (applyAccount slot h f s) g = s := by
    rw [indexWhen_of_ne_written (passed f).1, (passed f).2]
  cases r with
  | create sl n => cases named; exact indexed _ _
  | edit sl _ e => cases named; exact (passed _).2
  | close sl _ => cases named; exact indexed _ _
  | replace sl old meter area gen => cases named; exact indexed _ _
  | load sl image => cases named; simp only [applyAccountRecord, applyLoad_of_sound hs, if_neg (Nat.not_lt.mpr past)]
  | rekey sl _ => cases named; exact (passed _).2

/-- The answer of a record other than a LOAD: the damage of a listed slot, which then changes nothing, or its own. -/
theorem applyAccountRecord_spoken (hs : s.mem.ecc = []) (named : (RecordBody.account r).slot? = some slot)
    (other : ∀ image, r ≠ .load slot image) :
    (slot ∈ s.mem.sys.damage.slots → applyAccountRecord h r s = ((.accountDamaged, .empty), s)) ∧
      (slot ∉ s.mem.sys.damage.slots → (applyAccountRecord h r s).1 = (.ok, r.answer)) := by
  have listed (f : Account → Account) (d : slot ∈ s.mem.sys.damage.slots) :
      applyAccount slot h f s = (.withheld, s) := by rw [applyAccount_of_sound hs, if_pos d]
  have whole (f : Account → Account) (body : ReplyBody) (d : slot ∉ s.mem.sys.damage.slots) :
      accountSpoken (applyAccount slot h f s).1 body = (.ok, body) := by
    rw [applyAccount_of_sound hs, if_neg d]
    split <;> rfl
  cases r with
  | load sl image => cases named; exact absurd rfl (other image)
  | create sl n | close sl _ | replace sl old meter area gen | edit sl _ e | rekey sl _ =>
    cases named
    refine ⟨fun d => ?_, fun d => whole _ _ d⟩
    simp only [applyAccountRecord, listed _ d]
    rfl

/-- A LOAD of a slot that is not listed answers so, with what the list holds. -/
theorem applyLoad_spoken_of_unlisted (hs : s.mem.ecc = []) (d : slot ∉ s.mem.sys.damage.slots) (image : Account)
    (h : RecordHead) :
    (applyLoad slot image h s).1 = (.ok, .loaded slot false s.mem.sys.damage.slots.length) := by
  have kept : s.mem.sys.damage.slots.filter (· != slot) = s.mem.sys.damage.slots :=
    List.filter_eq_self.mpr fun n hn => bne_iff_ne.mpr fun e => d (e ▸ hn)
  rw [applyLoad_of_sound hs]
  dsimp only
  rw [decide_eq_false d]
  split
  · rw [leaveDamage_of_sound (by exact hs), changeIndex_of_sound (by exact hs)]
    simp [kept]
  · rfl

/-- A LOAD of a listed slot answers so, with what the list is left with. -/
theorem applyLoad_spoken_of_listed (hs : s.mem.ecc = []) (d : slot ∈ s.mem.sys.damage.slots) (image : Account)
    (h : RecordHead) :
    (applyLoad slot image h s).1 =
      (.ok, .loaded slot true (applyLoad slot image h s).2.mem.sys.damage.slots.length) := by
  rw [applyLoad_of_sound hs]
  dsimp only
  rw [decide_eq_true d]

end

/-- What the index of an ACCOUNT record's effect holds for a number (R10, R153). -/
theorem AccountRecord.find_reindex (h : RecordHead) (r : AccountRecord) (k : Nat) {m : SMap IndexEntry}
    (rising : SMap.rising m = true) :
    SMap.find k (r.reindex h m) = match r with
      | .create slot n => if k = n.meter then some { slot := slot, kind := .live } else SMap.find k m
      | .edit _ _ _ => SMap.find k m
      | .close slot _ => (SMap.find k m).filter (fun e => e.slot != slot || false && e.kind != .live)
      | .replace slot old meter _ _ =>
        if k = meter then some { slot := slot, kind := .live }
        else if k = old then some { slot := slot, kind := .retired h.time } else SMap.find k m
      | .load slot image =>
        if image.state = .free then (SMap.find k m).filter (fun e => e.slot != slot || false && e.kind != .live)
        else if k = image.meter then some { slot := slot, kind := .live }
        else (SMap.find k m).filter (fun e => e.slot != slot || true && e.kind != .live)
      | .rekey _ _ => SMap.find k m := by
  cases r with
  | create slot n => exact SMap.find_put _ _ _ _
  | edit _ _ _ => rfl
  | close slot _ => exact find_dropEntries _ _ _ rising
  | replace slot old meter _ _ =>
    simp only [AccountRecord.reindex, SMap.find_put]
  | load slot image =>
    simp only [AccountRecord.reindex, loadEntries]
    split
    · exact find_dropEntries _ _ _ rising
    · rw [SMap.find_put, find_dropEntries _ _ _ rising]
  | rekey _ _ => rfl

/-- Settles O54: the effects of every subkind in their one form, read item by item. -/
theorem accountRecordsTakeEffect : Obligations.AccountRecordsTakeEffect := by
  intro s h r slot inService figures hs wf named after u a was kept now written entry loads listed
  obtain ⟨accounts_wf, rising, -⟩ := wf_parts.mp wf
  have now_eq : now = a.bringTo (monthOf h.time) := rfl
  refine ⟨fun past reached => ?_, fun past _ => applyAccountRecord_past hs named past, fun d other => ?_,
    fun image e d => ?_, fun image e d => ?_, fun n e d => ?_, fun notCreate other d => ?_⟩
  · have u_eq : u = accountWritten h slot r s := applyAccountRecord_written hs named past reached
    rw [u_eq]
    refine ⟨rfl, hs, ?_, ?_, fun n other => ?_, fun k => ?_, rfl, fun counted => ?_, fun other => ?_, ?_⟩
    · exact wf_parts.mpr ⟨AccountStore.write_wf accounts_wf _ _, r.reindex_rising h rising, by
        show SMap.rising s.mem.ecc = true
        rw [hs]; rfl⟩
    · have written_eq : accountAfter h (r.on h) a = { written with lastApplied := h.seq } := by
        cases r with
        | edit sl m e => simp [accountAfter, AccountRecord.on, AccountEdit.on, written, now_eq]
        | _ => rfl
      simp [accountWritten, AccountStore.read_write, a, ← written_eq]
    · simp [accountWritten, AccountStore.read_write, other]
    · refine (r.find_reindex h k rising).trans ?_
      cases r <;> cases named <;> rfl
    · show dropBy 24576 (s.mem.index.count + (r.reindex h s.mem.index.entries).length) s.mem.index.entries.length = _
      rw [counted, dropBy_of_le (Nat.le_add_right ..), Nat.add_sub_cancel_left]
      rfl
    · show r.onSys s.mem.sys = _
      cases r with
      | load sl image => cases named; exact absurd ⟨image, rfl⟩ other
      | _ => rfl
    · rintro ⟨image, e⟩
      show r.onSys s.mem.sys = _
      rw [e]
      simp only [AccountRecord.onSys, ne_eq, decide_not]
      rfl
  · exact (applyAccountRecord_spoken hs named fun image e => other ⟨image, e⟩).1 d
  · show (applyAccountRecord h r s).1 = _
    rw [e]
    exact applyLoad_spoken_of_unlisted hs d image h
  · show (applyAccountRecord h r s).1 = (.ok, .loaded slot true (applyAccountRecord h r s).2.mem.sys.damage.slots.length)
    rw [e]
    exact applyLoad_spoken_of_listed hs d image h
  · rw [show after.1 = (.ok, r.answer) from (applyAccountRecord_spoken hs named (by simp [e])).2 d, e]
    rfl
  · rw [show after.1 = (.ok, r.answer) from
      (applyAccountRecord_spoken hs named fun image e => other ⟨image, e⟩).2 d]
    cases r with
    | create sl n => cases named; exact absurd rfl (notCreate n)
    | _ => rfl

end Sys2Proof.Machine
end

section
/-!
SUPPORT. The account requests with no word of account memory disturbed: the conditions they put (R9, R13, R14, R152), and
what they answer or queue.
-/
namespace Sys2Proof.Machine

/-- A judgement goes on from what its first part gives. -/
theorem then_ok {α β : Type} {x : Judge α} {s t : State} {a : α} (h : x.run s = .ok a t) (f : α → Judge β) :
    (x >>= f).run s = (f a).run t := by
  rw [judge_bind, h]

/-! ### The hand-over -/

theorem handed_saleHolder {s : State} (hs : s.mem.ecc = []) (t : Fin 8) (slot : Nat) :
    saleHolder slot (handed t s) = saleHolder slot s := by
  unfold saleHolder
  congr 1
  funext u
  simp only [saleNames, handed_sale hs]

theorem handed_month {s : State} (hs : s.mem.ecc = []) (t : Fin 8) : (handed t s).month = s.month := by
  simp only [State.month, handed_clock hs]

theorem handed_admission {s : State} (hs : s.mem.ecc = []) (t : Fin 8) :
    admission (handed t s) = admission s := by
  obtain ⟨-, same, -⟩ := handed_facts hs t
  exact same

theorem handed_claimed {s : State} (hs : s.mem.ecc = []) (t : Fin 8) (meter : Nat) :
    claimed meter (handed t s) = claimed meter s := by
  simp only [claimed, handed_queue hs]

theorem handed_claimedSlot {s : State} (hs : s.mem.ecc = []) (t : Fin 8) (slot : Nat) :
    claimedSlot slot (handed t s) = claimedSlot slot s := by
  unfold claimedSlot
  rw [handed_queue hs]

theorem handed_indexSpace {s : State} (hs : s.mem.ecc = []) (t : Fin 8) :
    indexSpace (handed t s) = indexSpace s := by
  unfold indexSpace claimedCount
  rw [handed_queue hs, handed_mem hs]

/-! ### ACCOUNT_READ (R16) -/

/-- A lookup that finds a LIVE entry reads no record, so a listed slot is found too (R9). -/
theorem lookupMeter_of_live {s : State} (hs : s.mem.ecc = []) {meter slot : Nat} (sound : s.mem.index.damaged = false)
    (entry : SMap.find meter s.mem.index.entries = some { slot := slot, kind := .live }) :
    (lookupMeter meter).run s = .ok slot s := by
  unfold lookupMeter
  simp only [judge_bind, judge_modify, readWords_of_sound hs, readLookup, check_run, sound, Bool.not_false, if_true,
    judge_get, entry, judge_pure]

/-- A module IN_SERVICE gives the record of the slot named, or refuses it as damaged. -/
theorem ownAccountRead_of_sound {u : State} (hu : u.mem.ecc = []) (service : u.mode = .inService) (o : Owner)
    {name : AccountName} {slot : Nat} (named : (nameSlot name).run u = .ok slot u) :
    (ownAccountRead o name).run u =
      if slot ∈ u.mem.sys.damage.slots then .error (.accountDamaged, .empty) u
      else if (u.mem.accounts.read slot).state = .free then .ok (.now .freeAccount) u
      else .ok (.now (.account ((u.mem.accounts.read slot).asOf u.month) (busy slot u) (saleHolder slot u))) u := by
  unfold ownAccountRead
  rw [then_service service, then_ok named]
  by_cases listed : slot ∈ u.mem.sys.damage.slots
  · rw [judge_bind, readAccount_of_sound hu, if_pos listed, if_pos listed]
  · rw [then_account hu listed, then_get, if_neg listed]
    split <;> rfl

/-- Settles O23: the lookup names the slot, whose record is read unless it is listed. -/
theorem accountReadGivesRecordOfMonth : Obligations.AccountReadGivesRecordOfMonth := by
  intro t tag body s slot asks service names a read
  have hs := asks.sound
  have sound := handed_sound hs t
  obtain ⟨name, parsed, named⟩ : ∃ name, parseAccountRead body = some name ∧
      (nameSlot name).run (handed t s) = .ok slot (handed t s) := by
    rcases names with ⟨m, parsed, index, entry⟩ | parsed
    · exact ⟨_, parsed, lookupMeter_of_live sound (by rw [handed_mem hs]; exact index)
        (by rw [handed_mem hs]; exact entry)⟩
    · exact ⟨_, parsed, rfl⟩
  have taken : exec .accountRead s = .next (conclude Kind.accountRead.byte (terminalByte t) tag
      (if slot ∈ s.mem.sys.damage.slots then .error (.accountDamaged, .empty) (handed t s)
       else if a.state = .free then .ok (.now .freeAccount) (handed t s)
       else .ok (.now (.account read (busy slot s) (saleHolder slot s))) (handed t s))) := by
    show Host.Outcome.next (takeRequest .accountRead parseAccountRead ownAccountRead s) = _
    rw [takeRequest_of_asks asks parsed,
      ownAccountRead_of_sound sound ((handed_mode hs t).trans service) _ named, handed_mem hs, handed_month hs,
      handed_busy hs, handed_saleHolder hs]
    rfl
  rw [taken]
  refine ⟨fun whole held => ?_, fun whole free => ?_, fun listed => ?_⟩
  · rw [if_neg whole, if_neg held]
    exact congrArg _ (pushReply_answered sound ..)
  · rw [if_neg whole, if_pos free]
    exact congrArg _ (pushReply_answered sound ..)
  · rw [if_pos listed]
    exact congrArg _ (pushReply_answered sound ..)

/-! ### The conditions that account requests share -/

section
variable {u : State}

theorem needIndex_of_sound (hu : u.mem.ecc = []) (index : u.mem.index.damaged = false) :
    needIndex.run u = .ok () u := by
  simp [needIndex, then_words hu, check_run, index]

theorem searchIndex_of_sound (hu : u.mem.ecc = []) (index : u.mem.index.damaged = false) (meter : Nat) :
    (searchIndex meter).run u = .ok () u := by
  simp [searchIndex, readLookup, readWords_of_sound hu, check_run, index]

theorem searchSlot_of_sound (hu : u.mem.ecc = []) (index : u.mem.index.damaged = false) (slot : Nat) :
    (searchSlot slot).run u = .ok () u := by
  simp [searchSlot, readWords_of_sound hu, check_run, index]

/-- A number neither in a sound index nor claimed may be added (R14, R19). -/
theorem needNewNumber_of_sound (hu : u.mem.ecc = []) (index : u.mem.index.damaged = false) {meter : Nat}
    (new : SMap.find meter u.mem.index.entries = none) (unclaimed : claimed meter u = false) :
    (needNewNumber meter).run u = .ok () u := by
  unfold needNewNumber
  rw [then_ok (searchIndex_of_sound hu index meter), then_check (by simp [new]), check_run]
  simp [unclaimed]

/-- An account whose number leads to a slot that is not busy passes the checks 1 to 5 of R13. -/
theorem namedAccount_of_leads (hu : u.mem.ecc = []) (serving : Serving u) {meter slot : Nat}
    (leads : Leads meter slot u) (idle : busy slot u = false) :
    (namedAccount meter).run u = .ok (slot, u.mem.accounts.read slot) u := by
  unfold namedAccount
  rw [then_service serving.1, then_clock serving.2, then_meter hu leads, then_account hu leads.listed,
    then_check (by simp [idle])]
  rfl

/-- A slot that an ACCOUNT_CREATE may take: FREE, unclaimed and not listed as damaged (R14 check 6). -/
def Takes (n : Nat) (s : State) : Prop :=
  (s.mem.accounts.read n).state = .free ∧ claimedSlot n s = false ∧ n ∉ s.mem.sys.damage.slots

/-- The search takes the lowest such slot. -/
theorem searchFree_of_lowest (hu : u.mem.ecc = []) {slot : Nat} (takes : Takes slot u) {fuel start : Nat}
    (from_ : start ≤ slot) (within : slot < start + fuel) (lowest : ∀ n, start ≤ n → n < slot → ¬ Takes n u) :
    searchFree fuel start u = (some slot, u) := by
  induction fuel generalizing start with
  | zero => omega
  | succ fuel ih =>
    unfold searchFree
    rw [slotRecord_of_sound hu, readSlot_of_sound hu]
    rcases Nat.eq_or_lt_of_le from_ with here | below
    · subst here
      obtain ⟨free, unclaimed, unlisted⟩ := takes
      simp [free, unclaimed, unlisted]
    · have next := ih (start := start + 1) below (by omega) fun n hn => lowest n (by omega)
      have passed := lowest start le_rfl below
      split
      · exact next
      · rename_i open_
        simp only [Bool.or_eq_true, decide_eq_true_eq, not_or, Bool.not_eq_true] at open_
        have held : (u.mem.accounts.read start).state ≠ .free := fun free => passed ⟨free, open_.1, open_.2⟩
        simp [held, next]

theorem takeFreeSlot_of_lowest (hu : u.mem.ecc = []) {slot : Nat} (takes : Takes slot u) (within : slot < 16384)
    (lowest : ∀ n < slot, ¬ Takes n u) : takeFreeSlot.run u = .ok slot u := by
  unfold takeFreeSlot
  rw [then_item hu, then_get, then_set,
    searchFree_of_lowest hu takes (Nat.zero_le _) (by omega) fun n _ => lowest n]
  rfl

/-- The conditions on a sound index for an image that is not FREE (R152 check 5). -/
theorem needLoadIndex_of_sound (hu : u.mem.ecc = []) (index : u.mem.index.damaged = false) {slot meter : Nat}
    (entry : SMap.find meter u.mem.index.entries = none ∨
      SMap.find meter u.mem.index.entries = some { slot := slot, kind := .live })
    (unclaimed : claimed meter u = false) (room : liveAt slot u = true ∨ indexSpace u = true) :
    (needLoadIndex slot meter).run u = .ok () u := by
  have own : (SMap.find meter u.mem.index.entries).all (fun e => e.kind == .live && e.slot == slot) = true := by
    rcases entry with e | e <;> simp [e]
  unfold needLoadIndex
  rw [then_ok (needIndex_of_sound hu index), then_ok (searchIndex_of_sound hu index meter), then_check own,
    then_check (by simp [unclaimed]), then_ok (searchSlot_of_sound hu index slot), check_run,
    if_pos (by simpa using room)]

end

/-! ### The requests that queue a record -/

/-- A request whose owner accepts it as a journaled record leaves the state with that record queued (R124). -/
theorem exec_queues {α : Type} {s : State} {k : Kind} {parse : List Byte → Option α} {own : Owner → α → Judge Answer}
    {t : Fin 8} {tag : Tag} {body : List Byte} {a : α} {record : RecordBody} (asks : Asks k t tag body s)
    (parsed : parse body = some a) (admits : Admits s)
    (owner : (own { terminal := t, tag := tag } a).run (handed t s) =
      (journaled { terminal := t, tag := tag } record .none).run (handed t s)) :
    takeRequest k parse own s = withRecord t tag record .none (handed t s) := by
  rw [takeRequest_of_asks asks parsed, owner,
    journaled_of_sound (handed_sound asks.sound t) ((handed_admission asks.sound t).trans admits)]
  rfl

theorem handed_serving {s : State} (hs : s.mem.ecc = []) (serving : Serving s) (t : Fin 8) : Serving (handed t s) :=
  ⟨(handed_mode hs t).trans serving.1, by rw [handed_clock hs]; exact serving.2⟩

theorem handed_takes {s : State} (hs : s.mem.ecc = []) (t : Fin 8) (n : Nat) : Takes n (handed t s) ↔ Takes n s := by
  unfold Takes
  rw [handed_mem hs, handed_claimedSlot hs]

theorem accountCreate_queues {t : Fin 8} {tag : Tag} {body : List Byte} {s : State} {a : NewAccount} {slot : Nat}
    (asks : Asks .accountCreate t tag body s) (parsed : parseCreate body = some a) (serving : Serving s)
    (admits : Admits s) (index : s.mem.index.damaged = false) (new : SMap.find a.meter s.mem.index.entries = none)
    (unclaimed : claimed a.meter s = false) (room : s.mem.index.count + claimedCount s < 24576)
    (within : slot < 16384) (takes : Takes slot s) (lowest : ∀ n < slot, ¬ Takes n s) :
    exec .accountCreate s = .next (withRecord t tag (.account (.create slot a)) .none (handed t s)) := by
  have hs := asks.sound
  have hu := handed_sound hs t
  have served := handed_serving hs serving t
  have sound : (handed t s).mem.index.damaged = false := by rw [handed_mem hs]; exact index
  refine congrArg _ (exec_queues (parse := parseCreate) (own := ownCreate) asks parsed admits ?_)
  unfold ownCreate
  rw [then_service served.1, then_clock served.2, then_ok (needIndex_of_sound hu sound),
    then_ok (needNewNumber_of_sound hu sound (by rw [handed_mem hs]; exact new)
      ((handed_claimed hs t _).trans unclaimed)),
    then_ok (takeFreeSlot_of_lowest hu ((handed_takes hs t slot).mpr takes) within
      fun n hn h => lowest n hn ((handed_takes hs t n).mp h)),
    then_check ((handed_indexSpace hs t).trans (decide_eq_true room))]

/-- Settles O26: each owner's conditions hold of the state handed over, and its record is queued. -/
theorem accountRequestsQueueTheirRecords : Obligations.AccountRequestsQueueTheirRecords := by
  refine ⟨?_, ?_, ?_⟩
  · intro t tag body s a slot asks parsed serving admits index new unclaimed room takes within taken lowest
    exact accountCreate_queues asks parsed serving admits index new unclaimed room within taken lowest
  · intro t tag body s slot serving admits idle
    have named {k : Kind} {m : Nat} (asks : Asks k t tag body s) (leads : Leads m slot s) :
        (namedAccount m).run (handed t s) = .ok (slot, s.mem.accounts.read slot) (handed t s) := by
      have hs := asks.sound
      rw [namedAccount_of_leads (handed_sound hs t) (handed_serving hs serving t) (handed_leads hs leads)
        ((handed_busy hs t slot).trans idle), handed_mem hs]
    refine ⟨fun m e asks parsed leads => ?_, fun m asks parsed leads debtless => ?_, fun m asks parsed leads => ?_,
      fun r asks parsed leads new unclaimed room => ?_⟩
    · refine congrArg _ (exec_queues (parse := parseEdit) (own := ownEdit) asks parsed admits ?_)
      unfold ownEdit
      rw [then_ok (named asks leads)]
    · refine congrArg _ (exec_queues (parse := parseMeter) (own := ownClose) asks parsed admits ?_)
      unfold ownClose
      rw [then_ok (named asks leads), then_needWith (by simp [debtless])]
    · refine congrArg _ (exec_queues (parse := parseMeter) (own := ownRekey) asks parsed admits ?_)
      unfold ownRekey
      rw [then_ok (named asks leads)]
    · have hs := asks.sound
      refine congrArg _ (exec_queues (parse := parseReplace) (own := ownReplace) asks parsed admits ?_)
      unfold ownReplace
      rw [then_ok (named asks leads),
        then_ok (needNewNumber_of_sound (handed_sound hs t) (handed_leads hs leads).sound
          (by rw [handed_mem hs]; exact new) ((handed_claimed hs t _).trans unclaimed)),
        then_check ((handed_indexSpace hs t).trans (decide_eq_true room))]
  · intro t tag body s r asks parsed serving admits month zeros idle image
    have hs := asks.sound
    have served := handed_serving hs serving t
    have mem := handed_mem hs t
    refine congrArg _ (exec_queues (parse := parseLoad) (own := ownLoad) asks parsed admits ?_)
    unfold ownLoad
    rw [then_service served.1, then_clock served.2, then_check (by simp [handed_month hs, month, zeros]),
      then_check (by simp [handed_busy hs, idle])]
    rcases image with free | ⟨index, entry, unclaimed, room⟩
    · simp [free]
    · split
      · refine then_ok (needLoadIndex_of_sound (handed_sound hs t) (by rw [mem]; exact index)
          (by rw [mem]; exact entry) ((handed_claimed hs t _).trans unclaimed) ?_) _
        rw [handed_indexSpace hs]
        exact room.imp (by unfold liveAt; rw [mem]; exact id) decide_eq_true
      · rfl

end Sys2Proof.Machine
end

section
/-!
SUPPORT. INDEX_REBUILD with no word of account memory disturbed (R22): what a rebuild has made of the index once the slots
below a bound are done, kept slot by slot.
-/
namespace Sys2Proof.Machine

/-! ### The parts of a rebuild -/

theorem emptyIndex_of_sound {s : State} (hs : s.mem.ecc = []) :
    emptyIndex s = s.setIndex { entries := [], count := 0, damaged := false } := by
  rw [emptyIndex, freshWords_of_sound hs]

theorem enterDamage_of_sound {s : State} (hs : s.mem.ecc = []) (slot : Nat) :
    enterDamage slot s = s.setSys { s.mem.sys with damage := s.mem.sys.damage.enter slot } :=
  writeItem_of_sound hs _ _

/-- The entry of a slot in the damage list lists no other slot. -/
theorem DamageList.mem_enter_of_ne {l : DamageList} {slot k : Nat} (other : k ≠ slot) :
    k ∈ (l.enter slot).slots ↔ k ∈ l.slots := by
  unfold DamageList.enter
  split
  · rfl
  · split
    · simp [other]
    · rfl

/-- A new key makes a map longer by one. -/
theorem SMap.length_put_of_find_none {α : Type} {k : Nat} {m : SMap α} (h : SMap.find k m = none) (a : α) :
    (SMap.put k a m).length = m.length + 1 := by
  induction m with
  | nil => rfl
  | cons x m ih =>
    obtain ⟨j, b⟩ := x
    by_cases e : j = k
    · simp [SMap.find, e] at h
    · simp only [SMap.find, e, if_false] at h
      simp only [SMap.put, Ne.symm e, if_false]
      split
      · rfl
      · simp [ih h]

theorem rebuildSlot_of_sound {r : Rebuild} (hs : r.state.mem.ecc = []) (slot : Nat) :
    rebuildSlot slot r =
      let a := r.state.mem.accounts.read slot
      if slot ∈ r.state.mem.sys.damage.slots then { r with passed := r.passed + 1 }
      else if a.state = .free then r
      else if (SMap.find a.meter r.state.mem.index.entries).isSome then
        { passed := r.passed + 1, state := enterDamage slot r.state }
      else { r with state := addLive a.meter slot r.state } := by
  unfold rebuildSlot
  rw [damageView_of_sound hs, slotRecord_of_sound hs, readSlot_of_sound hs]

/-! ### The holders of a meter number -/

/-- A slot that a rebuild of a state takes for a meter number: not listed as damaged, not FREE, and with that number. -/
def Holds (s : State) (meter n : Nat) : Prop :=
  n ∉ s.mem.sys.damage.slots ∧ (s.mem.accounts.read n).state ≠ .free ∧ (s.mem.accounts.read n).meter = meter

/-- The lowest such slot. -/
def LowestHolder (s : State) (meter n : Nat) : Prop := Holds s meter n ∧ ∀ k < n, ¬ Holds s meter k

theorem exists_lowestHolder {s : State} {meter n : Nat} (h : Holds s meter n) :
    ∃ k ≤ n, LowestHolder s meter k := by
  classical
  exact ⟨Nat.find ⟨n, h⟩, Nat.find_min' _ h, Nat.find_spec ⟨n, h⟩, fun _ below => Nat.find_min ⟨n, h⟩ below⟩

/-- A rebuild of `s` has done the slots below `n`: each number leads to its lowest holder among them. -/
structure RebuiltBelow (s : State) (n : Nat) (u : State) : Prop where
  sound : u.mem.ecc = []
  accounts : u.mem.accounts = s.mem.accounts
  queue : u.queue = s.queue
  clear : u.mem.index.damaged = false
  listed : ∀ k, n ≤ k → (k ∈ u.mem.sys.damage.slots ↔ k ∈ s.mem.sys.damage.slots)
  live : ∀ x ∈ u.mem.index.entries, x.2.kind = .live
  count : u.mem.index.count = u.mem.index.entries.length
  entries : ∀ meter e, SMap.find meter u.mem.index.entries = some e ↔
    e.kind = .live ∧ e.slot < n ∧ LowestHolder s meter e.slot

section
variable {s u : State} {n : Nat}

theorem rebuiltBelow_emptyIndex (hs : s.mem.ecc = []) : RebuiltBelow s 0 (emptyIndex s) := by
  rw [emptyIndex_of_sound hs]
  exact ⟨hs, rfl, rfl, rfl, fun _ _ => Iff.rfl, by simp, rfl, by simp⟩

/-- A slot that is no number's lowest holder adds nothing to the index. -/
theorem RebuiltBelow.pass (h : RebuiltBelow s n u) (none : ∀ meter, ¬ LowestHolder s meter n) :
    RebuiltBelow s (n + 1) u :=
  { h with
    listed := fun k hk => h.listed k (by omega)
    entries := fun meter e => by
      rw [h.entries]
      constructor
      · rintro ⟨kind, below, lowest⟩
        exact ⟨kind, by omega, lowest⟩
      · rintro ⟨kind, below, lowest⟩
        have other : e.slot ≠ n := fun same => none meter (same ▸ lowest)
        exact ⟨kind, by omega, lowest⟩ }

/-- A slot whose number has an entry already is listed as damaged in its turn (R22 step 3). -/
theorem RebuiltBelow.enter (h : RebuiltBelow s (n + 1) u) : RebuiltBelow s (n + 1) (enterDamage n u) := by
  rw [enterDamage_of_sound h.sound]
  exact { h with
    listed := fun k hk => (DamageList.mem_enter_of_ne (by omega)).trans (h.listed k hk) }

/-- A number with no entry yet is given one that leads to its holder. -/
theorem RebuiltBelow.add (h : RebuiltBelow s n u) {meter : Nat} (holds : Holds s meter n)
    (new : SMap.find meter u.mem.index.entries = none) : RebuiltBelow s (n + 1) (addLive meter n u) := by
  have lowest : LowestHolder s meter n := by
    refine ⟨holds, fun k below held => ?_⟩
    obtain ⟨j, hj, least⟩ := exists_lowestHolder held
    have found := (h.entries meter { slot := j, kind := .live }).mpr ⟨rfl, by simp; omega, least⟩
    rw [new] at found
    cases found
  refine { sound := h.sound, accounts := h.accounts, queue := h.queue, clear := h.clear
           listed := fun k hk => h.listed k (by omega), live := fun x hx => ?_, count := ?_
           entries := fun m e => ?_ }
  · rcases SMap.mem_put hx with rfl | hx
    · rfl
    · exact h.live x hx
  · exact (congrArg (· + 1) h.count).trans (SMap.length_put_of_find_none new _).symm
  · show SMap.find m (SMap.put meter { slot := n, kind := .live } u.mem.index.entries) = some e ↔ _
    rw [SMap.find_put]
    split
    · subst m
      constructor
      · intro e_eq
        cases e_eq
        exact ⟨rfl, Nat.lt_succ_self n, lowest⟩
      · rintro ⟨kind, -, least⟩
        have slot : e.slot = n := by
          rcases Nat.lt_trichotomy e.slot n with below | same | above
          · exact absurd least.1 (lowest.2 _ below)
          · exact same
          · exact absurd lowest.1 (least.2 _ above)
        cases e
        subst slot kind
        rfl
    · rename_i other
      rw [h.entries]
      constructor
      · rintro ⟨kind, below, least⟩
        exact ⟨kind, by omega, least⟩
      · rintro ⟨kind, below, least⟩
        have slot : e.slot ≠ n := by
          intro same
          obtain ⟨⟨-, -, number⟩, -⟩ := same ▸ least
          obtain ⟨-, -, own⟩ := holds
          exact other (number.symm.trans own)
        exact ⟨kind, by omega, least⟩

/-- One slot of a rebuild is done. -/
theorem RebuiltBelow.step {r : Rebuild} (h : RebuiltBelow s n r.state) : RebuiltBelow s (n + 1) (rebuildSlot n r).state := by
  rw [rebuildSlot_of_sound h.sound]
  dsimp only
  split
  · rename_i listed
    exact h.pass fun m ⟨⟨unlisted, _⟩, _⟩ => unlisted ((h.listed n le_rfl).mp listed)
  · rename_i whole
    have unlisted := fun listed => whole ((h.listed n le_rfl).mpr listed)
    rw [h.accounts]
    split
    · rename_i free
      exact h.pass fun m ⟨⟨_, held, _⟩, _⟩ => held free
    · rename_i held
      split
      · rename_i taken
        obtain ⟨e, found⟩ := Option.isSome_iff_exists.mp taken
        obtain ⟨-, below, earlier, -⟩ := (h.entries _ e).mp found
        exact (h.pass fun m ⟨⟨_, _, number⟩, least⟩ => least _ below (number ▸ earlier)).enter
      · rename_i new
        exact h.add ⟨unlisted, held, rfl⟩ (Option.not_isSome_iff_eq_none.mp new)

theorem RebuiltBelow.run (fuel : Nat) {r : Rebuild} (h : RebuiltBelow s n r.state) :
    RebuiltBelow s (n + fuel) (rebuildFrom fuel n r).state := by
  induction fuel generalizing n r with
  | zero => exact h
  | succ fuel ih =>
    have next := ih h.step
    rwa [Nat.add_assoc, Nat.add_comm 1 fuel] at next

end

theorem conclude_now (k terminal : Byte) (tag : Tag) (body : ReplyBody) (s : State) :
    conclude k terminal tag (.ok (.now body) s) = pushReply k terminal tag .ok body s := rfl

/-- An INDEX_REBUILD in an IN_SERVICE module rebuilds over all slots and answers with the count (R22). -/
theorem ownRebuild_of_sound {u : State} (hu : u.mem.ecc = []) (service : u.mode = .inService) (o : Owner) :
    (ownRebuild o ()).run u =
      .ok (.now (.rebuilt (rebuildFrom 16384 0 { passed := 0, state := emptyIndex u }).state.mem.index.count
          (rebuildFrom 16384 0 { passed := 0, state := emptyIndex u }).passed))
        (rebuildFrom 16384 0 { passed := 0, state := emptyIndex u }).state := by
  unfold ownRebuild
  rw [then_service service, then_item hu, then_get, then_set, judge_pure]

theorem rebuiltBelow_rebuildFrom {s : State} (hs : s.mem.ecc = []) (fuel : Nat) :
    RebuiltBelow s fuel (rebuildFrom fuel 0 { passed := 0, state := emptyIndex s }).state := by
  have done := RebuiltBelow.run fuel (r := { passed := 0, state := emptyIndex s }) (rebuiltBelow_emptyIndex hs)
  rwa [Nat.zero_add] at done

/-- The index of a rebuild of the slots below `n`, in the terms of the state it was asked of. -/
theorem RebuiltBelow.outcome {s u v : State} {n : Nat} (h : RebuiltBelow v n u) (mem : v.mem = s.mem)
    (queue : v.queue = s.queue) :
    u.mem.index.damaged = false ∧ u.mem.accounts = s.mem.accounts ∧ u.queue = s.queue ∧
      u.mem.index.count = (u.mem.index.entries.filter (fun x => x.2.kind == .live)).length ∧
      ∀ (m : Nat) (e : IndexEntry),
        let holds (k : Nat) : Prop :=
          k < n ∧ k ∉ s.mem.sys.damage.slots ∧ (s.mem.accounts.read k).state ≠ .free ∧
            (s.mem.accounts.read k).meter = m
        (SMap.find m u.mem.index.entries = some e ↔ e.kind = .live ∧ holds e.slot ∧ ∀ k < e.slot, ¬ holds k) := by
  refine ⟨h.clear, h.accounts.trans (by rw [mem]), h.queue.trans queue, ?_, fun m e => ?_⟩
  · rw [h.count, List.filter_eq_self.mpr fun x hx => by simp [h.live x hx]]
  · rw [h.entries m e]
    unfold LowestHolder Holds
    rw [mem]
    constructor
    · rintro ⟨kind, below, holds, least⟩
      exact ⟨kind, ⟨below, holds⟩, fun k hk held => least k hk held.2⟩
    · rintro ⟨kind, ⟨below, holds⟩, least⟩
      exact ⟨kind, below, holds, fun k hk held => least k hk ⟨by omega, held⟩⟩

/-- Settles O27: after the last slot every number leads to its lowest holder of all. -/
theorem indexRebuildFindsLowestHolder : Obligations.IndexRebuildFindsLowestHolder := by
  intro t tag s asks service
  have hu := handed_sound asks.sound t
  have done := rebuiltBelow_rebuildFrom hu 16384
  have run := ownRebuild_of_sound hu ((handed_mode asks.sound t).trans service) { terminal := t, tag := tag }
  refine ⟨?_, done.outcome (handed_mem asks.sound t) (handed_queue asks.sound t)⟩
  unfold exec execIndexRebuild
  rw [takeRequest_of_asks (parse := parseNothing) (a := ()) asks rfl, run, conclude_now,
    pushReply_answered done.sound]

end Sys2Proof.Machine
end

section
/-!
SUPPORT. The parts of the credit computation (R35 to R41): tax and the clearing tender, recovery of debt, the walk through
the tariff blocks, and the search for the suggested tender.
-/
namespace Sys2Proof.Machine

/-! ### The net amount and the clearing tender (R35, R37) -/

/-- A tender yields a net amount of `m` when it covers `m` with its tax. -/
theorem le_netAmount_iff {m tender tax : Nat} : m ≤ netAmount tender tax ↔ m * (10000 + tax) ≤ tender * 10000 :=
  Nat.le_div_iff_mul_le (by omega)

theorem netAmount_le (tender tax : Nat) : netAmount tender tax ≤ tender :=
  (Nat.div_le_div_left (by omega) (by omega)).trans_eq (Nat.mul_div_cancel tender (by omega : 0 < 10000))

theorem netAmount_mono {T U : Nat} (h : T ≤ U) (tax : Nat) : netAmount T tax ≤ netAmount U tax :=
  Nat.div_le_div_right (Nat.mul_le_mul_right _ h)

/-- A cent more of tender is at most a cent more of net amount. -/
theorem netAmount_succ_le (T tax : Nat) : netAmount (T + 1) tax ≤ netAmount T tax + 1 := by
  have covered := le_netAmount_iff.mp (le_refl (netAmount (T + 1) tax))
  suffices h : netAmount (T + 1) tax - 1 ≤ netAmount T tax by omega
  rw [le_netAmount_iff, Nat.sub_mul]
  omega

/-- The tenders whose net amount a debt takes are those up to the clearing tender, before its limit is put to it. -/
theorem netAmount_le_iff {T debt tax : Nat} :
    netAmount T tax ≤ debt ↔ T ≤ ceilDiv ((debt + 1) * (10000 + tax)) 10000 - 1 := by
  have above : netAmount T tax ≤ debt ↔ T * 10000 < (debt + 1) * (10000 + tax) := by
    rw [← not_le, ← le_netAmount_iff]
    omega
  have positive : 0 < (debt + 1) * (10000 + tax) := by positivity
  rw [above, ceilDiv]
  omega

theorem clearingTender_le (debt tax : Nat) : clearingTender debt tax ≤ maxTender := min_le_left _ _

/-- Up to the greatest tender, those whose net amount a debt takes are those up to the clearing tender. -/
theorem netAmount_le_iff_le_clearingTender {T debt tax : Nat} (limit : T ≤ maxTender) :
    netAmount T tax ≤ debt ↔ T ≤ clearingTender debt tax := by
  rw [netAmount_le_iff, clearingTender, le_min_iff, and_iff_right limit]

/-- When a tender within the limit is too much for a debt, the clearing tender pays the debt exactly. -/
theorem netAmount_clearingTender {T debt tax : Nat} (limit : T ≤ maxTender) (excess : debt < netAmount T tax) :
    netAmount (clearingTender debt tax) tax = debt := by
  have fits := (netAmount_le_iff_le_clearingTender (debt := debt) (tax := tax) (clearingTender_le debt tax)).mpr le_rfl
  have below : clearingTender debt tax < T := by
    rw [← not_le, ← netAmount_le_iff_le_clearingTender limit]
    omega
  have next : debt < netAmount (clearingTender debt tax + 1) tax := by
    rw [← not_le, netAmount_le_iff_le_clearingTender (by omega)]
    omega
  have step := netAmount_succ_le (clearingTender debt tax) tax
  omega

/-! ### Recovery and the money for energy (R36) -/

section
variable {i : CreditInputs}

theorem energyMoney_eq (i : CreditInputs) (T : Nat) :
    energyMoney i T = netAmount T i.tax - min i.debt (netAmount T i.tax * i.rate / 10000) := rfl

/-- At most half of the net amount is recovered at a rate up to 5,000. -/
theorem two_mul_recoveredAmount_le {rate : Nat} (h : rate ≤ 5000) (net debt : Nat) :
    2 * recoveredAmount net debt rate ≤ net := by
  have part : recoveredAmount net debt rate ≤ net * rate / 10000 := min_le_right _ _
  have half : net * rate ≤ net * 5000 := Nat.mul_le_mul_left _ h
  omega

theorem recoveredAmount_of_zero {net debt rate : Nat} (h : rate = 0 ∨ debt = 0) : recoveredAmount net debt rate = 0 := by
  unfold recoveredAmount
  rcases h with rfl | rfl
  · simp
  · exact Nat.zero_min _

theorem netAmount_le_two_mul_energyMoney (h : i.rate ≤ 5000) (T : Nat) :
    netAmount T i.tax ≤ 2 * energyMoney i T := by
  have half := two_mul_recoveredAmount_le h (netAmount T i.tax) i.debt
  unfold energyMoney
  omega

/-- A greater tender leaves no less for energy: the part recovered grows no faster than the net amount. -/
theorem energyMoney_mono (h : i.rate ≤ 5000) {T U : Nat} (le : T ≤ U) : energyMoney i T ≤ energyMoney i U := by
  obtain ⟨d, net⟩ := Nat.exists_eq_add_of_le (netAmount_mono le i.tax)
  rw [energyMoney_eq, energyMoney_eq, net, Nat.add_mul]
  have slow : d * i.rate ≤ d * 5000 := Nat.mul_le_mul_left _ h
  omega

end

/-! ### One block of the walk (R38 steps 3 to 5) -/

/-- The units a walk takes from a block: no more than the room up to a bound, and no more than the budget affords. -/
def Walk.affords (w : Walk) (bound : Nat) (b : TariffBlock) : Nat := min (bound - w.month) (w.budget / b.price)

/-- The last block: its room ends at the limit of the month units, and here alone a walk may saturate (R39). -/
theorem walkBlocks_last (n : Nat) (b : TariffBlock) (w : Walk) :
    walkBlocks [(n, b)] w = { w.takes n b.price (w.affords monthLimit b) with
      saturated := decide (w.affords monthLimit b = monthLimit - w.month) &&
        decide (b.price ≤ (w.takes n b.price (w.affords monthLimit b)).budget) } := rfl

/-- Another block whose whole room is taken: the walk goes on from it (R38 step 6). -/
theorem walkBlocks_full {b : TariffBlock} {w : Walk} (full : w.affords b.bound b = b.bound - w.month) (n : Nat)
    (c : Nat × TariffBlock) (r : List (Nat × TariffBlock)) :
    walkBlocks ((n, b) :: c :: r) w = walkBlocks (c :: r) (w.takes n b.price (w.affords b.bound b)) := if_pos full

/-- Another block left with room to spare: the walk ends in it. -/
theorem walkBlocks_spare {b : TariffBlock} {w : Walk} (spare : w.affords b.bound b ≠ b.bound - w.month) (n : Nat)
    (c : Nat × TariffBlock) (r : List (Nat × TariffBlock)) :
    walkBlocks ((n, b) :: c :: r) w = w.takes n b.price (w.affords b.bound b) := if_neg spare

/-- Induction along a walk, in these terms. -/
theorem walk_induction {P : List (Nat × TariffBlock) → Walk → Prop} (nil : ∀ w, P [] w)
    (last : ∀ n b w, P [(n, b)] w)
    (full : ∀ n b c r w, w.affords b.bound b = b.bound - w.month →
      P (c :: r) (w.takes n b.price (w.affords b.bound b)) → P ((n, b) :: c :: r) w)
    (spare : ∀ n b c r w, w.affords b.bound b ≠ b.bound - w.month → P ((n, b) :: c :: r) w)
    (bs : List (Nat × TariffBlock)) (w : Walk) : P bs w := by
  induction bs generalizing w with
  | nil => exact nil w
  | cons x r ih =>
    cases r with
    | nil => exact last x.1 x.2 w
    | cons c r =>
      by_cases h : w.affords x.2.bound x.2 = x.2.bound - w.month
      · exact full x.1 x.2 c r w h (ih _)
      · exact spare x.1 x.2 c r w h

section
variable {v w : Walk}

theorem Walk.affords_le_room (w : Walk) (bound : Nat) (b : TariffBlock) : w.affords bound b ≤ bound - w.month :=
  min_le_left _ _

theorem Walk.affords_mul_le (w : Walk) (bound : Nat) (b : TariffBlock) : w.affords bound b * b.price ≤ w.budget :=
  (Nat.mul_le_mul_right _ (min_le_right _ _)).trans (Nat.div_mul_le_self _ _)

/-- A block left with room to spare leaves less than its price. -/
theorem Walk.takes_budget_lt {bound : Nat} {b : TariffBlock} (price : 1 ≤ b.price)
    (room : w.affords bound b ≠ bound - w.month) (n : Nat) :
    (w.takes n b.price (w.affords bound b)).budget < b.price := by
  have all : w.affords bound b = w.budget / b.price := by
    unfold Walk.affords at room ⊢
    omega
  show w.budget - w.affords bound b * b.price < b.price
  rw [all, ← Nat.mod_eq_sub_div_mul]
  exact Nat.mod_lt _ price

/-! ### A walk with more to spend (R38, R41) -/

theorem walkBlocks_units_le (bs : List (Nat × TariffBlock)) (w : Walk) : w.units ≤ (walkBlocks bs w).units := by
  induction bs, w using walk_induction with
  | nil w => exact le_rfl
  | last n b w => exact Nat.le_add_right _ _
  | full n b c r w full ih =>
    rw [walkBlocks_full full]
    exact (Nat.le_add_right _ _).trans ih
  | spare n b c r w spare =>
    rw [walkBlocks_spare spare]
    exact Nat.le_add_right _ _

/-- Two walks that have come to one place, the second with no less to spend. -/
structure Walk.Beside (v w : Walk) : Prop where
  month : v.month = w.month
  units : v.units = w.units
  budget : v.budget ≤ w.budget
  going : v.saturated = false

theorem Walk.Beside.affords_le (h : v.Beside w) (bound : Nat) (b : TariffBlock) :
    v.affords bound b ≤ w.affords bound b := by
  unfold Walk.affords
  rw [h.month]
  exact min_le_min_left _ (Nat.div_le_div_right h.budget)

/-- Where the one takes the whole room, so does the other. -/
theorem Walk.Beside.affords_eq (h : v.Beside w) {bound : Nat} {b : TariffBlock}
    (full : v.affords bound b = bound - v.month) : w.affords bound b = v.affords bound b := by
  have le := h.affords_le bound b
  have room := w.affords_le_room bound b
  rw [← h.month] at room
  omega

theorem Walk.Beside.takes (h : v.Beside w) (n price q : Nat) : (v.takes n price q).Beside (w.takes n price q) :=
  ⟨congrArg (· + q) h.month, congrArg (· + q) h.units, Nat.sub_le_sub_right h.budget _, h.going⟩

/-- With no less to spend a walk buys no less, and saturates where the other does. -/
theorem walkBlocks_mono (bs : List (Nat × TariffBlock)) (h : v.Beside w) :
    (walkBlocks bs v).units ≤ (walkBlocks bs w).units ∧
      ((walkBlocks bs v).saturated = true → (walkBlocks bs w).saturated = true) := by
  induction bs, v using walk_induction generalizing w with
  | nil v => exact ⟨h.units.le, fun s => by simp [walkBlocks, h.going] at s⟩
  | last n b v =>
    simp only [walkBlocks_last, Bool.and_eq_true, decide_eq_true_eq]
    refine ⟨Nat.add_le_add h.units.le (h.affords_le _ _), fun ⟨full, left⟩ => ?_⟩
    rw [h.affords_eq full, ← h.month]
    exact ⟨full, left.trans (h.takes n b.price _).budget⟩
  | full n b c r v full ih =>
    have same := h.affords_eq full
    rw [walkBlocks_full full, walkBlocks_full (same.trans (h.month ▸ full)), same]
    exact ih (h.takes n b.price _)
  | spare n b c r v spare =>
    rw [walkBlocks_spare spare]
    refine ⟨?_, fun s => absurd (h.going.symm.trans s) (by simp)⟩
    have first : (v.takes n b.price (v.affords b.bound b)).units ≤ (w.takes n b.price (w.affords b.bound b)).units :=
      Nat.add_le_add h.units.le (h.affords_le _ _)
    by_cases full : w.affords b.bound b = b.bound - w.month
    · rw [walkBlocks_full full]
      exact first.trans (walkBlocks_units_le _ _)
    · rwa [walkBlocks_spare full]

theorem walk_mono (blocks : List TariffBlock) (month : Nat) {b c : Nat} (h : b ≤ c) :
    (walk blocks month b).units ≤ (walk blocks month c).units ∧
      ((walk blocks month b).saturated = true → (walk blocks month c).saturated = true) :=
  walkBlocks_mono _ ⟨rfl, rfl, h, rfl⟩

end

/-! ### The account a walk gives (R38) -/

/-- The walk accounts for its budget and its units: each block touched is one of the class, at its price. -/
structure Walk.Accounted (w : Walk) (blocks : List TariffBlock) (month budget : Nat) : Prop where
  spent : budget = (w.touched.map (fun x => x.units * x.price)).sum + w.budget
  bought : w.units = (w.touched.map (·.units)).sum
  month : w.month = month + w.units
  within : w.month ≤ monthLimit
  listed : ∀ x ∈ w.touched, 1 ≤ x.units ∧ 1 ≤ x.number ∧ ∃ b, blocks[x.number - 1]? = some b ∧ x.price = b.price

/-- A numbered block is the one of its number among the blocks of a class. -/
def Numbers (blocks : List TariffBlock) (x : Nat × TariffBlock) : Prop := 1 ≤ x.1 ∧ blocks[x.1 - 1]? = some x.2

section
variable {blocks : List TariffBlock} {month budget : Nat} {w : Walk}

/-- Units taken within the room and the budget are accounted for. -/
theorem Walk.Accounted.takes (h : w.Accounted blocks month budget) {n bound : Nat} {b : TariffBlock}
    (named : Numbers blocks (n, b)) (limit : bound ≤ monthLimit) :
    (w.takes n b.price (w.affords bound b)).Accounted blocks month budget := by
  have room := w.affords_le_room bound b
  have paid := w.affords_mul_le bound b
  obtain ⟨spent, bought, month_eq, within, listed⟩ := h
  generalize w.affords bound b = q at room paid ⊢
  unfold Walk.takes
  by_cases none : q = 0
  · subst none
    simp only [Nat.zero_mul, Nat.sub_zero, Nat.add_zero, if_true]
    exact ⟨spent, bought, month_eq, within, listed⟩
  · simp only [none, if_false]
    refine ⟨?_, ?_, ?_, ?_, ?_⟩
    · simp only [List.map_append, List.map_cons, List.map_nil, List.sum_append, List.sum_singleton]
      omega
    · simp [bought]
    · simp only [month_eq]
      omega
    · simp only
      omega
    · intro x hx
      rcases List.mem_append.mp hx with old | new
      · exact listed x old
      · rw [List.mem_singleton.mp new]
        exact ⟨Nat.one_le_iff_ne_zero.mpr none, named.1, b, named.2, rfl⟩

theorem walkBlocks_accounted {bs : List (Nat × TariffBlock)} (h : w.Accounted blocks month budget)
    (named : ∀ x ∈ bs, Numbers blocks x ∧ x.2.bound ≤ monthLimit) :
    (walkBlocks bs w).Accounted blocks month budget := by
  induction bs, w using walk_induction with
  | nil w => exact h
  | last n b w =>
    rw [walkBlocks_last]
    obtain ⟨spent, bought, month_eq, within, listed⟩ := h.takes (named _ List.mem_cons_self).1 (le_refl monthLimit)
    exact ⟨spent, bought, month_eq, within, listed⟩
  | full n b c r w full ih =>
    rw [walkBlocks_full full]
    obtain ⟨number, limit⟩ := named _ List.mem_cons_self
    exact ih (h.takes number limit) fun x hx => named x (List.mem_cons_of_mem _ hx)
  | spare n b c r w spare =>
    rw [walkBlocks_spare spare]
    obtain ⟨number, limit⟩ := named _ List.mem_cons_self
    exact h.takes number limit

/-- A walk that does not saturate ends with less than the price of its last block. -/
theorem walkBlocks_budget_lt {bs : List (Nat × TariffBlock)} {limit : Nat} (stocked : bs ≠ [])
    (prices : ∀ x ∈ bs, 1 ≤ x.2.price ∧ x.2.price ≤ limit) (going : (walkBlocks bs w).saturated = false) :
    (walkBlocks bs w).budget < limit := by
  induction bs, w using walk_induction with
  | nil w => exact absurd rfl stocked
  | last n b w =>
    obtain ⟨positive, le⟩ := prices _ List.mem_cons_self
    rw [walkBlocks_last] at going ⊢
    refine lt_of_lt_of_le ?_ le
    by_cases full : w.affords monthLimit b = monthLimit - w.month
    · simpa [full] using going
    · exact Walk.takes_budget_lt positive full n
  | full n b c r w full ih =>
    rw [walkBlocks_full full] at going ⊢
    exact ih (List.cons_ne_nil _ _) (fun x hx => prices x (List.mem_cons_of_mem _ hx)) going
  | spare n b c r w spare =>
    obtain ⟨positive, le⟩ := prices _ List.mem_cons_self
    rw [walkBlocks_spare spare]
    exact lt_of_lt_of_le (Walk.takes_budget_lt positive spare n) le

/-! ### The blocks of a walk (R38 step 2) -/

theorem mem_numbered {x : Nat × TariffBlock} {n : Nat} (h : x ∈ numbered n blocks) :
    n ≤ x.1 ∧ blocks[x.1 - n]? = some x.2 := by
  induction blocks generalizing n with
  | nil => cases h
  | cons b r ih =>
    rcases List.mem_cons.mp h with rfl | later
    · simp
    · obtain ⟨past, found⟩ := ih later
      obtain ⟨d, e⟩ := Nat.exists_eq_add_of_le past
      refine ⟨by omega, ?_⟩
      rw [show x.1 - n = (x.1 - (n + 1)) + 1 by omega, List.getElem?_cons_succ, found]

theorem startBlocks_suffix (month : Nat) (bs : List (Nat × TariffBlock)) : startBlocks month bs <:+ bs := by
  induction bs using startBlocks.induct month with
  | case1 => exact List.suffix_rfl
  | case2 b => exact List.suffix_rfl
  | case3 b c r starts =>
    rw [startBlocks, if_pos starts]
  | case4 b c r past ih =>
    rw [startBlocks, if_neg past]
    exact ih.trans (List.suffix_cons _ _)

theorem startBlocks_ne_nil (month : Nat) {bs : List (Nat × TariffBlock)} (h : bs ≠ []) : startBlocks month bs ≠ [] := by
  induction bs using startBlocks.induct month with
  | case1 => exact h
  | case2 b => exact h
  | case3 b c r starts => rwa [startBlocks, if_pos starts]
  | case4 b c r past ih =>
    rw [startBlocks, if_neg past]
    exact ih (List.cons_ne_nil _ _)

/-- The blocks a walk goes through are blocks of the class, each under its number. -/
theorem numbers_of_mem_startBlocks {x : Nat × TariffBlock} (h : x ∈ startBlocks month (numbered 1 blocks)) :
    Numbers blocks x ∧ x.2 ∈ blocks := by
  obtain ⟨past, found⟩ := mem_numbered ((startBlocks_suffix month _).subset h)
  exact ⟨⟨past, found⟩, List.mem_of_getElem? found⟩

theorem walk_accounted (start : month ≤ monthLimit) (bounds : ∀ b ∈ blocks, b.bound ≤ monthLimit) :
    (walk blocks month budget).Accounted blocks month budget := by
  refine walkBlocks_accounted ⟨by simp, rfl, rfl, start, by simp⟩ fun x hx => ?_
  obtain ⟨numbers, mem⟩ := numbers_of_mem_startBlocks hx
  exact ⟨numbers, bounds _ mem⟩

theorem walk_budget_lt {limit : Nat} (stocked : blocks ≠ []) (prices : ∀ b ∈ blocks, 1 ≤ b.price ∧ b.price ≤ limit)
    (going : (walk blocks month budget).saturated = false) : (walk blocks month budget).budget < limit := by
  refine walkBlocks_budget_lt (startBlocks_ne_nil month ?_)
    (fun x hx => prices _ (numbers_of_mem_startBlocks hx).2) going
  cases blocks with
  | nil => exact absurd rfl stocked
  | cons b r => exact List.cons_ne_nil _ _

end

/-! ### The tenders that fit, and the suggested one (R41) -/

section
variable {i : CreditInputs}

theorem fits_iff (T : Nat) : fits i T = true ↔
    (walkOf i T).units + allowanceOf i ≤ i.maxPerSale ∧ (walkOf i T).saturated = false := by
  simp [fits]

theorem walkOf_mono (rate : i.rate ≤ 5000) {T U : Nat} (le : T ≤ U) :
    (walkOf i T).units ≤ (walkOf i U).units ∧
      ((walkOf i T).saturated = true → (walkOf i U).saturated = true) :=
  walk_mono _ _ (Nat.add_le_add_right (Nat.mul_le_mul_right _ (energyMoney_mono rate le)) _)

/-- A tender below one that fits, fits. -/
theorem fits_of_le (rate : i.rate ≤ 5000) {T U : Nat} (le : T ≤ U) (h : fits i U = true) : fits i T = true := by
  obtain ⟨units, saturated⟩ := walkOf_mono rate le
  obtain ⟨within, going⟩ := (fits_iff U).mp h
  refine (fits_iff T).mpr ⟨by omega, ?_⟩
  rw [Bool.eq_false_iff] at going ⊢
  exact fun s => going (saturated s)

end

/-- The search has the boundary of `p` within `width` above `low`. -/
structure Brackets (p : Nat → Bool) (low width : Nat) : Prop where
  within : low ≤ maxTender
  passes : low = 0 ∨ p low = true
  above : ∀ T, low + width ≤ T → T ≤ maxTender → p T = false

/-- The search of a property that holds of all tenders below one it holds of halves the width down to 1. -/
theorem Brackets.search {p : Nat → Bool} (down : ∀ T U, T ≤ U → p U = true → p T = true) {k low : Nat}
    (h : Brackets p low (2 ^ k)) : Brackets p (searchTender p k low) 1 := by
  induction k generalizing low with
  | zero => exact h
  | succ k ih =>
    rw [searchTender]
    split
    · rename_i up
      refine ih ⟨up.1, .inr up.2, fun T hT => h.above T ?_⟩
      rw [pow_succ]
      omega
    · rename_i stay
      refine ih ⟨h.within, h.passes, fun T hT limit => ?_⟩
      by_contra pass
      exact stay ⟨hT.trans limit, down _ _ hT (by simpa using pass)⟩

theorem suggestedTender_brackets {i : CreditInputs} (rate : i.rate ≤ 5000) :
    Brackets (fits i) (suggestedTender i) 1 :=
  Brackets.search (fun _ _ => fits_of_le rate) ⟨Nat.zero_le _, .inl rfl, fun T hT limit => by
    simp only [maxTender] at limit
    omega⟩

end Sys2Proof.Machine
end

section
/-!
SUPPORT. The statements about the credit computation: what a SALE and a PAYMENT are refused with and what they yield (R34 to
R43).
-/
namespace Sys2Proof.Machine

/-- What a SALE yields when no stage refuses it (R43). -/
def saleResult (i : CreditInputs) : CreditResult :=
  { tax := i.tender - netAmount i.tender i.tax
    recovered := recoveredAmount (netAmount i.tender i.tax) i.debt i.rate
    purchased := (walkOf i i.tender).units
    allowance := allowanceOf i
    carryBefore := i.carry
    carryAfter := (walkOf i i.tender).budget
    monthBefore := i.month
    monthAfter := (walkOf i i.tender).month
    allowanceAfter := i.issued + allowanceOf i
    debtAfter := i.debt - recoveredAmount (netAmount i.tender i.tax) i.debt i.rate
    touched := (walkOf i i.tender).touched }

theorem computeSale_belowMinimum {i : CreditInputs} (h : i.tender < i.minSale) :
    computeSale i = .error (.belowMinimum, .minimum i.minSale) := by
  unfold computeSale
  exact if_pos h

theorem computeSale_amountHigh {i : CreditInputs} (minimum : i.minSale ≤ i.tender) (h : fits i i.tender = false) :
    computeSale i = .error (.amountHigh, .amountHigh (suggestedTender i) i.maxPerSale) := by
  have high : (walkOf i i.tender).saturated = true ∨ i.maxPerSale < (walkOf i i.tender).units + allowanceOf i := by
    simp only [fits, Bool.and_eq_false_iff, decide_eq_false_iff_not, Bool.not_eq_false'] at h
    exact h.symm.imp id Nat.lt_of_not_le
  unfold computeSale
  dsimp only
  rw [if_neg (Nat.not_lt.mpr minimum)]
  rcases high with saturated | excess
  · rw [if_pos saturated]
  · rw [if_pos excess, ite_self]

/-- A tender at or above the minimum that fits is refused for want of units or of reserve, or yields its result. -/
theorem computeSale_of_fits {i : CreditInputs} (minimum : i.minSale ≤ i.tender) (h : fits i i.tender = true) :
    computeSale i =
      if (walkOf i i.tender).units + allowanceOf i = 0 then .error (.nothingToIssue, .debt i.debt)
      else if i.available < (walkOf i i.tender).units + allowanceOf i then
        .error (.reserveShort, .available i.available)
      else .ok (saleResult i) := by
  obtain ⟨within, going⟩ := (fits_iff _).mp h
  unfold computeSale
  dsimp only
  rw [if_neg (Nat.not_lt.mpr minimum), going, if_neg Bool.false_ne_true, if_neg (Nat.not_lt.mpr within)]
  rfl

/-- A SALE that yields a result has passed every stage's check. -/
theorem computeSale_eq_ok {i : CreditInputs} {r : CreditResult} (h : computeSale i = .ok r) :
    r = saleResult i ∧ fits i i.tender = true ∧ 1 ≤ (walkOf i i.tender).units + allowanceOf i ∧
      (walkOf i i.tender).units + allowanceOf i ≤ i.available := by
  rcases Nat.lt_or_ge i.tender i.minSale with below | minimum
  · rw [computeSale_belowMinimum below] at h
    cases h
  cases fit : fits i i.tender with
  | false =>
    rw [computeSale_amountHigh minimum fit] at h
    cases h
  | true =>
    rw [computeSale_of_fits minimum fit] at h
    split at h
    · cases h
    · split at h
      · cases h
      · cases h
        exact ⟨rfl, rfl, by omega, by omega⟩

/-- A tender at or above the minimum is not refused as below it. -/
theorem computeSale_ne_belowMinimum {i : CreditInputs} (minimum : i.minSale ≤ i.tender) (e : ReplyBody) :
    computeSale i ≠ .error (.belowMinimum, e) := by
  cases fit : fits i i.tender with
  | false =>
    rw [computeSale_amountHigh minimum fit]
    simp
  | true =>
    rw [computeSale_of_fits minimum fit]
    split
    · simp
    · split <;> simp

/-- Settles O55: the minimum is the first check of a SALE alone, and recovery grows no faster than the net amount. -/
theorem minimumAndRecoveryGoByRule : Obligations.MinimumAndRecoveryGoByRule := by
  intro i rate
  refine ⟨computeSale_belowMinimum, computeSale_ne_belowMinimum, computeSale_ne_belowMinimum (Nat.zero_le _),
    fun _ => rfl, fun r ok => ?_, energyMoney_eq i, fun T zero => ?_, netAmount_le_two_mul_energyMoney rate,
    fun T U le => ⟨energyMoney_mono rate le, (walkOf_mono rate le).1⟩, fun _ => rfl, fun T zero => ?_⟩
  · obtain ⟨rfl, -⟩ := computeSale_eq_ok ok
    exact ⟨rfl, rfl, min_le_left _ _⟩
  · have none := recoveredAmount_of_zero (net := netAmount T i.tax) zero
    exact ⟨none, by rw [energyMoney, none, Nat.sub_zero]⟩
  · rw [walkOf, zero, Nat.zero_mul, Nat.zero_add]

/-- What a PAYMENT yields (R37). -/
theorem compute_payment_ok {i : CreditInputs} (payment : i.mode = .payment) (positive : 0 < netAmount i.tender i.tax)
    (within : netAmount i.tender i.tax ≤ i.debt) :
    compute i = .ok
      { tax := i.tender - netAmount i.tender i.tax, recovered := netAmount i.tender i.tax, purchased := 0
        allowance := 0, carryBefore := i.carry, carryAfter := i.carry, monthBefore := i.month, monthAfter := i.month
        allowanceAfter := i.issued, debtAfter := i.debt - netAmount i.tender i.tax, touched := [] } := by
  simp only [compute, payment, computePayment]
  rw [if_neg (by omega), if_neg (by omega), if_neg (by omega)]

/-- Settles O56: the checks of a PAYMENT in their order, and the clearing tender as the boundary of net amounts. -/
theorem paymentComputationGoesByRule : Obligations.PaymentComputationGoesByRule := by
  intro i payment net clearing
  have paid : compute i = computePayment i := by rw [compute, payment]
  have boundary {T : Nat} (limit : T ≤ 5000000) : net T ≤ i.debt ↔ T ≤ clearing :=
    netAmount_le_iff_le_clearingTender limit
  have limit : clearing ≤ 5000000 := clearingTender_le _ _
  refine ⟨fun none => ?_, fun owing excess => ?_, fun owing none => ?_, compute_payment_ok payment, fun r => ?_,
    fun T => ⟨netAmount_mono (Nat.le_succ T) _, netAmount_succ_le T _⟩,
    ⟨limit, (boundary limit).mpr le_rfl, fun T above within => ?_⟩, fun below => ?_, fun owing excess within => ?_⟩
  · rw [paid]
    exact if_pos none
  · rw [paid, computePayment, if_neg owing]
    exact if_pos excess
  · have within : ¬ i.debt < netAmount i.tender i.tax := by
      show ¬ i.debt < net i.tender
      omega
    rw [paid, computePayment, if_neg owing, if_neg within]
    exact if_pos none
  · rw [payment]
    rfl
  · rw [← not_le, boundary within]
    omega
  · have fits := (le_netAmount_iff (m := i.debt + 1) (tender := clearing) (tax := i.tax)).not.mp
      (by rw [not_le, Nat.lt_succ_iff]; exact (boundary limit).mpr le_rfl)
    have next := (le_netAmount_iff (m := i.debt + 1) (tender := clearing + 1) (tax := i.tax)).mp
      (by rw [Nat.succ_le_iff, ← not_le]; exact (boundary (by omega)).not.mpr (by omega))
    omega
  · have exactly : netAmount clearing i.tax = i.debt := netAmount_clearingTender within excess
    refine ⟨exactly, _, compute_payment_ok (i := { i with tender := clearing }) payment ?_ exactly.le, ?_⟩
    · show 0 < netAmount clearing i.tax
      omega
    · show i.debt - netAmount clearing i.tax = 0
      omega

/-- Settles O57: the walk's own account, with tax and recovery before it and the checks of the later stages after. -/
theorem saleComputationAccountsForAll : Obligations.SaleComputationAccountsForAll := by
  intro i r ok rate stocked month blocks
  obtain ⟨rfl, fit, issued, reserve⟩ := computeSale_eq_ok ok
  obtain ⟨within, going⟩ := (fits_iff _).mp fit
  obtain ⟨spent, bought, month_eq, month_le, listed⟩ := walk_accounted (budget := energyMoney i i.tender * 1000 + i.carry)
    month fun b hb => (blocks b hb).2.2
  have net := netAmount_le i.tender i.tax
  have recovered := two_mul_recoveredAmount_le rate (netAmount i.tender i.tax) i.debt
  have owed : recoveredAmount (netAmount i.tender i.tax) i.debt i.rate ≤ i.debt := min_le_left _ _
  have left := walk_budget_lt stocked (fun b hb => ⟨(blocks b hb).1, (blocks b hb).2.1⟩) going
  refine ⟨?_, spent, bought, listed, month_eq, month_le, ?_, issued, within, reserve, rfl, ?_⟩
  · simp only [saleResult, energyMoney]
    omega
  · simp only [saleResult]
    omega
  · show (walkOf i i.tender).budget < 1000000
    exact left.trans (by omega)

/-- Settles O58: the search ends with the boundary of the tenders that fit. -/
theorem suggestedTenderIsLargestThatFits : Obligations.SuggestedTenderIsLargestThatFits := by
  intro i rate
  obtain ⟨within, passes, above⟩ := suggestedTender_brackets rate
  exact ⟨within, passes, fun T past limit => above T past limit, computeSale_amountHigh⟩

end Sys2Proof.Machine
end

section
/-!
SUPPORT. The requests that read at once in an IN_SERVICE module (R31, R52, R99, R113), with no word of account memory
disturbed.
-/
namespace Sys2Proof.Machine

/-- An owner that answers at once: its reply enters the transmit reply queue of the state handed over (R172). -/
theorem exec_answers {α : Type} {s : State} {k : Kind} {parse : List Byte → Option α} {own : Owner → α → Judge Answer}
    {t : Fin 8} {tag : Tag} {body : List Byte} {a : α} {reply : ReplyBody} (asks : Asks k t tag body s)
    (parsed : parse body = some a)
    (owner : (own { terminal := t, tag := tag } a).run (handed t s) = .ok (.now reply) (handed t s)) :
    takeRequest k parse own s = answered k t tag .ok reply (handed t s) := by
  rw [takeRequest_of_asks asks parsed, owner]
  exact pushReply_answered (handed_sound asks.sound t) ..

/-- An owner that refuses: so does its refusal, with its figures. -/
theorem exec_refuses {α : Type} {s : State} {k : Kind} {parse : List Byte → Option α} {own : Owner → α → Judge Answer}
    {t : Fin 8} {tag : Tag} {body : List Byte} {a : α} {r : ResultCode} {reply : ReplyBody}
    (asks : Asks k t tag body s) (parsed : parse body = some a)
    (owner : (own { terminal := t, tag := tag } a).run (handed t s) = .error (r, reply) (handed t s)) :
    takeRequest k parse own s = answered k t tag r reply (handed t s) := by
  rw [takeRequest_of_asks asks parsed, owner]
  exact pushReply_answered (handed_sound asks.sound t) ..

/-! ### The owners -/

section
variable {u : State}

theorem ownShiftRead_of_sound (hu : u.mem.ecc = []) (service : u.mode = .inService) (o : Owner) (target : Fin 8) :
    (ownShiftRead o target).run u = .ok (.now (.shift (shiftReply target u))) u := by
  unfold ownShiftRead
  rw [then_service service, then_item hu, then_get, judge_pure]

theorem ownKeyList_run (service : u.mode = .inService) (o : Owner) :
    (ownKeyList o ()).run u = .ok (.now (.keyList (keyListing u.secure))) u := by
  unfold ownKeyList
  rw [then_service service, then_get, judge_pure]

theorem ownReserveRead_of_sound (hu : u.mem.ecc = []) (service : u.mode = .inService) (o : Owner) :
    (ownReserveRead o ()).run u = .ok (.now (.reserve (reserveReply u))) u := by
  unfold ownReserveRead
  rw [then_service service, then_item hu, then_item hu, then_get, judge_pure]

/-- The three items of the banks are read; out of service, and without the bank asked for, the refusal gives the rest. -/
theorem ownTariffRead_of_sound (hu : u.mem.ecc = []) (o : Owner) (pending : Bool) :
    (ownTariffRead o pending).run u =
      let b := tariffReply pending u.mem.sys.tariffs
      if u.mode ≠ .inService then
        .error (.outOfService, .tariff { b with bank := none, effective := none }) u
      else if b.bank = none then .error (.noTariff, .tariff b) u
      else .ok (.now (.tariff b)) u := by
  unfold ownTariffRead
  rw [then_get, then_modify, touchItems_of_sound hu, then_need (by simp [itemBad_of_sound hu]), then_get]
  by_cases service : u.mode = .inService
  · rw [then_needWith (by simp [service])]
    cases b : (tariffReply pending u.mem.sys.tariffs).bank with
    | none => simp [needWith_run, service, b]
    | some bank => simp [needWith_run, service, b]
  · simp [needWith_run, service]

end

/-! ### The replies, in the terms of the state they were asked of -/

section
variable {s : State}

/-- The pending sales of all terminals pass through the hand-over. -/
theorem handed_sales (hs : s.mem.ecc = []) (t : Fin 8) :
    (handed t s).terms.toList.map (·.sale) = s.terms.toList.map (·.sale) := by
  have each (v : State) : v.terms.toList.map (·.sale) = allTerminals.map (fun u => (v.term u).sale) := rfl
  rw [each, each]
  exact List.map_congr_left fun u _ => handed_sale hs t u

/-- So does the count of those of a kind. -/
theorem handed_countSales (hs : s.mem.ecc = []) (t : Fin 8) (p : Option PendingSale → Bool) :
    ((handed t s).terms.toList.filter (fun w => p w.sale)).length =
      (s.terms.toList.filter (fun w => p w.sale)).length := by
  have count (l : List TermWork) : (l.filter (fun w => p w.sale)).length = (l.map (·.sale)).countP p := by
    rw [List.countP_map, List.countP_eq_length_filter]
    rfl
  rw [count, count, handed_sales hs]

theorem handed_quotedUnder (hs : s.mem.ecc = []) (t : Fin 8) (id : Nat) :
    quotedUnder id (handed t s) = quotedUnder id s := by
  have any (v : State) : quotedUnder id v =
      (v.terms.toList.map (·.sale)).any (fun o => o.any (fun p => p.state == .quoted && p.bankId == id)) := by
    rw [List.any_map]
    rfl
  rw [any, any, handed_sales hs]

/-- The hand-over reaches nothing of a SHIFT_READ's figures but the idle timers (R116). -/
theorem shiftReply_handed (hs : s.mem.ecc = []) (t target : Fin 8) :
    shiftReply target (handed t s) =
      { shiftReply target s with idle := idleSeconds ((handed t s).term target).idle } := by
  obtain ⟨-, -, -, change, -, -, -, -, -, -, role⟩ := handed_facts hs t
  simp only [shiftReply, handed_mem hs, change, role, handed_sale hs, handed_lookup hs]

/-- The prospective balance counts what is queued, which the hand-over leaves. -/
theorem reserveReply_handed (hs : s.mem.ecc = []) (t : Fin 8) : reserveReply (handed t s) = reserveReply s := by
  simp only [reserveReply, prospectiveBalance, highestVoucher, handed_mem hs, handed_queue hs, handed_secure hs,
    handed_setAsides hs, handed_countSales hs t (fun o => o.any (fun p => p.setAside != 0))]

end

section
variable {t : Fin 8} {tag : Tag} {body : List Byte} {s : State} {pending : Bool}

/-- TARIFF_READ in service is answered with the bank asked for, or refused with what else there is to say (R31). -/
theorem exec_tariffRead (asks : Asks .tariffRead t tag body s) (parsed : parseSelector body = some pending)
    (service : s.mode = .inService) :
    exec .tariffRead s = .next (answered .tariffRead t tag
      (if (tariffReply pending s.mem.sys.tariffs).bank = none then .noTariff else .ok)
      (.tariff (tariffReply pending s.mem.sys.tariffs)) (handed t s)) := by
  have owner := ownTariffRead_of_sound (handed_sound asks.sound t) { terminal := t, tag := tag } pending
  rw [handed_mode asks.sound, handed_mem asks.sound] at owner
  dsimp only at owner
  rw [if_neg (not_not.mpr service)] at owner
  split
  · rename_i absent
    rw [if_pos absent] at owner
    exact congrArg _ (exec_refuses asks parsed owner)
  · rename_i present
    rw [if_neg present] at owner
    exact congrArg _ (exec_answers asks parsed owner)

theorem exec_tariffRead_outOfService (asks : Asks .tariffRead t tag body s)
    (parsed : parseSelector body = some pending) (out : s.mode ≠ .inService) :
    exec .tariffRead s = .next (answered .tariffRead t tag .outOfService
      (.tariff { tariffReply pending s.mem.sys.tariffs with bank := none, effective := none }) (handed t s)) := by
  have owner := ownTariffRead_of_sound (handed_sound asks.sound t) { terminal := t, tag := tag } pending
  rw [handed_mode asks.sound, handed_mem asks.sound] at owner
  dsimp only at owner
  rw [if_pos out] at owner
  exact congrArg _ (exec_refuses asks parsed owner)

end

/-- Settles O22: each owner answers at once with its own figures, which the hand-over leaves. -/
theorem readsInService : Obligations.ReadsInService := by
  intro t tag body s
  refine ⟨fun p asks parsed out => exec_tariffRead_outOfService asks parsed (by simp [out]), fun service => ?_⟩
  have serving (hs : Sound s) : (handed t s).mode = .inService := (handed_mode hs t).trans service
  refine ⟨fun u asks parsed => ?_, fun asks => ?_, fun bank eff asks parsed held => ?_, fun bank asks parsed held => ?_,
    fun asks parsed absent => ?_, fun asks parsed absent => ?_, fun asks =>
      ⟨availableReserve s.mem.sys.reserve s.setAsides, fun within => dropBy_of_le within _, ?_⟩⟩
  · have hs := asks.sound
    have owner := ownShiftRead_of_sound (handed_sound hs t) (serving hs) { terminal := t, tag := tag } u
    rw [shiftReply_handed hs] at owner
    exact congrArg _ (exec_answers asks parsed owner)
  · have owner := ownKeyList_run (serving asks.sound) { terminal := t, tag := tag }
    rw [handed_secure asks.sound] at owner
    exact congrArg _ (exec_answers (parse := parseNothing) asks rfl owner)
  · simp [exec_tariffRead asks parsed service, tariffReply, held]
  · simp [exec_tariffRead asks parsed service, tariffReply, held]
  · simp [exec_tariffRead asks parsed service, tariffReply, absent]
  · simp [exec_tariffRead asks parsed service, tariffReply, absent]
  · have hs := asks.sound
    have owner := ownReserveRead_of_sound (handed_sound hs t) (serving hs) { terminal := t, tag := tag }
    rw [reserveReply_handed hs] at owner
    exact congrArg _ (exec_answers (parse := parseNothing) asks rfl owner)

end Sys2Proof.Machine
end

section
/-!
SUPPORT. The tariff banks (R23 to R29, R164): the id a TARIFF_LOAD takes and the record it queues, the switch at
TARIFF_EFFECTIVE, and the installation at a record's completion.
-/
namespace Sys2Proof.Machine

/-! ### TARIFF_LOAD (R25 to R27) -/

/-- The bank a queued record installs, with its effective time. -/
def QueueEntry.tariff? (e : QueueEntry) : Option (TariffBank × Nat) :=
  match e.record.body with
  | .tariff b eff => some (b, eff)
  | _ => none

/-- The id is the next after that of the last bank queued, or after the last bank id. -/
theorem bankIdFor_eq (lastId : Nat) (q : List QueueEntry) :
    bankIdFor lastId q = (((q.reverse.findSome? QueueEntry.tariff?).map (·.1.id)).getD lastId + 1) % 256 := by
  unfold bankIdFor nextBankId
  congr 2
  induction q using List.reverseRecOn with
  | nil => rfl
  | append_singleton q e ih =>
    simp only [List.foldl_append, List.foldl_cons, List.foldl_nil, List.reverse_append, List.reverse_cons,
      List.reverse_nil, List.nil_append, List.singleton_append, List.findSome?_cons]
    rw [ih]
    cases body : e.record.body <;> simp [QueueEntry.tariff?, body]

section
variable {u : State}

/-- A bank that fails its validation is refused with the failure. -/
theorem ownTariffLoad_of_invalid (serving : Serving u) (o : Owner) {r : TariffLoadReq} {why : ReplyBody}
    (invalid : bankInvalid r = some why) : (ownTariffLoad o r).run u = .error (.badTariff, why) u := by
  unfold ownTariffLoad
  rw [then_service serving.1, then_clock serving.2, invalid]
  rfl

/-- A valid bank, with no QUOTED sale under its id, is journaled under it. -/
theorem ownTariffLoad_of_valid (hu : u.mem.ecc = []) (serving : Serving u) (o : Owner) {r : TariffLoadReq}
    (valid : bankInvalid r = none) {id : Nat} (next : bankIdFor u.mem.sys.tariffs.lastId u.queue = id)
    (unquoted : quotedUnder id u = false) :
    (ownTariffLoad o r).run u = (journaled o (.tariff (r.bank id) r.effective) .none).run u := by
  unfold ownTariffLoad
  rw [then_service serving.1, then_clock serving.2, valid]
  dsimp only
  rw [then_item hu, then_get, next, then_check (by simp [next, unquoted])]

end

/-- Settles O29: the id is that of the queue's last bank, or the last bank id, plus one. -/
theorem tariffLoadQueuesBank : Obligations.TariffLoadQueuesBank := by
  intro t tag body s r asks parsed serving
  have hs := asks.sound
  have served := handed_serving hs serving t
  refine ⟨fun id valid admits queued unqueued unquoted => ?_, fun why invalid => ?_⟩
  · have next : bankIdFor s.mem.sys.tariffs.lastId s.queue = id := by
      rw [bankIdFor_eq]
      cases last : s.queue.reverse.findSome? QueueEntry.tariff? with
      | none => exact (unqueued last).symm
      | some x => exact (queued x.1 x.2 last).symm
    exact congrArg _ (exec_queues asks parsed admits (ownTariffLoad_of_valid (handed_sound hs t) served _ valid
      (by rw [handed_mem hs, handed_queue hs, next]) ((handed_quotedUnder hs t id).trans unquoted)))
  · exact congrArg _ (exec_refuses asks parsed (ownTariffLoad_of_invalid served _ invalid))

/-! ### The switch and the installation (R28, R29) -/

/-- A TARIFF record past the tariff last applied installs its bank. -/
theorem applyTariff_of_sound {s : State} (hs : s.mem.ecc = []) {h : RecordHead}
    (past : s.mem.sys.tariffs.lastApplied < h.seq) (b : TariffBank) (effective : Nat) :
    (applyTariff h b effective s).2 = installBank h.seq b effective s := by
  simp [applyTariff, touchItem_of_sound hs, itemBad_of_sound hs, past]

/-- A bank whose time lies ahead stands as PENDING, with the alarm at its time. -/
theorem installBank_of_ahead {s : State} (hs : s.mem.ecc = []) (seq : Nat) (b : TariffBank) {effective : Nat}
    (ahead : s.clock.reading < effective) :
    installBank seq b effective s = (s.setSys { s.mem.sys with tariffs := { s.mem.sys.tariffs with
        pending := some (b, effective), lastId := b.id, lastApplied := seq } }).setClock
      { s.clock with alarm := some effective } := by
  have raised : (s.clock.tariffRaised || decide (effective ≤ s.clock.reading)) = s.clock.tariffRaised := by
    simp [Nat.not_le.mpr ahead]
  unfold installBank
  simp only [itemBad_of_sound hs, writeItems_of_sound hs]
  rw [alarmFromMemory_of_sound (by exact hs)]
  simp [tariffOn, ahead, alarmFromPending, setAlarm, raised]

/-- Settles O38: the switch by whether a bank is due, the installation by whether its time lies ahead. -/
theorem tariffBanksSwitch : Obligations.TariffBanksSwitch := by
  intro s hs t
  have taken (powered : s.powered = true) (raised : s.clock.tariffRaised = true) : exec .tariffEffective s =
      .next (takeTariffEffective (s.setClock { s.clock with tariffRaised := false })) := by
    show execTariffEffective s = _
    unfold execTariffEffective
    rw [powered, raised]
    rfl
  refine ⟨fun b eff powered raised held due => ?_, fun powered raised ahead => ?_,
    fun h b eff inService figures past => ⟨fun ahead => ?_, fun due => ?_⟩⟩
  · have pending : s.mem.sys.tariffs.pending = some (b, eff) := held
    rw [taken powered raised, takeTariffEffective_of_sound (by exact hs), if_pos (by simp [TariffStore.due, pending, due])]
    simp [TariffStore.switchAt, pending, due]
    rfl
  · have notDue : s.mem.sys.tariffs.due s.clock.reading = false := by
      unfold TariffStore.due
      cases pending : s.mem.sys.tariffs.pending with
      | none => rfl
      | some x => simpa using ahead x.1 x.2 pending
    rw [taken powered raised, takeTariffEffective_of_sound (by exact hs), if_neg (by simp [notDue])]
  · exact (applyTariff_of_sound hs past b eff).trans (installBank_of_ahead hs h.seq b ahead)
  · show ((applyTariff h b eff s).2).mem.sys.tariffs = _
    rw [applyTariff_of_sound hs past, installBank_mem hs]
    simp [tariffOn, Nat.not_lt.mpr due, t]

end Sys2Proof.Machine
end

section
/-!
SUPPORT. What every operation leaves of the on-chip secure memory (R46, R47, R97, R188): all but the completion of a
GRANT, KEY or INIT record, the memory-loss initialisation, TAMPER_CLEAR and the opening of the enclosure leave it as it
stands.
-/
namespace Sys2Proof.Machine

/-! ### Account memory, the terminals and the line -/

theorem SameBut.secure {s t : State} (h : SameBut s t) : t.secure = s.secure := by
  unfold SameBut at h
  rw [h]

section
variable (s : State)

@[simp] theorem touchItem_secure (i : SysItem) : (touchItem i s).secure = s.secure := (touchItem_same i s).secure

@[simp] theorem readWords_secure (p : Nat → Bool) : (readWords p s).secure = s.secure := (readWords_same p s).secure

@[simp] theorem readSlot_secure (slot : Nat) : (readSlot slot s).secure = s.secure := (readSlot_same slot s).secure

@[simp] theorem writeItems_secure (is : List SysItem) (f : SystemArea → SystemArea) :
    (writeItems is f s).secure = s.secure := (writeItems_same is f s).secure

@[simp] theorem writeItem_secure (i : SysItem) (f : SystemArea → SystemArea) : (writeItem i f s).secure = s.secure :=
  (writeItem_same i f s).secure

@[simp] theorem writeTerm_secure (t : Fin 8) (f : TermEntry → TermEntry) : (writeTerm t f s).secure = s.secure :=
  (writeTerm_same t f s).secure

@[simp] theorem enterDamage_secure (slot : Nat) : (enterDamage slot s).secure = s.secure :=
  (enterDamage_same slot s).secure

@[simp] theorem writeSlot_secure (slot : Nat) (a : Account) : (writeSlot slot a s).secure = s.secure := rfl

@[simp] theorem freshWords_secure (p : Nat → Bool) : (freshWords p s).secure = s.secure := rfl

@[simp] theorem storeItems_secure (is : List SysItem) (f : SystemArea → SystemArea) :
    (storeItems is f s).secure = s.secure := rfl

@[simp] theorem touchForFlags_secure : (touchForFlags s).secure = s.secure := (touchForFlags_same s).secure

@[simp] theorem disturb_secure (d : Disturbance) : (disturb d s).secure = s.secure := rfl

@[simp] theorem setSale_secure (t : Fin 8) (v : Option PendingSale) : (setSale t v s).secure = s.secure := rfl

@[simp] theorem setLookup_secure (t : Fin 8) (v : Option Lookup) : (setLookup t v s).secure = s.secure := rfl

@[simp] theorem setIdle_secure (t : Fin 8) (v : IdleTimer) : (setIdle t v s).secure = s.secure := rfl

@[simp] theorem restartIdle_secure (t : Fin 8) : (restartIdle t s).secure = s.secure := by
  simp only [restartIdle, apply_ite State.secure, setIdle_secure, touchItem_secure, ite_self]

@[simp] theorem holdIdle_secure (t : Fin 8) : (holdIdle t s).secure = s.secure := by
  unfold holdIdle
  split <;> rfl

@[simp] theorem releaseSale_secure (t : Fin 8) : (releaseSale t s).secure = s.secure := by
  unfold releaseSale
  split <;> rfl

@[simp] theorem pushReply_secure (k t : Byte) (tag : Tag) (r : ResultCode) (body : ReplyBody) :
    (pushReply k t tag r body s).secure = s.secure := touchForFlags_secure s

@[simp] theorem replyIf_secure (due : Bool) (k : Byte) (t : Fin 8) (tag : Tag) (r : ResultCode) (body : ReplyBody) :
    (replyIf due k t tag r body s).secure = s.secure := by
  cases due
  · rfl
  · exact pushReply_secure s _ _ _ _ _

@[simp] theorem dropTerminals_secure : (dropTerminals s).secure = s.secure := rfl

theorem foldl_secure {α : Type} {f : State → α → State} (h : ∀ u a, (f u a).secure = u.secure) (l : List α) :
    (l.foldl f s).secure = s.secure := by
  induction l generalizing s with
  | nil => rfl
  | cons a l ih => rw [List.foldl_cons, ih, h]

/-! ### The searches and the rebuild of the meter index -/

@[simp] theorem changeIndex_secure (f : SMap IndexEntry → SMap IndexEntry) : (changeIndex f s).secure = s.secure := by
  simp only [changeIndex, apply_ite State.secure, State.setIndex_secure, freshWords_secure, readWords_secure, ite_self]

theorem searchFree_secure (fuel slot : Nat) : (searchFree fuel slot s).2.secure = s.secure := by
  induction fuel generalizing slot s with
  | zero => rfl
  | succ fuel ih =>
    unfold searchFree
    split
    · exact ih s _
    · split
      · rw [ih, readSlot_secure]
      · split
        · exact readSlot_secure s slot
        · rw [ih, readSlot_secure]

theorem rebuildSlot_secure (slot : Nat) (r : Rebuild) : (rebuildSlot slot r).state.secure = r.state.secure := by
  unfold rebuildSlot
  split
  · rfl
  · split
    · exact readSlot_secure _ slot
    · dsimp only
      repeat' split
      · exact readSlot_secure _ slot
      · exact (enterDamage_secure _ slot).trans (readSlot_secure _ slot)
      · exact readSlot_secure _ slot

theorem rebuildFrom_secure (fuel slot : Nat) (r : Rebuild) : (rebuildFrom fuel slot r).state.secure = r.state.secure := by
  induction fuel generalizing slot r with
  | zero => rfl
  | succ fuel ih =>
    unfold rebuildFrom
    rw [ih, rebuildSlot_secure]

/-! ### The journal's pointers, marks and writes -/

@[simp] theorem setPointers_secure (head tail : Nat) : (setPointers head tail s).secure = s.secure :=
  writeItem_secure _ _ _

@[simp] theorem raiseHead_secure : (raiseHead s).secure = s.secure := by
  unfold raiseHead
  split
  · exact setPointers_secure s _ _
  · rfl

@[simp] theorem setMark_secure (m : Option FaultMark) : (setMark m s).secure = s.secure := writeItem_secure _ _ _

@[simp] theorem closeMark_secure : (closeMark s).secure = s.secure := by simp [closeMark]

@[simp] theorem markFault_secure (seq pos : Nat) (cause : FaultCause) : (markFault seq pos cause s).secure = s.secure := by
  simp [markFault, setCause]

@[simp] theorem leavePage_secure (pos : Nat) (r : Record) (left : PageLeft) :
    (leavePage pos r left s).secure = s.secure := by
  cases left <;> rfl

@[simp] theorem freeBus_secure : (freeBus s).secure = s.secure := rfl

@[simp] theorem beginWrite_secure (job : WriteJob) (r : Record) (pos : Nat) :
    (beginWrite job r pos s).secure = s.secure := rfl

@[simp] theorem setPhase_secure (w : BusWrite) (p : WritePhase) : (setPhase w p s).secure = s.secure := rfl

@[simp] theorem releaseOldest_secure : (releaseOldest s).2.secure = s.secure := by
  unfold releaseOldest
  repeat' split
  · exact setPointers_secure s _ _
  · rfl
  · rfl

/-! ### The tariff alarm, and the end of start-up or of an INITIALISE -/

@[simp] theorem alarmFromMemory_secure : (alarmFromMemory s).secure = s.secure := by
  unfold alarmFromMemory alarmFromPending
  dsimp only
  repeat' split
  all_goals exact touchItem_secure s _

@[simp] theorem takeTariffEffective_secure : (takeTariffEffective s).secure = s.secure := by
  simp only [takeTariffEffective, apply_ite State.secure, State.setClock_secure, writeItems_secure, touchItem_secure,
    ite_self]

@[simp] theorem endStartUp_secure : (endStartUp s).secure = s.secure := by simp [endStartUp]

@[simp] theorem returnFromInit_secure : (returnFromInit s).secure = s.secure := by
  unfold returnFromInit
  split
  · rfl
  · simp [foldl_secure]

@[simp] theorem abandonInit_secure (i : InitWork) (r : ResultCode) : (abandonInit i r s).secure = s.secure := by
  simp [abandonInit, answerInit]

@[simp] theorem endRetry_secure (w : RetryWork) (r : ResultCode) (body : ReplyBody) :
    (endRetry w r body s).secure = s.secure := by
  simp [endRetry]

@[simp] theorem endJournalRead_secure (t : Fin 8) (w : JournalReadWork) (r : ResultCode) (reads : List PositionView) :
    (endJournalRead t w r reads s).secure = s.secure := by
  simp [endJournalRead, touchInfo]

/-! ### Completions that reach no secure memory -/

@[simp] theorem applyAccount_secure (slot : Nat) (h : RecordHead) (f : Account → Account) :
    (applyAccount slot h f s).2.secure = s.secure := by
  unfold applyAccount
  dsimp only
  repeat' split
  all_goals simp

@[simp] theorem indexWhen_secure (r : Reached × State) (f : SMap IndexEntry → SMap IndexEntry) :
    (indexWhen r f).secure = r.2.secure := by
  unfold indexWhen
  split
  · exact changeIndex_secure _ f
  · rfl

@[simp] theorem applyLoad_secure (slot : Nat) (image : Account) (h : RecordHead) :
    (applyLoad slot image h s).2.secure = s.secure := by
  unfold applyLoad
  dsimp only
  split <;> simp [leaveDamage]

@[simp] theorem applyAccountRecord_secure (h : RecordHead) (a : AccountRecord) :
    (applyAccountRecord h a s).2.secure = s.secure := by
  cases a <;> simp [applyAccountRecord]

@[simp] theorem applyTerm_secure (t : Fin 8) (seq : Nat) (f : TermEntry → TermEntry) :
    (applyTerm t seq f s).secure = s.secure := writeTerm_secure s _ _

@[simp] theorem applyTotals_secure (h : RecordHead) (f : ShiftTotals → ShiftTotals) :
    (applyTotals h f s).secure = s.secure := by
  unfold applyTotals
  split <;> simp

@[simp] theorem applyReserve_secure (seq : Nat) (f : ReserveRecord → ReserveRecord) :
    (applyReserve seq f s).secure = s.secure := writeItem_secure s _ _

@[simp] theorem endSale_secure (h : RecordHead) : (endSale h s).secure = s.secure := by
  unfold endSale
  split <;> simp

@[simp] theorem debtAfter_secure (slot : Nat) (r : Reached) : (debtAfter slot r s).2.secure = s.secure := by
  cases r <;> rfl

@[simp] theorem applyTariff_secure (h : RecordHead) (b : TariffBank) (effective : Nat) :
    (applyTariff h b effective s).2.secure = s.secure := by
  unfold applyTariff installBank
  dsimp only
  repeat' split
  all_goals simp

@[simp] theorem applyClock_secure (h : RecordHead) (new : Nat) : (applyClock h new s).2.secure = s.secure := by
  unfold applyClock
  dsimp only
  split <;> rfl

@[simp] theorem applySettings_secure (h : RecordHead) (c : SettingsChange) : (applySettings h c s).secure = s.secure := by
  unfold applySettings restartScrub
  dsimp only
  repeat' split
  all_goals simp

@[simp] theorem endHold_secure (r : Record) : (endHold r s).secure = s.secure := by
  unfold endHold
  split <;> simp

@[simp] theorem answerEntry_secure (e : QueueEntry) (spoken : Spoken) : (answerEntry e spoken s).secure = s.secure := by
  unfold answerEntry
  split <;> simp

/-! ### The faults of a record write -/

@[simp] theorem faultEntry_secure (e : QueueEntry) : (faultEntry s e).secure = s.secure := by
  unfold faultEntry faultOwner
  split <;> simp

@[simp] theorem writeFault_secure (w : BusWrite) (cause : FaultCause) : (writeFault w cause s).secure = s.secure := by
  simp [writeFault, foldl_secure]

@[simp] theorem faultWrite_secure (w : BusWrite) (cause : FaultCause) : (faultWrite w cause s).secure = s.secure := by
  unfold faultWrite
  repeat' split
  all_goals simp [faultInit]

/-! ### Supply loss, supply reset and start-up -/

@[simp] theorem cutWrite_secure (left : PageLeft) : (cutWrite left s).secure = s.secure := by
  unfold cutWrite
  repeat' split
  all_goals simp

theorem suspendOpen_secure (t : Fin 8) : (suspendOpen s t).secure = s.secure := by
  unfold suspendOpen
  split <;> rfl

@[simp] theorem startJournal_secure : (startJournal s).secure = s.secure := by
  unfold startJournal
  repeat' split
  · exact endStartUp_secure s
  · rfl
  · rfl

@[simp] theorem startUp_secure : (startUp s).secure = s.secure := by
  unfold startUp
  dsimp only
  split
  · rw [startJournal_secure, foldl_secure _ suspendOpen_secure]
    exact readWords_secure _ _
  · exact readWords_secure _ _

@[simp] theorem supplyReset_secure (r : ResetInputs) : (supplyReset r s).secure = s.secure := by
  unfold supplyReset
  dsimp only
  rw [startUp_secure, disturb_secure, apply_ite State.secure]
  have volatile (u : State) : (resetVolatile r.strap u).secure = u.secure := rfl
  have lost (u : State) : (loseMemory u).secure = u.secure := rfl
  rw [lost, volatile, cutWrite_secure, ite_self]

/-! ### Ticks, the scrubber and the line -/

@[simp] theorem countTick_secure : (countTick s).secure = s.secure := rfl

@[simp] theorem secondStep_secure (d : Disturbance) : (secondStep d s).secure = s.secure := by
  unfold secondStep
  dsimp only
  split <;> rfl

@[simp] theorem tick_secure : (tick s).secure = s.secure := by
  unfold tick
  repeat' split
  · exact secondStep_secure s _
  · rfl
  · rfl

@[simp] theorem scrubWord_secure : (scrubWord s).secure = s.secure := by
  simp only [scrubWord, apply_ite State.secure, readWords_secure, touchItem_secure, ite_self]

end

end Sys2Proof.Machine
end


section
/-!
SUPPORT. A law of the secure memory through the judging of a request (R173, R174): each step of a judgement keeps it, so
every owning block does, TAMPER_CLEAR for the laws that say nothing of the latch (R189).
-/
namespace Sys2Proof.Machine

/-! ### The steps of a judgement -/

/-- The state that a judgement leaves, whether it goes on or refuses the request. -/
def Judge.leaves {α : Type} (x : Judge α) (s : State) : State :=
  match x.run s with
  | .ok _ t => t
  | .error _ t => t

/-- A judgement keeps a law of the secure memory, whether it goes on or refuses the request. -/
def Judge.Keeps {α : Type} (law : SecureMemory → Prop) (x : Judge α) : Prop :=
  ∀ s, law s.secure → law (x.leaves s).secure

section
variable {law : SecureMemory → Prop} {α β : Type}

theorem keeps_pure (a : α) : Judge.Keeps law (pure a) := fun _ h => h

theorem keeps_throw (e : ResultCode × ReplyBody) : Judge.Keeps law (throw e : Judge α) := fun _ h => h

theorem Judge.Keeps.bind {x : Judge α} {f : α → Judge β} (hx : x.Keeps law) (hf : ∀ a, (f a).Keeps law) :
    (x >>= f).Keeps law := by
  intro s h
  have first := hx s h
  unfold Judge.leaves at first ⊢
  rw [judge_bind]
  cases e : x.run s with
  | ok a t =>
    rw [e] at first
    exact hf a t first
  | error r t =>
    rw [e] at first
    exact first

/-- What follows a `get` may use that the state it sees has the law. -/
theorem keeps_see {f : State → Judge β} (hf : ∀ s, law s.secure → (f s).Keeps law) : (get >>= f).Keeps law :=
  fun s h => hf s h s h

theorem keeps_get : Judge.Keeps law get := fun _ h => h

theorem keeps_set {t : State} (h : law t.secure) : Judge.Keeps law (set t) := fun _ _ => h

theorem keeps_modify {f : State → State} (hf : ∀ s, (f s).secure = s.secure) : Judge.Keeps law (modify f) := by
  intro s h
  show law (f s).secure
  rw [hf]
  exact h

theorem keeps_needWith (b : Bool) (r : ResultCode) (body : ReplyBody) : (needWith b r body).Keeps law := by
  unfold needWith
  split
  · exact keeps_pure _
  · exact keeps_throw _

theorem keeps_need (b : Bool) (r : ResultCode) : (need b r).Keeps law := keeps_needWith b r .empty

theorem keeps_check (p : State → Bool) (r : ResultCode) : (check p r).Keeps law :=
  keeps_get.bind fun _ => keeps_need _ _

theorem keeps_readItem (i : SysItem) : (readItem i).Keeps law :=
  keeps_get.bind fun _ => (keeps_modify (touchItem_secure · i)).bind fun _ => keeps_need _ _

theorem keeps_readAccount (slot : Nat) : (readAccount slot).Keeps law := by
  unfold readAccount
  refine (keeps_readItem _).bind fun _ => (keeps_check _ _).bind fun _ => keeps_get.bind fun _ =>
    (keeps_modify (readSlot_secure · slot)).bind fun _ => ?_
  split
  · exact keeps_pure _
  · exact keeps_throw _

theorem keeps_lookupMeter (meter : Nat) : (lookupMeter meter).Keeps law := by
  unfold lookupMeter
  refine (keeps_modify (readWords_secure · _)).bind fun _ => (keeps_check _ _).bind fun _ =>
    (keeps_modify fun s => readWords_secure s _).bind fun _ => (keeps_check _ _).bind fun _ => keeps_get.bind fun _ => ?_
  split
  · exact keeps_throw _
  · split
    · exact keeps_pure _
    · exact (keeps_readAccount _).bind fun _ => keeps_throw _

theorem keeps_needAdmission : needAdmission.Keeps law := by
  unfold needAdmission
  refine keeps_get.bind fun _ => ?_
  split
  · exact keeps_throw _
  · exact keeps_pure _

theorem keeps_journaled (o : Owner) (body : RecordBody) (figures : Figures) : (journaled o body figures).Keeps law :=
  keeps_needAdmission.bind fun _ => (keeps_modify fun _ => by rfl).bind fun _ => keeps_pure _

/-- The dispatcher and the owning block keep a law of the secure memory that the owning block's judgement keeps. -/
theorem takeRequest_keeps {k : Kind} {parse : List Byte → Option α} {own : Owner → α → Judge Answer}
    (owner : ∀ o a, (own o a).Keeps law) {s : State} (h : law s.secure) : law (takeRequest k parse own s).secure := by
  have judged (o : Owner) (body : List Byte) : (judge k parse own o body).Keeps law := by
    unfold judge
    refine keeps_get.bind fun _ => keeps_get.bind fun _ => (keeps_modify (restartIdle_secure · _)).bind fun _ =>
      (keeps_need _ _).bind fun _ => (keeps_check _ _).bind fun _ => (keeps_check _ _).bind fun _ => ?_
    split
    · exact keeps_throw _
    · exact owner _ _
  have concluded (t tag) (x : Judge Answer) (u : State) (hx : law (x.leaves u).secure) :
      law (conclude k.byte t tag (x.run u)).secure := by
    unfold Judge.leaves at hx
    unfold conclude
    split
    · rename_i e
      rw [pushReply_secure]
      rwa [e] at hx
    · rename_i e
      rwa [e] at hx
    · rename_i e
      rw [pushReply_secure]
      rwa [e] at hx
  unfold takeRequest
  split
  · exact h
  · split
    · unfold answerFrame
      split
      · rw [pushReply_secure]
        exact h
      · split
        · rw [pushReply_secure]
          exact h
        · exact concluded _ _ _ _ (judged _ _ (takeFrame s) h)
    · exact h

/-! ### The owning blocks -/

theorem keeps_needIndex : needIndex.Keeps law := (keeps_modify (readWords_secure · _)).bind fun _ => keeps_check _ _

theorem keeps_searchIndex (meter : Nat) : (searchIndex meter).Keeps law :=
  (keeps_modify fun s => readWords_secure s _).bind fun _ => keeps_check _ _

theorem keeps_needNewNumber (meter : Nat) : (needNewNumber meter).Keeps law :=
  (keeps_searchIndex _).bind fun _ => (keeps_check _ _).bind fun _ => keeps_check _ _

theorem keeps_namedAccount (meter : Nat) : (namedAccount meter).Keeps law :=
  (keeps_check _ _).bind fun _ => (keeps_check _ _).bind fun _ => (keeps_lookupMeter _).bind fun _ =>
    (keeps_readAccount _).bind fun _ => (keeps_check _ _).bind fun _ => keeps_pure _

theorem keeps_takeFreeSlot : takeFreeSlot.Keeps law := by
  unfold takeFreeSlot
  refine (keeps_readItem _).bind fun _ => keeps_see fun s h => ?_
  refine (keeps_set (by rw [searchFree_secure]; exact h)).bind fun _ => ?_
  split
  · exact keeps_pure _
  · exact keeps_throw _

theorem keeps_ownCreate (o : Owner) (a : NewAccount) : (ownCreate o a).Keeps law :=
  (keeps_check _ _).bind fun _ => (keeps_check _ _).bind fun _ => keeps_needIndex.bind fun _ =>
    (keeps_needNewNumber _).bind fun _ => keeps_takeFreeSlot.bind fun _ => (keeps_check _ _).bind fun _ =>
      keeps_journaled _ _ _

theorem keeps_ownEdit (o : Owner) (r : Nat × AccountEdit) : (ownEdit o r).Keeps law :=
  (keeps_namedAccount _).bind fun _ => keeps_journaled _ _ _

theorem keeps_ownClose (o : Owner) (meter : Nat) : (ownClose o meter).Keeps law :=
  (keeps_namedAccount _).bind fun _ => (keeps_needWith _ _ _).bind fun _ => keeps_journaled _ _ _

theorem keeps_ownReplace (o : Owner) (r : ReplaceReq) : (ownReplace o r).Keeps law :=
  (keeps_namedAccount _).bind fun _ => (keeps_needNewNumber _).bind fun _ => (keeps_check _ _).bind fun _ =>
    keeps_journaled _ _ _

theorem keeps_ownRekey (o : Owner) (meter : Nat) : (ownRekey o meter).Keeps law :=
  (keeps_namedAccount _).bind fun _ => keeps_journaled _ _ _

theorem keeps_ownAccountRead (o : Owner) (n : AccountName) : (ownAccountRead o n).Keeps law := by
  have named : (nameSlot n).Keeps law := by
    cases n with
    | meter n => exact keeps_lookupMeter n
    | slot n => exact keeps_pure n
  unfold ownAccountRead
  refine (keeps_check _ _).bind fun _ => named.bind fun _ => (keeps_readAccount _).bind fun _ => keeps_get.bind fun _ => ?_
  split <;> exact keeps_pure _

theorem keeps_needLoadIndex (slot meter : Nat) : (needLoadIndex slot meter).Keeps law :=
  keeps_needIndex.bind fun _ => (keeps_searchIndex _).bind fun _ => (keeps_check _ _).bind fun _ =>
    (keeps_check _ _).bind fun _ =>
      ((keeps_modify fun s => readWords_secure s _).bind fun _ => keeps_check _ _).bind fun _ => keeps_check _ _

theorem keeps_ownLoad (o : Owner) (r : LoadReq) : (ownLoad o r).Keeps law := by
  unfold ownLoad
  refine (keeps_check _ _).bind fun _ => (keeps_check _ _).bind fun _ => (keeps_check _ _).bind fun _ =>
    (keeps_check _ _).bind fun _ => ?_
  dsimp only
  split
  · exact (keeps_needLoadIndex _ _).bind fun _ => keeps_journaled _ _ _
  · exact keeps_journaled _ _ _

theorem keeps_ownRebuild (o : Owner) (x : Unit) : (ownRebuild o x).Keeps law :=
  (keeps_check _ _).bind fun _ => (keeps_readItem _).bind fun _ => keeps_see fun s h =>
    (keeps_set (by rw [rebuildFrom_secure]; exact h)).bind fun _ => keeps_pure _

theorem keeps_ownTariffLoad (o : Owner) (r : TariffLoadReq) : (ownTariffLoad o r).Keeps law := by
  unfold ownTariffLoad
  refine (keeps_check _ _).bind fun _ => (keeps_check _ _).bind fun _ => ?_
  split
  · exact keeps_throw _
  · exact (keeps_readItem _).bind fun _ => keeps_get.bind fun _ => (keeps_check _ _).bind fun _ => keeps_journaled _ _ _

theorem keeps_ownTariffRead (o : Owner) (pending : Bool) : (ownTariffRead o pending).Keeps law :=
  keeps_get.bind fun _ => (keeps_modify fun s => foldl_secure s (fun u i => touchItem_secure u i) _).bind fun _ =>
    (keeps_need _ _).bind fun _ => keeps_get.bind fun _ => (keeps_needWith _ _ _).bind fun _ =>
      (keeps_needWith _ _ _).bind fun _ => keeps_pure _

theorem keeps_ownKeyLoad (o : Owner) (r : KeyLoadReq) : (ownKeyLoad o r).Keeps law := by
  unfold ownKeyLoad
  refine (keeps_check _ _).bind fun _ => (keeps_check _ _).bind fun _ => (keeps_check _ _).bind fun _ =>
    (keeps_check _ _).bind fun _ => (keeps_check _ _).bind fun _ => (keeps_check _ _).bind fun _ =>
      keeps_get.bind fun _ => ?_
  split
  · exact keeps_throw _
  · exact keeps_journaled _ _ _

theorem keeps_ownKeyRetire (o : Owner) (r : Nat × Nat) : (ownKeyRetire o r).Keeps law := by
  unfold ownKeyRetire
  refine (keeps_check _ _).bind fun _ => (keeps_check _ _).bind fun _ => keeps_get.bind fun _ => ?_
  split
  · exact keeps_throw _
  · exact (keeps_check _ _).bind fun _ => keeps_journaled _ _ _

theorem keeps_ownKeyList (o : Owner) (x : Unit) : (ownKeyList o x).Keeps law :=
  (keeps_check _ _).bind fun _ => keeps_get.bind fun _ => keeps_pure _

/-- TAMPER_CLEAR keeps a law that a cleared latch keeps (R189). -/
theorem keeps_ownTamperClear (clear : ∀ m, law m → law { m with tamperLatch := false }) (o : Owner) (x : Unit) :
    (ownTamperClear o x).Keeps law :=
  (keeps_check _ _).bind fun _ => Judge.Keeps.bind (fun s h => clear s.secure h) fun _ => keeps_pure _

theorem keeps_ownClockRead (o : Owner) (x : Unit) : (ownClockRead o x).Keeps law :=
  keeps_get.bind fun _ => keeps_pure _

theorem keeps_ownClockSet (o : Owner) (reading : Nat) : (ownClockSet o reading).Keeps law :=
  (keeps_check _ _).bind fun _ => (keeps_check _ _).bind fun _ => keeps_get.bind fun _ =>
    (keeps_needWith _ _ _).bind fun _ => keeps_journaled _ _ _

theorem keeps_ownStatus (o : Owner) (x : Unit) : (ownStatus o x).Keeps law :=
  (keeps_modify (readWords_secure · _)).bind fun _ => keeps_get.bind fun _ => keeps_pure _

theorem keeps_ownSettingsRead (o : Owner) (x : Unit) : (ownSettingsRead o x).Keeps law :=
  (keeps_readItem _).bind fun _ => keeps_get.bind fun _ => keeps_pure _

theorem keeps_ownSettingsSet (o : Owner) (c : SettingsChange) : (ownSettingsSet o c).Keeps law :=
  (keeps_need _ _).bind fun _ => (keeps_check _ _).bind fun _ => keeps_journaled _ _ _

theorem keeps_ownIntegrityRead (o : Owner) (x : Unit) : (ownIntegrityRead o x).Keeps law :=
  (keeps_modify fun _ => by simp).bind fun _ => keeps_get.bind fun _ => keeps_pure _

theorem keeps_ownIntegrityClear (o : Owner) (x : Unit) : (ownIntegrityClear o x).Keeps law :=
  (keeps_check _ _).bind fun _ => (keeps_readItem _).bind fun _ => (keeps_readItem _).bind fun _ =>
    (keeps_modify (storeItems_secure · _ _)).bind fun _ => keeps_pure _

theorem acceptQuote_secure (s : State) (t : Fin 8) (p : PendingSale) : (acceptQuote t p s).secure = s.secure :=
  releaseSale_secure s t

theorem acceptConfirm_secure (s : State) (o : Owner) (p : PendingSale) : (acceptConfirm o p s).secure = s.secure :=
  holdIdle_secure _ _

theorem keeps_ownQuote (o : Owner) (r : QuoteReq) : (ownQuote o r).Keeps law := by
  have account (t : Fin 8) (meter : Nat) : (quoteAccount t meter).Keeps law :=
    (keeps_lookupMeter _).bind fun _ => (keeps_readAccount _).bind fun _ => (keeps_need _ _).bind fun _ =>
      (keeps_check _ _).bind fun _ => keeps_pure _
  have bank (n : Nat) : (quoteBank n).Keeps law := by
    unfold quoteBank
    refine (keeps_readItem _).bind fun _ => keeps_get.bind fun _ => ?_
    split
    · exact keeps_throw _
    · exact (keeps_need _ _).bind fun _ => keeps_pure _
  have plan (mode : SaleMode) (a : Account) : (quotePlan mode a).Keeps law := by
    unfold quotePlan
    refine keeps_get.bind fun _ => ?_
    split
    · exact keeps_throw _
    · exact keeps_pure _
  have credit (t : Fin 8) (a : Account) (b : TariffBank) : (quoteCredit t r a b).Keeps law := by
    unfold quoteCredit
    refine (keeps_readItem _).bind fun _ => keeps_get.bind fun _ => ?_
    dsimp only
    split
    · exact keeps_throw _
    · exact keeps_pure _
  exact (keeps_check _ _).bind fun _ => (keeps_check _ _).bind fun _ => (keeps_check _ _).bind fun _ =>
    (account _ _).bind fun _ => (bank _).bind fun _ => (plan _ _).bind fun _ => (credit _ _ _).bind fun _ =>
      (keeps_check _ _).bind fun _ => (keeps_readItem _).bind fun _ => keeps_get.bind fun _ =>
        (keeps_modify (acceptQuote_secure · _ _)).bind fun _ => keeps_pure _

theorem keeps_ownConfirm (o : Owner) (x : Unit) : (ownConfirm o x).Keeps law := by
  have release (r : ResultCode) (body : ReplyBody) : (releaseRefuse o.terminal r body).Keeps law :=
    (keeps_modify (releaseSale_secure · _)).bind fun _ => keeps_throw _
  have queue (p : PendingSale) : (do needAdmission; modify (acceptConfirm o p); pure Answer.later : Judge Answer).Keeps law :=
    keeps_needAdmission.bind fun _ => (keeps_modify (acceptConfirm_secure · _ _)).bind fun _ => keeps_pure _
  have whole (p : PendingSale) : (do
      readItem .damageList
      if p.slot ∈ (← get).mem.sys.damage.slots then releaseRefuse o.terminal .accountDamaged .empty
      needAdmission
      modify (acceptConfirm o p)
      pure Answer.later : Judge Answer).Keeps law := by
    refine (keeps_readItem _).bind fun _ => keeps_get.bind fun _ => ?_
    dsimp only
    split
    · exact (release _ _).bind fun _ => queue p
    · exact queue p
  unfold ownConfirm
  refine keeps_get.bind fun _ => ?_
  split
  · exact keeps_throw _
  · refine (keeps_need _ _).bind fun _ => (keeps_check _ _).bind fun _ => (keeps_readItem _).bind fun _ =>
      keeps_get.bind fun _ => ?_
    dsimp only
    split
    · exact (release _ _).bind fun _ => whole _
    · exact whole _

theorem keeps_ownCancel (o : Owner) (x : Unit) : (ownCancel o x).Keeps law := by
  unfold ownCancel
  refine keeps_get.bind fun _ => ?_
  split
  · exact keeps_throw _
  · exact (keeps_need _ _).bind fun _ => (keeps_modify (releaseSale_secure · _)).bind fun _ => keeps_pure _

theorem keeps_lookupAccount (t : Fin 8) (meter : Nat) : (lookupAccount t meter).Keeps law :=
  (keeps_check _ _).bind fun _ => (keeps_check _ _).bind fun _ => (keeps_check _ _).bind fun _ =>
    (keeps_lookupMeter _).bind fun _ => (keeps_readAccount _).bind fun _ => keeps_pure _

theorem keeps_needLastSale (a : Account) : (needLastSale a).Keeps law := by
  unfold needLastSale
  split
  · exact keeps_throw _
  · exact (keeps_need _ _).bind fun _ => keeps_pure _

theorem keeps_needReissue (l : LastSale) : (needReissue l).Keeps law :=
  (keeps_readItem _).bind fun _ => keeps_check _ _

theorem keeps_ownReissue (o : Owner) (meter : Nat) : (ownReissue o meter).Keeps law :=
  (keeps_lookupAccount _ _).bind fun _ => (keeps_needLastSale _).bind fun _ => (keeps_needReissue _).bind fun _ =>
    (keeps_check _ _).bind fun _ => (keeps_check _ _).bind fun _ => (keeps_modify fun _ => by rfl).bind fun _ => keeps_pure _

theorem keeps_ownReverse (o : Owner) (meter : Nat) : (ownReverse o meter).Keeps law :=
  (keeps_lookupAccount _ _).bind fun _ => (keeps_needLastSale _).bind fun _ =>
    ((keeps_readItem _).bind fun _ => keeps_check _ _).bind fun _ => (keeps_need _ _).bind fun _ =>
      (keeps_check _ _).bind fun _ => (keeps_check _ _).bind fun _ => (keeps_check _ _).bind fun _ =>
        (keeps_modify fun _ => by rfl).bind fun _ => keeps_pure _

theorem keeps_ownShiftOpen (o : Owner) (operator : Nat) : (ownShiftOpen o operator).Keeps law := by
  unfold ownShiftOpen
  refine (keeps_check _ _).bind fun _ => keeps_get.bind fun _ => ?_
  dsimp only
  split
  · exact (keeps_modify (writeTerm_secure · _ _)).bind fun _ => (keeps_modify (restartIdle_secure · _)).bind fun _ =>
      keeps_pure _
  · exact (keeps_check _ _).bind fun _ => keeps_needAdmission.bind fun _ => (keeps_modify fun _ => by rfl).bind fun _ =>
      keeps_pure _

theorem keeps_ownShiftClose (o : Owner) (target : Fin 8) : (ownShiftClose o target).Keeps law :=
  (keeps_check _ _).bind fun _ => (keeps_readItem _).bind fun _ => (keeps_check _ _).bind fun _ =>
    (keeps_check _ _).bind fun _ => keeps_needAdmission.bind fun _ => keeps_get.bind fun _ =>
      (keeps_modify fun _ => by rfl).bind fun _ => (keeps_modify (holdIdle_secure · _)).bind fun _ => keeps_pure _

theorem keeps_ownShiftResume (o : Owner) (operator : Nat) : (ownShiftResume o operator).Keeps law :=
  (keeps_check _ _).bind fun _ => (keeps_check _ _).bind fun _ => (keeps_modify (writeTerm_secure · _ _)).bind fun _ =>
    (keeps_modify (restartIdle_secure · _)).bind fun _ => keeps_get.bind fun _ => keeps_pure _

theorem keeps_ownShiftRead (o : Owner) (target : Fin 8) : (ownShiftRead o target).Keeps law :=
  (keeps_check _ _).bind fun _ => (keeps_readItem _).bind fun _ => keeps_get.bind fun _ => keeps_pure _

theorem keeps_ownTerminalSet (o : Owner) (r : Fin 8 × Role) : (ownTerminalSet o r).Keeps law :=
  (keeps_need _ _).bind fun _ => (keeps_check _ _).bind fun _ => (keeps_readItem _).bind fun _ =>
    (keeps_check _ _).bind fun _ => keeps_journaled _ _ _

theorem keeps_ownGrant (o : Owner) (v : Voucher) : (ownGrant o v).Keeps law :=
  (keeps_check _ _).bind fun _ => (keeps_check _ _).bind fun _ => (keeps_check _ _).bind fun _ =>
    (keeps_check _ _).bind fun _ => (keeps_readItem _).bind fun _ => keeps_get.bind fun _ =>
      (keeps_needWith _ _ _).bind fun _ => (keeps_needWith _ _ _).bind fun _ => keeps_journaled _ _ _

theorem keeps_ownReserveRead (o : Owner) (x : Unit) : (ownReserveRead o x).Keeps law :=
  (keeps_check _ _).bind fun _ => (keeps_readItem _).bind fun _ => (keeps_readItem _).bind fun _ =>
    keeps_get.bind fun _ => keeps_pure _

theorem keeps_ownJournalRead (o : Owner) (r : Nat × Nat) : (ownJournalRead o r).Keeps law := by
  have info (p : State → Bool) (c : ResultCode) : (needInfo p c).Keeps law :=
    keeps_get.bind fun _ => keeps_needWith _ _ _
  exact (keeps_modify fun _ => by simp [touchInfo]).bind fun _ => (info _ _).bind fun _ => (info _ _).bind fun _ =>
    (info _ _).bind fun _ => (info _ _).bind fun _ => (keeps_modify fun _ => by rfl).bind fun _ => keeps_pure _

theorem keeps_ownJournalRelease (o : Owner) (m : Nat) : (ownJournalRelease o m).Keeps law :=
  (keeps_check _ _).bind fun _ => (keeps_check _ _).bind fun _ =>
    (keeps_modify fun s => setPointers_secure s _ _).bind fun _ => keeps_get.bind fun _ => keeps_pure _

theorem keeps_ownJournalRetry (o : Owner) (x : Unit) : (ownJournalRetry o x).Keeps law :=
  (keeps_check _ _).bind fun _ => (keeps_check _ _).bind fun _ => (keeps_check _ _).bind fun _ =>
    (keeps_modify fun _ => by exact holdIdle_secure _ _).bind fun _ => keeps_pure _

theorem keeps_ownInitialise (o : Owner) (x : Unit) : (ownInitialise o x).Keeps law := by
  unfold ownInitialise
  refine keeps_see fun s h => ?_
  dsimp only
  split
  · exact (keeps_need _ _).bind fun _ => (keeps_modify fun _ => by rfl).bind fun _ => keeps_pure _
  · refine (keeps_check _ _).bind fun _ => (keeps_need _ _).bind fun _ => Judge.Keeps.bind (keeps_set ?_) fun _ =>
      keeps_pure _
    have same : (acceptInit (initWork o false (releaseOldest s).1 s) (queueRecord o (headNow o.terminal s)
        (.init .initialise) .none true (releaseOldest s).2)).secure = s.secure := releaseOldest_secure s
    rw [same]
    exact h

/-! ### The ends of lookups (R84, R86, R88) -/

theorem keeps_queueVend (t : Fin 8) (v : VendLookup) (body : RecordBody) (figures : Figures) :
    (queueVend t v body figures).Keeps law :=
  (keeps_readItem _).bind fun _ => keeps_needAdmission.bind fun _ => (keeps_modify fun _ => by rfl).bind fun _ => keeps_pure _

theorem keeps_vendEnd (t : Fin 8) (v : VendLookup) (found : Option SaleBody) : (vendEnd t v found).Keeps law := by
  unfold vendEnd
  split
  · exact keeps_throw _
  · split
    · exact (keeps_readAccount _).bind fun _ => (keeps_needLastSale _).bind fun _ => (keeps_needReissue _).bind fun _ =>
        (keeps_check _ _).bind fun _ => (keeps_need _ _).bind fun _ => keeps_queueVend _ _ _ _
    · exact (keeps_readAccount _).bind fun _ => (keeps_needLastSale _).bind fun _ => (keeps_need _ _).bind fun _ =>
        (keeps_check _ _).bind fun _ => (keeps_need _ _).bind fun _ => (keeps_need _ _).bind fun _ =>
          (keeps_readItem _).bind fun _ => (keeps_check _ _).bind fun _ => keeps_queueVend _ _ _ _

@[simp] theorem endLookup_secure (s : State) (t : Fin 8) (v : VendLookup) (found : Option SaleBody) :
    (endLookup t v found s).secure = s.secure := by
  have kept := keeps_vendEnd (law := (· = s.secure)) t v found (setLookup t none s) rfl
  unfold Judge.leaves at kept
  unfold endLookup concludeVend
  split <;> (rename_i e; rw [e] at kept; simpa using kept)

end

end Sys2Proof.Machine
end


section
/-!
SUPPORT. No step changes a factory item or lowers the voucher floor, and no command but TAMPER_CLEAR clears a set TAMPER
latch (R47, R97, R188, R189).
-/
namespace Sys2Proof.Machine

/-- What the rules keep of the secure memory whatever happens: the factory items stand, the voucher floor does not fall,
and a set latch stays set (R47, R97, R188). -/
structure SecureMemory.KeptIn (m n : SecureMemory) : Prop where
  factory : n.factory = m.factory
  floor : m.voucherFloor ≤ n.voucherFloor
  latch : m.tamperLatch = true → n.tamperLatch = true

theorem SecureMemory.KeptIn.refl (m : SecureMemory) : m.KeptIn m := ⟨rfl, le_refl _, id⟩

theorem SecureMemory.KeptIn.of_eq {m n : SecureMemory} (h : n = m) : m.KeptIn n := h ▸ .refl m

/-! ### The operations that write the secure memory -/

theorem keyOn_kept (seq : Nat) (k : KeyBody) (m : SecureMemory) : m.KeptIn (keyOn seq k m) := by
  unfold keyOn
  repeat' split
  all_goals exact ⟨rfl, le_refl _, id⟩

theorem zeroise_kept (m : SecureMemory) : m.KeptIn { zeroise m with tamperLatch := true } :=
  ⟨rfl, le_refl _, fun _ => rfl⟩

theorem applyGrant_kept (h : RecordHead) (v : Voucher) (s : State) : s.secure.KeptIn (applyGrant h v s).2.secure := by
  have kept : s.secure.KeptIn { s.secure with voucherFloor := max s.secure.voucherFloor v.number } :=
    ⟨rfl, le_max_left _ _, id⟩
  simpa [applyGrant, raiseFloor] using kept

theorem applyKey_kept (h : RecordHead) (k : KeyBody) (s : State) : s.secure.KeptIn (applyKey h k s).2.secure := by
  unfold applyKey
  dsimp only
  split
  · exact keyOn_kept _ _ _
  · exact .refl _

theorem initialiseAll_kept (seq : Nat) (s : State) : s.secure.KeptIn (initialiseAll seq s).secure :=
  ⟨rfl, le_refl _, id⟩

theorem memoryLossAt_kept (head : Nat) (s : State) : s.secure.KeptIn (memoryLossAt head s).secure :=
  ⟨rfl, le_refl _, id⟩

theorem applyInit_kept (h : RecordHead) (s : State) : s.secure.KeptIn (applyInit h s).2.secure := by
  unfold applyInit
  dsimp only
  split
  · rw [State.setInit_secure, endStartUp_secure]
    exact touchItem_secure s .signature ▸ initialiseAll_kept _ _
  · exact .of_eq (by simp)

/-! ### Completions -/

theorem applyRecord_kept (inService : Bool) (figures : Figures) (r : Record) (s : State) :
    s.secure.KeptIn (applyRecord inService figures r s).2.secure := by
  obtain ⟨h, body⟩ := r
  cases body with
  | init _ => exact applyInit_kept h s
  | grant v => exact applyGrant_kept h v s
  | key k => exact applyKey_kept h k s
  | void _ => exact .refl _
  | other _ => exact .refl _
  | sale b => exact .of_eq (by simp [applyRecord, applySale])
  | payment b => exact .of_eq (by simp [applyRecord, applyPayment])
  | reissue slot _ link => exact .of_eq (by simp [applyRecord, applyReissue])
  | reversal b => exact .of_eq (by simp [applyRecord, applyReversal])
  | shiftOpen =>
    refine .of_eq ?_
    simp only [applyRecord, applyShiftOpen]
    split <;> simp
  | shiftClose b => exact .of_eq (by simp [applyRecord, applyShiftClose])
  | account a => exact .of_eq (by simp [applyRecord])
  | tariff b effective => exact .of_eq (by simp [applyRecord])
  | clock new => exact .of_eq (by simp [applyRecord])
  | settings c => exact .of_eq (by simp [applyRecord])
  | terminal t role => exact .of_eq (by simp [applyRecord, applyTerminal])

theorem completeEntry_kept (e : QueueEntry) (s : State) : s.secure.KeptIn (completeEntry e s).secure := by
  have kept := applyRecord_kept true e.figures e.record (raiseHead s)
  rw [raiseHead_secure] at kept
  simpa [completeEntry] using kept

theorem writeDone_kept (w : BusWrite) (s : State) : s.secure.KeptIn (writeDone w s).secure := by
  unfold writeDone
  repeat' split
  · exact completeEntry_kept _ s
  · exact .refl _
  · have kept := applyInit_kept w.record.head (raiseHead s)
    rw [raiseHead_secure] at kept
    simpa [completeInit, answerInit] using kept
  · exact .refl _
  · exact .of_eq (by simp)
  · exact .refl _
  · exact .refl _

theorem rollForward_kept (r : Record) (s : State) : s.secure.KeptIn (scanOn (rollForward r s)).secure := by
  have on (u : State) : (scanOn u).secure = u.secure := by
    unfold scanOn
    split <;> rfl
  rw [on]
  exact applyRecord_kept false .none r s

theorem lastRecordRead_kept (again : Bool) (p : PageRead) (s : State) :
    s.secure.KeptIn (lastRecordRead again p s).secure := by
  have on : (scanOn s).secure = s.secure := by
    unfold scanOn
    split <;> rfl
  unfold lastRecordRead
  repeat' split
  · exact rollForward_kept _ s
  · exact .of_eq on
  · exact .refl _
  · exact .of_eq on

theorem headRead_kept (again : Bool) (c : RingCopy) (p : PageRead) (s : State) :
    s.secure.KeptIn (headRead again c p s).secure := by
  unfold headRead
  repeat' split
  · exact raiseHead_secure s ▸ rollForward_kept _ (raiseHead s)
  · exact .of_eq (by simp)
  · exact .refl _
  · exact .of_eq (by simp)

/-! ### The arbiter -/

theorem grantRead_secure (t : Fin 8) (s : State) : (grantRead t s).secure = s.secure := by
  unfold grantRead
  repeat' split
  all_goals simp

theorem grantRetry_secure (w : RetryWork) (probeAck : Bool) (s : State) : (grantRetry w probeAck s).secure = s.secure := by
  unfold grantRetry
  repeat' split
  all_goals simp

theorem grantInit_secure (i : InitWork) (reads : SMap ReadGot) (s : State) : (grantInit i reads s).secure = s.secure := by
  unfold grantInit grantInitAt
  dsimp only
  repeat' split
  all_goals simp

theorem grant_secure (probeAck : Bool) (reads : SMap ReadGot) (s : State) : (grant probeAck reads s).secure = s.secure := by
  have behind : (grantBehind probeAck reads s).secure = s.secure := by
    unfold grantBehind
    repeat' split
    · exact grantRetry_secure _ _ _
    · exact grantInit_secure _ _ _
    · rfl
    · exact grantRead_secure _ _
    · rfl
  unfold grant
  repeat' split
  · rfl
  · exact behind
  · exact behind

/-! ### Every command -/

/-- A request whose owning block keeps every law of the secure memory leaves it as it stands. -/
theorem takeRequest_kept {α : Type} {k : Kind} {parse : List Byte → Option α} {own : Owner → α → Judge Answer}
    (owner : ∀ {law : SecureMemory → Prop} (o : Owner) (a : α), (own o a).Keeps law) (s : State) :
    s.secure.KeptIn (takeRequest k parse own s).secure :=
  .of_eq (takeRequest_keeps (law := (· = s.secure)) owner rfl)

/-- TAMPER_CLEAR leaves the factory items and the voucher floor (R189). -/
theorem tamperClear_leaves (s : State) : ∃ u, exec .tamperClear s = .next u ∧
    u.secure.factory = s.secure.factory ∧ u.secure.voucherFloor = s.secure.voucherFloor :=
  ⟨_, rfl, takeRequest_keeps
    (law := fun m => m.factory = s.secure.factory ∧ m.voucherFloor = s.secure.voucherFloor)
    (keeps_ownTamperClear fun _ => id) ⟨rfl, rfl⟩⟩

/-- Every other command keeps the latch too. -/
theorem exec_kept (c : Instr) (other : c ≠ .tamperClear) (s : State) :
    ∃ u, exec c s = .next u ∧ s.secure.KeptIn u.secure := by
  cases c with
  | tamperClear => exact absurd rfl other
  | status => exact ⟨_, rfl, takeRequest_kept keeps_ownStatus s⟩
  | clockRead => exact ⟨_, rfl, takeRequest_kept keeps_ownClockRead s⟩
  | clockSet => exact ⟨_, rfl, takeRequest_kept keeps_ownClockSet s⟩
  | shiftOpen => exact ⟨_, rfl, takeRequest_kept keeps_ownShiftOpen s⟩
  | shiftClose => exact ⟨_, rfl, takeRequest_kept keeps_ownShiftClose s⟩
  | shiftResume => exact ⟨_, rfl, takeRequest_kept keeps_ownShiftResume s⟩
  | shiftRead => exact ⟨_, rfl, takeRequest_kept keeps_ownShiftRead s⟩
  | terminalSet => exact ⟨_, rfl, takeRequest_kept keeps_ownTerminalSet s⟩
  | quote => exact ⟨_, rfl, takeRequest_kept keeps_ownQuote s⟩
  | confirm => exact ⟨_, rfl, takeRequest_kept keeps_ownConfirm s⟩
  | cancel => exact ⟨_, rfl, takeRequest_kept keeps_ownCancel s⟩
  | reissue => exact ⟨_, rfl, takeRequest_kept keeps_ownReissue s⟩
  | reverse => exact ⟨_, rfl, takeRequest_kept keeps_ownReverse s⟩
  | accountCreate => exact ⟨_, rfl, takeRequest_kept keeps_ownCreate s⟩
  | accountEdit => exact ⟨_, rfl, takeRequest_kept keeps_ownEdit s⟩
  | accountRead => exact ⟨_, rfl, takeRequest_kept keeps_ownAccountRead s⟩
  | accountClose => exact ⟨_, rfl, takeRequest_kept keeps_ownClose s⟩
  | meterReplace => exact ⟨_, rfl, takeRequest_kept keeps_ownReplace s⟩
  | accountLoad => exact ⟨_, rfl, takeRequest_kept keeps_ownLoad s⟩
  | rekey => exact ⟨_, rfl, takeRequest_kept keeps_ownRekey s⟩
  | indexRebuild => exact ⟨_, rfl, takeRequest_kept keeps_ownRebuild s⟩
  | keyLoad => exact ⟨_, rfl, takeRequest_kept keeps_ownKeyLoad s⟩
  | keyRetire => exact ⟨_, rfl, takeRequest_kept keeps_ownKeyRetire s⟩
  | keyList => exact ⟨_, rfl, takeRequest_kept keeps_ownKeyList s⟩
  | tariffLoad => exact ⟨_, rfl, takeRequest_kept keeps_ownTariffLoad s⟩
  | tariffRead => exact ⟨_, rfl, takeRequest_kept keeps_ownTariffRead s⟩
  | grant => exact ⟨_, rfl, takeRequest_kept keeps_ownGrant s⟩
  | reserveRead => exact ⟨_, rfl, takeRequest_kept keeps_ownReserveRead s⟩
  | journalRead => exact ⟨_, rfl, takeRequest_kept keeps_ownJournalRead s⟩
  | journalRelease => exact ⟨_, rfl, takeRequest_kept keeps_ownJournalRelease s⟩
  | journalRetry => exact ⟨_, rfl, takeRequest_kept keeps_ownJournalRetry s⟩
  | integrityRead => exact ⟨_, rfl, takeRequest_kept keeps_ownIntegrityRead s⟩
  | integrityClear => exact ⟨_, rfl, takeRequest_kept keeps_ownIntegrityClear s⟩
  | settingsSet => exact ⟨_, rfl, takeRequest_kept keeps_ownSettingsSet s⟩
  | settingsRead => exact ⟨_, rfl, takeRequest_kept keeps_ownSettingsRead s⟩
  | initialise => exact ⟨_, rfl, takeRequest_kept keeps_ownInitialise s⟩
  | unknownRequest =>
    refine ⟨_, rfl, .of_eq ?_⟩
    repeat' split
    · rfl
    · exact pushReply_secure _ _ _ _ _ _
    · rfl
  | frameArrival | framingError | gapTimerExpiry | linkReset | replySent | characterReceived _ | lineEntersSpacing
  | lineReturnsToMarking =>
    refine ⟨_, rfl, .of_eq ?_⟩
    split <;> rfl
  | secondStep d => exact ⟨_, rfl, .of_eq (secondStep_secure s d)⟩
  | tariffEffective =>
    refine ⟨_, rfl, .of_eq ?_⟩
    split <;> simp
  | saleTimerExpiry t =>
    refine ⟨_, rfl, .of_eq ?_⟩
    split <;> simp
  | idleExpiry t =>
    refine ⟨_, rfl, .of_eq ?_⟩
    split
    · rw [setIdle_secure]
      unfold releaseQuoted suspendShift
      split <;> simp
    · rfl
  | scrubEvent =>
    refine ⟨_, rfl, .of_eq ?_⟩
    split <;> simp
  | arbiterGrant probeAck reads =>
    refine ⟨_, rfl, .of_eq ?_⟩
    split
    · exact grant_secure probeAck reads s
    · rfl
  | busNak left =>
    refine ⟨_, rfl, .of_eq ?_⟩
    dsimp only
    repeat' split
    all_goals simp
  | pollAck =>
    refine ⟨_, rfl, .of_eq ?_⟩
    repeat' split
    all_goals rfl
  | pollLimitExpiry =>
    refine ⟨_, rfl, .of_eq ?_⟩
    repeat' split
    all_goals simp
  | readBackEnd got =>
    refine ⟨_, rfl, ?_⟩
    repeat' split
    · exact writeDone_kept _ s
    · exact .of_eq (faultWrite_secure s _ _)
    · exact .refl _
    · exact .refl _
  | retryVoidEnd got =>
    refine ⟨_, rfl, .of_eq ?_⟩
    repeat' split
    all_goals simp
  | journalLookupEnd got =>
    refine ⟨_, rfl, .of_eq ?_⟩
    repeat' split
    all_goals simp
  | journalReadEnd got =>
    refine ⟨_, rfl, .of_eq ?_⟩
    repeat' split
    all_goals simp
  | supplyReset r => exact ⟨_, rfl, .of_eq (supplyReset_secure s r)⟩
  | startUpVoidEnd got =>
    refine ⟨_, rfl, .of_eq ?_⟩
    unfold beginScan
    repeat' split
    all_goals simp
  | rollForwardRead got =>
    refine ⟨_, rfl, ?_⟩
    repeat' split
    · exact lastRecordRead_kept _ _ s
    · exact .refl _
    · exact headRead_kept _ _ _ s
    · exact .refl _
    · exact .refl _
  | memoryLossInit reads =>
    refine ⟨_, rfl, ?_⟩
    repeat' split
    · exact .of_eq (by simp [journalSpent])
    · exact memoryLossAt_kept _ s
    · exact .refl _
  | tamperSwitchOpening r =>
    refine ⟨_, rfl, ?_⟩
    dsimp only
    repeat' split
    · exact .refl _
    · rw [supplyReset_secure]
      exact zeroise_kept _
    · exact zeroise_kept _
  | supplyLoss left =>
    refine ⟨_, rfl, .of_eq ?_⟩
    split <;> simp
  | enclosureSwitchClosing => exact ⟨_, rfl, .refl _⟩
  | writeStop left =>
    refine ⟨_, rfl, .of_eq ?_⟩
    repeat' split
    all_goals simp

/-- Settles O9: a tick leaves the secure memory, TAMPER_CLEAR all but the latch, and every other command keeps both. -/
theorem stepKeepsFactoryItemsFloorLatch : Obligations.StepKeepsFactoryItemsFloorLatch := by
  intro s t h
  unfold step at h
  cases p : s.pending with
  | nil =>
    rw [p] at h
    cases h
    rw [tick_secure]
    exact ⟨rfl, le_refl _, fun latch _ => latch⟩
  | cons c rest =>
    rw [p] at h
    by_cases clear : c = .tamperClear
    · subst clear
      obtain ⟨u, run, factory, floor⟩ := tamperClear_leaves (s.setPending rest)
      cases run.symm.trans h
      exact ⟨factory, floor.ge, fun _ other => absurd rfl other⟩
    · obtain ⟨u, run, factory, floor, latch⟩ := exec_kept c clear (s.setPending rest)
      cases run.symm.trans h
      exact ⟨factory, floor, fun set _ => latch set⟩

end Sys2Proof.Machine
end

section
/-!
SUPPORT. The requests on the key store and on the reserve with no word of account memory disturbed: what KEY_LOAD,
KEY_RETIRE (R48, R50) and GRANT (R96) ask of the state, and what they queue or refuse.
-/
namespace Sys2Proof.Machine

/-! ### The hand-over -/

theorem handed_keyClaimed {s : State} (hs : s.mem.ecc = []) (t : Fin 8) (area gen : Nat) :
    keyClaimed area gen (handed t s) = keyClaimed area gen s := by
  unfold keyClaimed
  rw [handed_queue hs]

theorem handed_keySlotClaimed {s : State} (hs : s.mem.ecc = []) (t : Fin 8) (slot : Nat) :
    keySlotClaimed slot (handed t s) = keySlotClaimed slot s := by
  unfold keySlotClaimed
  rw [handed_queue hs]

theorem handed_highestVoucher {s : State} (hs : s.mem.ecc = []) (t : Fin 8) (r : ReserveRecord) :
    highestVoucher r (handed t s) = highestVoucher r s := by
  unfold highestVoucher
  rw [handed_queue hs]

theorem handed_prospectiveBalance {s : State} (hs : s.mem.ecc = []) (t : Fin 8) (r : ReserveRecord) :
    prospectiveBalance r (handed t s) = prospectiveBalance r s := by
  unfold prospectiveBalance
  rw [handed_queue hs]

theorem handed_grantFits {s : State} (hs : s.mem.ecc = []) (t : Fin 8) (amount : Nat) :
    grantFits amount (handed t s) = grantFits amount s := by
  unfold grantFits queuedGrants
  rw [handed_prospectiveBalance hs, handed_queue hs, handed_mem hs]

/-! ### KEY_LOAD and KEY_RETIRE (R48, R50) -/

/-- The slot a load takes is the lowest of the 16 that is EMPTY and satisfies `p`. -/
theorem emptySlot_eq_some_of_lowest {p : Nat → Bool} {slots : SMap KeySlot} {slot : Nat} (within : slot < 16)
    (empty : SMap.find slot slots = none) (free : p slot = true)
    (lowest : ∀ n < slot, SMap.find n slots ≠ none ∨ p n = false) : emptySlot p slots = some slot := by
  unfold emptySlot
  rw [List.find?_range_eq_some]
  refine ⟨by simp [empty, free], List.mem_range.mpr within, fun n below => ?_⟩
  rcases lowest n below with held | taken
  · cases e : SMap.find n slots with
    | none => exact absurd e held
    | some k => rfl
  · simp [taken]

section
variable {u : State}

/-- A whole block for an area and generation that nothing names is journaled for the slot found. -/
theorem ownKeyLoad_of_room (serving : Serving u) (o : Owner) {r : KeyLoadReq} {slot : Nat}
    (clear : u.secure.tamperLatch = false)
    (agrees : checkValueOf (openKeyBlock u.secure.factory.transportKey r.keyBlock) = r.checkValue)
    (new : keySlotOf r.area r.gen u.secure.slots = none) (unclaimed : keyClaimed r.area r.gen u = false)
    (room : emptySlot (fun n => !keySlotClaimed n u) u.secure.slots = some slot) :
    (ownKeyLoad o r).run u = (journaled o (.key
      { action := .load, area := r.area, gen := r.gen, slot := slot, keyBlock := r.keyBlock, checkValue := r.checkValue })
      .none).run u := by
  unfold ownKeyLoad
  rw [then_service serving.1, then_check (by simp [clear]), then_clock serving.2, then_check (by simp [agrees]),
    then_check (by simp [new]), then_check (by simp [unclaimed]), then_get, room]

/-- An area and generation that a slot holds is journaled with the action its state takes. -/
theorem ownKeyRetire_of_held (serving : Serving u) (o : Owner) {area gen slot : Nat} {k : KeySlot}
    (held : keySlotOf area gen u.secure.slots = some (slot, k)) (unclaimed : keyClaimed area gen u = false) :
    (ownKeyRetire o (area, gen)).run u = (journaled o (.key
      { action := retireAction k, area := area, gen := gen, slot := slot, keyBlock := 0, checkValue := 0 })
      .none).run u := by
  unfold ownKeyRetire
  rw [then_service serving.1, then_clock serving.2, then_get, held]
  exact then_check (by simp [unclaimed]) _ _

theorem retireAction_eq (k : KeySlot) : retireAction k = if k.state = .active then .retire else .erase := by
  unfold retireAction
  cases k.state <;> rfl

end

/-- Settles O28: each owner's conditions hold of the state handed over, whose key store and queue are as they were. -/
theorem keyRequestsQueueTheirRecords : Obligations.KeyRequestsQueueTheirRecords := by
  intro t tag body s slot serving admits
  refine ⟨fun r asks parsed clear agrees new unclaimed within empty free lowest => ?_,
    fun area gen k asks parsed held unclaimed => ?_⟩
  · have hs := asks.sound
    have secure := handed_secure hs t
    refine congrArg _ (exec_queues asks parsed admits (ownKeyLoad_of_room (handed_serving hs serving t) _
      (by rw [secure]; exact clear) (by rw [secure]; exact agrees) (by rw [secure]; exact new)
      ((handed_keyClaimed hs t _ _).trans unclaimed) ?_))
    refine emptySlot_eq_some_of_lowest within (by rw [secure]; exact empty) ?_ fun n below => ?_
    · simp [handed_keySlotClaimed hs, free]
    · rw [secure, handed_keySlotClaimed hs]
      simpa using lowest n below
  · have hs := asks.sound
    rw [← retireAction_eq]
    exact congrArg _ (exec_queues asks parsed admits (ownKeyRetire_of_held (handed_serving hs serving t) _
      (by rw [handed_secure hs]; exact held) ((handed_keyClaimed hs t _ _).trans unclaimed)))

/-! ### GRANT (R96) -/

section
variable {u : State}

/-- A voucher for this module with a good authority code is judged by its number, then by its amount. -/
theorem ownGrant_of_good (hu : u.mem.ecc = []) (serving : Serving u) (o : Owner) {v : Voucher}
    (serial : v.serial = u.secure.factory.serial)
    (authority : v.authority = authorityCode u.secure.factory v.number v.amount) :
    (ownGrant o v).run u =
      (do
        needWith (decide (highestVoucher u.mem.sys.reserve u < v.number)) .voucherUsed
          (.voucherUsed (highestVoucher u.mem.sys.reserve u))
        needWith (grantFits v.amount u) .reserveFull (.prospective (prospectiveBalance u.mem.sys.reserve u))
        journaled o (.grant v) .none : Judge Answer).run u := by
  unfold ownGrant
  rw [then_service serving.1, then_clock serving.2, then_check (by simp [serial]),
    then_check (by simp [authorityGood, authority]), then_item hu, then_get]

end

/-- Settles O30: a good voucher is judged by its number against the highest, then by the room for its amount. -/
theorem grantQueuesVoucher : Obligations.GrantQueuesVoucher := by
  intro t tag body s v asks parsed serving serial authority
  have hs := asks.sound
  have mem := handed_mem hs t
  have good := ownGrant_of_good (handed_sound hs t) (handed_serving hs serving t) { terminal := t, tag := tag }
    (by rw [handed_secure hs]; exact serial) (by rw [handed_secure hs]; exact authority)
  rw [handed_highestVoucher hs, handed_grantFits hs, handed_prospectiveBalance hs, mem] at good
  refine ⟨fun above balance granted admits => ?_, fun used => ?_⟩
  · refine congrArg _ (exec_queues asks parsed admits (good.trans ?_))
    rw [then_needWith (decide_eq_true above), then_needWith (by simp [grantFits, balance, granted])]
  · refine congrArg _ (exec_refuses asks parsed (good.trans ?_))
    rw [judge_bind, needWith_run, if_neg (by simpa using used)]

end Sys2Proof.Machine
end

section
/-!
SUPPORT. The module at reset (R180, R181; log 1): every item the rules initialise, and the laws that every step keeps.
-/
namespace Sys2Proof.Machine

theorem reset_storesWf : storesWf State.reset = true := rfl

theorem reset_countsFit : CountsFit State.reset := ⟨Nat.zero_le 8, Nat.zero_le _, by decide⟩

theorem reset_damage_lawful : State.reset.mem.sys.damage.lawful := ⟨List.nodup_nil, Nat.zero_le 32⟩

theorem reset_setAsideSum : State.reset.setAsides = setAsideSum State.reset := rfl

theorem reset_repliesFit : RepliesFit State.reset := Nat.zero_le 16

/-- An empty receive buffer keeps its bounds, and demands that PAUSE be released. -/
theorem reset_bufferFits : BufferFits State.reset := ⟨Nat.zero_le 4, Nat.zero_le 2048, nofun, nofun⟩

theorem reset_pauseJudged : PauseJudged State.reset := by
  refine ⟨fun demanded => ?_, fun _ _ => rfl⟩
  have few : State.reset.line.arrived.length = 0 := rfl
  have free : State.reset.line.free = 2048 := rfl
  omega

theorem reset_faultHeld : FaultHeld State.reset := nofun

/-- Settles O3: the items by their values at reset, each law by what it says of them. -/
theorem resetLeavesManufacturedModuleLawful : Obligations.ResetLeavesManufacturedModuleLawful := by
  have idle (t : Fin 8) : State.reset.term t = { sale := none, lookup := none, idle := .stopped } :=
    Eight.get_all8 TermWork.idleNone t
  exact ⟨rfl, rfl, rfl, rfl, rfl, rfl, rfl, rfl, rfl, rfl, idle, rfl, rfl, rfl, rfl, rfl, rfl, rfl, rfl, rfl, rfl, rfl,
    rfl, rfl, rfl, rfl, rfl, reset_mem_wf, reset_storesWf, reset_countsFit, reset_damage_lawful, reset_setAsideSum,
    reset_repliesFit, reset_bufferFits, reset_pauseJudged, reset_faultHeld⟩

end Sys2Proof.Machine
end

section
/-!
SUPPORT. The completions of KEY and CLOCK records (R49, R51, R162): the key store by the record's action, and the
reading by the calendar, whose months 0 to 1199 each begin within the range of a reading (R156, R157).
-/
namespace Sys2Proof.Machine

/-! ### KEY records (R49, R51) -/

section
variable {seq : Nat} {k : KeyBody} {m : SecureMemory}

/-- A load with the latch clear puts the opened key into its slot. -/
theorem keyOn_load_of_clear (load : k.action = .load) (clear : m.tamperLatch = false) :
    keyOn seq k m = { m with
      slots := SMap.put k.slot { state := .active, area := k.area, gen := k.gen,
                                 key := openKeyBlock m.factory.transportKey k.keyBlock } m.slots
      counter := nextCounter m.counter, keyLastApplied := seq } := by
  simp [keyOn, load, clear]

/-- A load under a set latch moves the key last applied alone. -/
theorem keyOn_load_of_latched (load : k.action = .load) (latched : m.tamperLatch = true) :
    keyOn seq k m = { m with keyLastApplied := seq } := by
  simp [keyOn, load, latched]

/-- A RETIRE of a slot that still holds its area and generation retires it. -/
theorem keyOn_retire_of_held (retire : k.action = .retire) {x : KeySlot} (held : SMap.find k.slot m.slots = some x)
    (area : x.area = k.area) (gen : x.gen = k.gen) :
    keyOn seq k m = { m with
      slots := SMap.put k.slot { x with state := .retired } m.slots
      counter := nextCounter m.counter, keyLastApplied := seq } := by
  simp [keyOn, retire, held, area, gen]

/-- An ERASE of a slot that still holds its area and generation empties it. -/
theorem keyOn_erase_of_held (erase : k.action = .erase) {x : KeySlot} (held : SMap.find k.slot m.slots = some x)
    (area : x.area = k.area) (gen : x.gen = k.gen) :
    keyOn seq k m = { m with
      slots := SMap.erase k.slot m.slots, counter := nextCounter m.counter, keyLastApplied := seq } := by
  simp [keyOn, erase, held, area, gen]

/-- A RETIRE or ERASE of a slot that no longer holds its area and generation moves the key last applied alone. -/
theorem keyOn_of_gone (other : k.action ≠ .load)
    (gone : ∀ x, SMap.find k.slot m.slots = some x → x.area ≠ k.area ∨ x.gen ≠ k.gen) :
    keyOn seq k m = { m with keyLastApplied := seq } := by
  cases e : SMap.find k.slot m.slots with
  | none =>
    cases action : k.action with
    | load => exact absurd action other
    | retire => simp [keyOn, action, e]
    | erase => simp [keyOn, action, e]
  | some x =>
    have unheld : ¬ (x.area = k.area ∧ x.gen = k.gen) := not_and_or.mpr (gone x e)
    cases action : k.action with
    | load => exact absurd action other
    | retire => simp [keyOn, action, e, unheld]
    | erase => simp [keyOn, action, e, unheld]

end

theorem applyKey_of_past {h : RecordHead} {s : State} (past : s.secure.keyLastApplied < h.seq) (k : KeyBody) :
    (applyKey h k s).2 = s.setSecure (keyOn h.seq k s.secure) := if_pos past

/-! ### The calendar (R156, R157) -/

/-- The year of a day that lies between the first days of two years that follow one another. -/
theorem yearOfDay_eq {y d : Nat} (from_ : daysBefore y ≤ d) (before : d < daysBefore (y + 1)) : yearOfDay d = y := by
  unfold daysBefore at from_ before
  unfold yearOfDay
  split <;> omega

/-- The first day of a month is found in that month. -/
theorem findMonth_sum_take {l : List Nat} (positive : ∀ n ∈ l, 0 < n) {k : Nat} (within : k < l.length) :
    findMonth l (l.take k).sum = (k, 0) := by
  induction l generalizing k with
  | nil => simp at within
  | cons m l ih =>
    cases k with
    | zero => cases l <;> simp [findMonth, positive m]
    | succ k =>
      cases l with
      | nil => simp at within
      | cons n l =>
        have rest := ih (fun x hx => positive x (List.mem_cons_of_mem _ hx)) (k := k) (by simpa using within)
        have past : ¬ (m + ((n :: l).take k).sum < m) := by omega
        simp [findMonth, rest, past]

theorem findMonth_fst_lt {l : List Nat} (nonempty : l ≠ []) (d : Nat) : (findMonth l d).1 < l.length := by
  induction l generalizing d with
  | nil => exact absurd rfl nonempty
  | cons m l ih =>
    cases l with
    | nil => simp [findMonth]
    | cons n l =>
      have rest := ih (List.cons_ne_nil n l) (d - m)
      unfold findMonth
      split
      · simp
      · simpa using rest

theorem monthLengths_pos (y : Nat) : ∀ n ∈ monthLengths y, 0 < n := by
  unfold monthLengths
  split <;> decide

/-- A month begins before the last 30 days of its year. -/
theorem sum_take_monthLengths_le (y : Nat) {k : Nat} (month : k < 12) : ((monthLengths y).take k).sum ≤ 335 := by
  have prefix_ : ((monthLengths y).take k).sum ≤ ((monthLengths y).take 11).sum :=
    (List.take_sublist_take_left (by omega)).sum_le_sum (by simp)
  have whole : ((monthLengths y).take 11).sum ≤ 335 := by
    unfold monthLengths
    split <;> decide
  omega

/-- The first reading of a month lies in that month. -/
theorem monthOf_firstOfMonth (m : Nat) : monthOf (firstOfMonth m) = m := by
  have inYear := sum_take_monthLengths_le (m / 12) (Nat.mod_lt m (by omega : 12 > 0))
  have day : firstOfMonth m / 86400 = daysBefore (m / 12) + ((monthLengths (m / 12)).take (m % 12)).sum :=
    Nat.mul_div_cancel _ (by omega)
  have year : yearOfDay (firstOfMonth m / 86400) = m / 12 := by
    rw [day]
    exact yearOfDay_eq (Nat.le_add_right _ _) (by unfold daysBefore; omega)
  unfold monthOf
  simp only [year]
  rw [day, Nat.add_sub_cancel_left,
    findMonth_sum_take (monthLengths_pos _) (show m % 12 < 12 from Nat.mod_lt m (by decide))]
  omega

/-- The month of a reading is one of the 1,200. -/
theorem monthOf_le {n : Nat} (range : n ≤ lastReading) : monthOf n ≤ 1199 := by
  have year : yearOfDay (n / 86400) ≤ 99 := by
    unfold lastReading at range
    unfold yearOfDay
    split <;> omega
  have month := findMonth_fst_lt (l := monthLengths (yearOfDay (n / 86400))) (List.cons_ne_nil _ _)
    (n / 86400 - daysBefore (yearOfDay (n / 86400)))
  have twelve : (monthLengths (yearOfDay (n / 86400))).length = 12 := rfl
  unfold monthOf
  dsimp only
  omega

theorem monthOf_lastReading : monthOf lastReading = 1199 := by decide

/-- Each of the 1,200 months begins within the range of a reading. -/
theorem firstOfMonth_le {m : Nat} (range : m ≤ 1199) : firstOfMonth m ≤ lastReading := by
  have inYear := sum_take_monthLengths_le (m / 12) (Nat.mod_lt m (by omega : 12 > 0))
  have year : daysBefore (m / 12) ≤ 36160 := by
    unfold daysBefore
    omega
  unfold firstOfMonth lastReading
  omega

/-! ### CLOCK records (R162) -/

section
variable {reading new time : Nat}

theorem clockResult_of_within (month : monthOf reading ≤ monthOf (reading + new - time))
    (range : reading + new - time ≤ lastReading) : clockResult reading new time = reading + new - time := by
  unfold clockResult
  dsimp only
  rw [if_neg (Nat.not_lt.mpr month), min_eq_right range]

theorem clockResult_of_beyond (month : monthOf reading ≤ monthOf (reading + new - time))
    (range : lastReading < reading + new - time) : clockResult reading new time = lastReading := by
  unfold clockResult
  dsimp only
  rw [if_neg (Nat.not_lt.mpr month), min_eq_left range.le]

theorem clockResult_of_earlier (range : reading ≤ lastReading)
    (month : monthOf (reading + new - time) < monthOf reading) :
    clockResult reading new time = firstOfMonth (monthOf reading) := by
  unfold clockResult
  dsimp only
  rw [if_pos month, min_eq_right (firstOfMonth_le (monthOf_le range))]

theorem clockResult_le (reading new time : Nat) : clockResult reading new time ≤ lastReading := min_le_left _ _

/-- A CLOCK record never moves the clock to an earlier month. -/
theorem monthOf_le_clockResult (range : reading ≤ lastReading) :
    monthOf reading ≤ monthOf (clockResult reading new time) := by
  rcases lt_or_ge (monthOf (reading + new - time)) (monthOf reading) with earlier | month
  · rw [clockResult_of_earlier range earlier, monthOf_firstOfMonth]
  · rcases lt_or_ge lastReading (reading + new - time) with beyond | within
    · rw [clockResult_of_beyond month beyond, monthOf_lastReading]
      exact monthOf_le range
    · rw [clockResult_of_within month within]
      exact month

end

/-- What a CLOCK record past the clock last applied answers and leaves. -/
theorem applyClock_of_past {h : RecordHead} {s : State} (past : s.clock.lastApplied < h.seq) (new : Nat) :
    let after := clockResult s.clock.reading new h.time
    let raised := passesAlarm s.clock.reading after s.clock.alarm
    applyClock h new s =
      ((.ok, .clockSet s.clock.reading after (monthOf after) (monthOf after != monthOf s.clock.reading) raised),
        s.setClock { s.clock with reading := after, state := .running, lastApplied := h.seq,
                                  tariffRaised := s.clock.tariffRaised || raised }) := if_pos past

/-- Settles O52: the key store by the action, the latch and the slot; the reading by the month it would move to. -/
theorem keyAndClockRecordsTakeEffect : Obligations.KeyAndClockRecordsTakeEffect := by
  intro s h inService figures after
  refine ⟨fun k past => ?_, fun n past range => ?_⟩
  · have written : after (.key k) = s.setSecure (keyOn h.seq k s.secure) := applyKey_of_past past k
    rw [written]
    refine ⟨fun load clear => ?_, fun load latched => ?_, fun x held area gen => ⟨fun retire => ?_, fun erase => ?_⟩,
      fun other gone => ?_⟩
    · rw [keyOn_load_of_clear load clear]
      rfl
    · rw [keyOn_load_of_latched load latched]
    · rw [keyOn_retire_of_held retire held area gen]
      rfl
    · rw [keyOn_erase_of_held erase held area gen]
      rfl
    · rw [keyOn_of_gone other gone]
  · have written := applyClock_of_past past n
    have left : after (.clock n) = _ := congrArg Prod.snd written
    have said : (applyRecord inService figures { head := h, body := .clock n } s).1 = _ := congrArg Prod.fst written
    dsimp only
    rw [said, left]
    exact ⟨rfl, rfl, monthOf_le_clockResult range, clockResult_le _ _ _, clockResult_of_within, clockResult_of_beyond,
      clockResult_of_earlier range, rfl, rfl, rfl, rfl⟩

end Sys2Proof.Machine
end

section
/-!
SUPPORT. The loss of supply, the supply reset of a module whose account memory reads whole, and the enclosure switch (R53,
R126, R180 to R182, R188, R189).
-/
namespace Sys2Proof.Machine

/-! ### A write cut off (R126, R180) -/

/-- Cutting off a write reaches the journal device alone. -/
theorem cutWrite_frame (left : PageLeft) (s : State) : cutWrite left s = s.setDevice (cutWrite left s).device := by
  unfold cutWrite leavePage
  repeat' split
  all_goals rfl

theorem cutWrite_of_no_write {left : PageLeft} {s : State} (idle : ∀ w, s.bus ≠ some (.write w)) :
    cutWrite left s = s := by
  unfold cutWrite
  split
  · rename_i w e
    exact absurd e (idle w)
  · rfl

/-- A write that is not past its STOP, or past its programming, leaves its page. -/
theorem cutWrite_of_settled {left : PageLeft} {s : State} {w : BusWrite} (bus : s.bus = some (.write w))
    (settled : w.phase = .sending ∨ w.phase = .readBack) : cutWrite left s = s := by
  unfold cutWrite
  rw [bus]
  rcases settled with phase | phase <;> simp [phase]

/-- A write past its STOP leaves its page as far as it had gone. -/
theorem cutWrite_of_open {left : PageLeft} {s : State} {w : BusWrite} {n : Nat} (bus : s.bus = some (.write w))
    (open_ : w.phase = .programming n ∨ w.phase = .recovering n) :
    cutWrite left s = leavePage w.pos w.record left s := by
  unfold cutWrite
  rw [bus]
  rcases open_ with phase | phase <;> simp [phase]

theorem supplyLoss_of_powered {left : PageLeft} {s : State} (powered : s.powered = true) :
    exec (.supplyLoss left) s = .next ((freeBus (cutWrite left s)).setPowered false) :=
  congrArg _ (if_pos powered)

/-! ### OPEN shifts at a start-up (R181) -/

/-- A terminal's entry after a start-up: SUSPENDED where its shift was OPEN. -/
def TermEntry.suspended (e : TermEntry) : TermEntry := if e.shift = .opened then { e with shift := .suspended } else e

theorem TermEntry.suspended_head (e : TermEntry) :
    e.suspended.shiftNo = e.shiftNo ∧ e.suspended.operator = e.operator := by
  unfold TermEntry.suspended
  split <;> exact ⟨rfl, rfl⟩

section
variable {u : State}

theorem suspendOpen_of_sound (hu : u.mem.ecc = []) (t : Fin 8) : suspendOpen u t = u.setSys { u.mem.sys with
    terms := u.mem.sys.terms.put t (u.mem.sys.terms.get t).suspended } := by
  unfold suspendOpen TermEntry.suspended
  rw [itemBad_of_sound hu, storeItems_of_sound hu]
  by_cases opened : (u.mem.sys.terms.get t).shift = .opened
  · simp [opened]
  · simp only [opened, Bool.not_false, Bool.true_and, beq_iff_eq, if_false, Eight.put_get]
    rfl

theorem foldl_suspendOpen_of_sound (hu : u.mem.ecc = []) (l : List (Fin 8)) :
    l.foldl suspendOpen u = u.setSys { u.mem.sys with
      terms := l.foldl (fun e t => e.put t (e.get t).suspended) u.mem.sys.terms } := by
  induction l generalizing u with
  | nil => rfl
  | cons t l ih =>
    rw [List.foldl_cons, suspendOpen_of_sound hu, ih (by exact hu)]
    rfl

/-- Every OPEN shift becomes SUSPENDED. -/
theorem suspendAll_of_sound (hu : u.mem.ecc = []) : allTerminals.foldl suspendOpen u =
    u.setSys { u.mem.sys with terms := u.mem.sys.terms.map TermEntry.suspended } :=
  foldl_suspendOpen_of_sound hu allTerminals

/-! ### Start-up (R181 to R183) -/

/-- Without a valid signature the scan of the memory-loss initialisation begins. -/
theorem startUp_of_unsigned (hu : u.mem.ecc = []) (unsigned : u.mem.sys.signature = none) (copy : u.copy = none)
    (fault : u.sysFault = none) :
    startUp u = (((u.setBus (some .scan)).setCopy none).setMem u.mem).setMode (.starting .memoryLoss) := by
  have invalid : signatureValid u = false := by simp [signatureValid, unsigned]
  unfold startUp
  dsimp only
  rw [invalid, readWords_of_sound (by exact hu), ← copy, ← fault]
  rfl

/-- Account memory with every OPEN shift SUSPENDED. -/
def AccountMemory.suspended (m : AccountMemory) : AccountMemory :=
  { m with sys := { m.sys with terms := m.sys.terms.map TermEntry.suspended } }

/-- The Journal Controller's copy as start-up loads it from the system area (R120). -/
def SystemArea.copied (m : SystemArea) : RingCopy := { head := m.ring.head, tail := m.ring.tail, mark := m.mark }

/-- With a valid signature the pointers and the mark are loaded, and the OPEN shifts suspended. -/
theorem startUp_of_signed (hu : u.mem.ecc = []) (signed : u.mem.sys.signature ≠ none) :
    startUp u = startJournal (((u.setMode (.starting .memoryLoss)).setCopy (some u.mem.sys.copied)).setMem
      u.mem.suspended) := by
  have valid : signatureValid u = true := by
    simp [signatureValid, itemBad_of_sound hu, Option.isSome_iff_ne_none, signed]
  have loaded : loadCopy (u.setMode (.starting .memoryLoss)) =
      (u.setMode (.starting .memoryLoss)).setCopy (some u.mem.sys.copied) := by
    unfold loadCopy
    rw [itemBad_of_sound (by exact hu), itemBad_of_sound (by exact hu)]
    rfl
  unfold startUp
  dsimp only
  rw [valid, if_pos rfl, readWords_of_sound (by exact hu), loaded, suspendAll_of_sound (by exact hu)]
  rfl

/-- With no fault mark the scan begins, with the record before the head where there is one (R183). -/
theorem startUp_of_unmarked (hu : u.mem.ecc = []) (signed : u.mem.sys.signature ≠ none)
    (unmarked : u.mem.sys.mark = none) :
    startUp u = (((u.setBus (some .scan)).setCopy (some u.mem.sys.copied)).setMem u.mem.suspended).setMode
      (.starting (if u.mem.sys.ring.tail < u.mem.sys.ring.head then .lastRecord false else .scan false)) := by
  have order : 1 ≤ u.mem.sys.ring.head - u.mem.sys.ring.tail ↔ u.mem.sys.ring.tail < u.mem.sys.ring.head := by omega
  rw [startUp_of_signed hu signed]
  simp only [startJournal, SystemArea.copied, unmarked, beginScan, unreleased, State.setMem_copy, State.setCopy_copy,
    order, Bool.not_false, Bool.true_and, decide_eq_true_eq]
  rfl

/-- With a fault mark the write of a VOID there begins (R182). -/
theorem startUp_of_marked (hu : u.mem.ecc = []) (signed : u.mem.sys.signature ≠ none) {k : FaultMark}
    (marked : u.mem.sys.mark = some k) :
    startUp u = (((u.setBus (some (.write
        { job := .startUpVoid, pos := k.pos, secondAttempt := false, phase := .sending
          record :=
            { head := { seq := k.seq, time := u.clock.reading, terminal := 0
                        shiftNo := (u.mem.sys.terms.get 0).shiftNo, operator := (u.mem.sys.terms.get 0).operator }
              body := .void .startUp } }))).setCopy (some u.mem.sys.copied)).setMem u.mem.suspended).setMode
      (.starting .startUpVoid) := by
  obtain ⟨shiftNo, operator⟩ := TermEntry.suspended_head (u.mem.sys.terms.get 0)
  rw [startUp_of_signed hu signed, ← shiftNo, ← operator, ← Eight.get_map TermEntry.suspended]
  simp only [startJournal, SystemArea.copied, marked, startUpVoid, State.setMem_copy, State.setCopy_copy]
  rw [termView_of_sound (by exact hu)]
  rfl

end

/-! ### The supply reset (R180) -/

/-- The module as a supply reset leaves it before start-up goes on: every volatile item discarded. -/
def darkened (left : PageLeft) (strap : LineSpeed) (s : State) : State :=
  resetVolatile strap (s.setDevice (cutWrite left s).device)

theorem supplyReset_whole (s : State) (strap : LineSpeed) (left : PageLeft) :
    supplyReset { strap := strap, left := left, batteryFailed := false, disturbed := .quiet } s =
      startUp (darkened left strap s) := by
  unfold supplyReset darkened
  dsimp only
  rw [disturb_quiet, cutWrite_frame]
  rfl

theorem supplyReset_lost (s : State) (strap : LineSpeed) (left : PageLeft) :
    supplyReset { strap := strap, left := left, batteryFailed := true, disturbed := .quiet } s =
      startUp (loseMemory (darkened left strap s)) := by
  unfold supplyReset darkened
  dsimp only
  rw [disturb_quiet, cutWrite_frame]
  rfl

@[simp] theorem darkened_mem (left : PageLeft) (strap : LineSpeed) (s : State) : (darkened left strap s).mem = s.mem := by
  simp [darkened, resetVolatile, dropTerminals]

@[simp] theorem darkened_reading (left : PageLeft) (strap : LineSpeed) (s : State) :
    (darkened left strap s).clock.reading = s.clock.reading := by
  simp [darkened, resetVolatile, dropTerminals]

/-- What stands in each item of such a module, with start-up's own items set. -/
theorem darkened_eq (left : PageLeft) (strap : LineSpeed) (s : State) (bus : Option BusOp) (copy : Option RingCopy)
    (mem : AccountMemory) (mode : ModuleMode) :
    ((((darkened left strap s).setBus bus).setCopy copy).setMem mem).setMode mode =
      { s with
        powered := true, device := (cutWrite left s).device, line := .afterReset strap, tx := []
        terms := .all8 .idleNone, setAsides := 0, queue := [], reads := [], retry := none, init := none
        sysFault := none, bus := bus, scrub := { pos := 0, timer := none }
        clock := { s.clock with alarm := none, tariffRaised := false }
        mode := mode, copy := copy, mem := mem } := by
  simp only [darkened, resetVolatile, dropTerminals, State.setPowered, State.setLine, State.setTx, State.setTerms,
    State.setSetAsides, State.setReads, State.setQueue, State.setBus, State.setRetry, State.setInit, State.setCopy,
    State.setClock, State.setScrub, State.setSysFault, State.setMem, State.setMode, State.setDevice]

/-- A failed battery leaves a module without a valid signature, whatever its memory then holds (R181, R185). -/
theorem supplyReset_of_failed_battery (s : State) (strap : LineSpeed) (left : PageLeft) :
    ∃ lost draws, lost.sys.signature = none ∧
      supplyReset { strap := strap, left := left, batteryFailed := true, disturbed := .quiet } s =
        (((((darkened left strap s).setBus (some .scan)).setCopy none).setMem lost).setMode
          (.starting .memoryLoss)).setDraws draws := by
  refine ⟨(loseMemory (darkened left strap s)).mem, (darkened left strap s).draws + 1, rfl, ?_⟩
  rw [supplyReset_lost]
  exact startUp_of_unsigned (u := loseMemory (darkened left strap s)) rfl rfl rfl rfl

/-! ### The enclosure switch (R53, R188) -/

/-- The opening of a closed enclosure: the key store emptied and counted, the latch set. -/
def zeroised (s : State) : State :=
  (s.setEnclosureOpen true).setSecure { zeroise s.secure with tamperLatch := true }

theorem tamperSwitchOpening_of_closed (r : ResetInputs) {s : State} (closed : s.enclosureOpen = false) :
    exec (.tamperSwitchOpening r) s =
      if s.powered = true then exec (.supplyReset r) (zeroised s) else .next (zeroised s) := by
  have run : exec (.tamperSwitchOpening r) s =
      .next (if s.enclosureOpen then s else if s.powered then supplyReset r (zeroised s) else zeroised s) := rfl
  rw [run, closed, if_neg Bool.false_ne_true, apply_ite Host.Outcome.next]
  rfl

/-- Settles O46: the loss by the phase of the write in hand, the reset by the signature and the mark, the switch by what
it stands at. -/
theorem supplyAndEnclosure : Obligations.SupplyAndEnclosure := by
  intro s left strap inputs cut
  have pages : cut = (cutWrite left s).device := by
    dsimp only [cut]
    cases bus : s.bus with
    | none => rw [cutWrite_of_no_write (by simp [bus])]
    | some op =>
      cases op with
      | lookup _ | journalRead _ _ | scan => rw [cutWrite_of_no_write (by simp [bus])]
      | write w =>
        cases phase : w.phase with
        | sending => simp only [phase, cutWrite_of_settled bus (.inl phase)]
        | readBack => simp only [phase, cutWrite_of_settled bus (.inr phase)]
        | programming n =>
          rw [cutWrite_of_open bus (.inl phase)]
          cases left <;> simp only [phase] <;> rfl
        | recovering n =>
          rw [cutWrite_of_open bus (.inr phase)]
          cases left <;> simp only [phase] <;> rfl
  clear_value cut
  subst pages
  intro dark suspended opened
  have reset : exec (.supplyReset inputs) s = .next (startUp (darkened left strap s)) :=
    congrArg Host.Outcome.next (supplyReset_whole s strap left)
  refine ⟨?_, ?_, ?_, ?_, ?_, ?_, ?_, rfl⟩
  · intro powered idle
    rw [supplyLoss_of_powered powered, cutWrite_of_no_write idle]
    rfl
  · intro w powered bus
    refine ⟨fun settled => ?_, fun n open_ => ?_⟩
    · rw [supplyLoss_of_powered powered, cutWrite_of_settled bus settled]
      rfl
    · rw [supplyLoss_of_powered powered, cutWrite_of_open bus open_]
      cases left <;> rfl
  · intro whole signed
    rw [reset]
    refine ⟨fun unmarked => ?_, fun k marked => ?_⟩
    · rw [startUp_of_unmarked (by exact whole) (by exact signed) (by exact unmarked), darkened_eq]
      simp only [darkened_mem, SystemArea.copied, unmarked]
      rfl
    · rw [startUp_of_marked (by exact whole) (by exact signed) (by exact marked), darkened_eq]
      simp only [darkened_mem, darkened_reading, SystemArea.copied, marked]
      rfl
  · intro whole unsigned
    rw [reset, startUp_of_unsigned (by exact whole) (by exact unsigned) rfl rfl, darkened_eq, darkened_mem]
  · obtain ⟨lost, draws, unsigned, run⟩ := supplyReset_of_failed_battery s strap left
    rw [darkened_eq] at run
    exact ⟨lost, draws, unsigned, congrArg Host.Outcome.next run⟩
  · intro closed unpowered
    rw [tamperSwitchOpening_of_closed inputs closed, if_neg (by simp [unpowered])]
    rfl
  · intro closed powered
    rw [tamperSwitchOpening_of_closed inputs closed, if_pos powered]
    rfl

end Sys2Proof.Machine
end

section
/-!
SUPPORT. The key plan of a sale and its tokens (R45, R54 to R62): the current generation as a maximum, the plan by the
key change, and the fields of each plaintext.
-/
namespace Sys2Proof.Machine

/-! ### The current generation (R45) -/

/-- A slot is ACTIVE for an area. -/
def activeFor (area : Nat) (x : Nat × KeySlot) : Bool := decide (x.2.state = .active ∧ x.2.area = area)

/-- The current generation is the greatest of those of the ACTIVE slots. -/
theorem currentGen_eq_max (area : Nat) (slots : SMap KeySlot) :
    currentGen area slots = ((slots.filter (activeFor area)).map (·.2.gen)).max? := by
  unfold currentGen
  induction slots using List.reverseRecOn with
  | nil => rfl
  | append_singleton slots x ih =>
    rw [List.foldl_append, List.filter_append, List.map_append, ih, List.foldl_cons, List.foldl_nil]
    by_cases active : x.2.state = .active ∧ x.2.area = area
    · generalize (slots.filter (activeFor area)).map (·.2.gen) = gens
      rw [if_pos active]
      cases gens with
      | nil => simp [activeFor, active]
      | cons g gens => simp [activeFor, active, -List.max?_cons, List.max?_cons']
    · rw [if_neg active]
      simp [activeFor, active]

theorem currentGen_eq_some_iff (area g : Nat) (slots : SMap KeySlot) : currentGen area slots = some g ↔
    (∃ n k, (n, k) ∈ slots ∧ k.state = .active ∧ k.area = area ∧ k.gen = g) ∧
      ∀ n k, (n, k) ∈ slots → k.state = .active → k.area = area → k.gen ≤ g := by
  rw [currentGen_eq_max, List.max?_eq_some_iff, List.forall_mem_map]
  simp [activeFor, and_assoc]

/-! ### The key plan (R60, R61) -/

/-- The revoke delta is the difference from the revoked sequence, when that is 1 to 31. -/
theorem revokeDelta_eq_iff (seq : Nat) (revoked : Option Nat) {d : Nat} (positive : 1 ≤ d) :
    revokeDelta seq revoked = d ↔ d ≤ 31 ∧ ∃ q, revoked = some q ∧ q + d = seq := by
  cases revoked with
  | none => simp [revokeDelta]; omega
  | some q =>
    simp only [revokeDelta, Option.some.injEq, exists_eq_left']
    split <;> omega

/-- The tokens of a mode: none in PAYMENT mode. -/
def SaleMode.tokens (n : Nat) : SaleMode → Nat
  | .sale => n
  | .payment => 0

section
variable {a : Account} {slots : SMap KeySlot} {cur : Nat}

/-- With a key change the account's generation must be held, and the credit token is the first of its sequence. -/
theorem keyPlan_of_change (mode : SaleMode) (current : currentGen a.area slots = some cur)
    (change : a.keyGen ≠ cur ∨ a.forceKeyChange = true) :
    keyPlan mode a slots = if keySlotOf a.area a.keyGen slots = none then .error .keyMissing else .ok
      { keyChange := true, newGen := cur, tokenCount := mode.tokens 3, tokenSeq := 1, revokeDelta := 0, area := a.area
        oldGen := a.keyGen } := by
  have changes : (a.keyGen != cur || a.forceKeyChange) = true := by simpa using change
  unfold keyPlan
  rw [current]
  dsimp only
  rw [changes]
  cases mode <;> simp [SaleMode.tokens]

/-- Without one the credit token is the next of its sequence, which must not be spent. -/
theorem keyPlan_of_same (mode : SaleMode) (current : currentGen a.area slots = some cur)
    (same : ¬ (a.keyGen ≠ cur ∨ a.forceKeyChange = true)) :
    keyPlan mode a slots = if a.issueSeq = 65535 then .error .seqExhausted else .ok
      { keyChange := false, newGen := cur, tokenCount := mode.tokens 1, tokenSeq := a.issueSeq + 1
        revokeDelta := revokeDelta (a.issueSeq + 1) a.revokePending, area := a.area, oldGen := a.keyGen } := by
  have keeps : (a.keyGen != cur || a.forceKeyChange) = false := by simpa using same
  unfold keyPlan
  rw [current]
  dsimp only
  rw [keeps]
  cases mode <;> simp [SaleMode.tokens]

end

/-! ### The plaintexts (R56 to R58, R191) -/

/-- The fields of a number of three, the last lowest. -/
theorem extractLsb'_append₃ {a b c : Nat} (x : BitVec a) (y : BitVec b) (z : BitVec c) :
    (x ++ y ++ z).extractLsb' (b + c) a = x ∧ (x ++ y ++ z).extractLsb' c b = y ∧
      (x ++ y ++ z).extractLsb' 0 c = z := by
  refine ⟨?_, ?_, BitVec.extractLsb'_append_eq_right⟩
  · rw [BitVec.extractLsb'_append_eq_of_le (Nat.le_add_left c b), Nat.add_sub_cancel,
      BitVec.extractLsb'_append_eq_left]
  · rw [BitVec.extractLsb'_append_eq_of_le (le_refl c), Nat.sub_self, BitVec.extractLsb'_append_eq_right]

/-- The fields of a number of four, the last lowest. -/
theorem extractLsb'_append₄ {a b c d : Nat} (w : BitVec a) (x : BitVec b) (y : BitVec c) (z : BitVec d) :
    (w ++ x ++ y ++ z).extractLsb' (b + c + d) a = w ∧ (w ++ x ++ y ++ z).extractLsb' (c + d) b = x ∧
      (w ++ x ++ y ++ z).extractLsb' d c = y ∧ (w ++ x ++ y ++ z).extractLsb' 0 d = z := by
  obtain ⟨first, second, -⟩ := extractLsb'_append₃ w x y
  refine ⟨?_, ?_, (extractLsb'_append₃ (w ++ x) y z).2⟩
  · rw [BitVec.extractLsb'_append_eq_of_le (Nat.le_add_left d _), Nat.add_sub_cancel, first]
  · rw [BitVec.extractLsb'_append_eq_of_le (Nat.le_add_left d c), Nat.add_sub_cancel, second]

theorem withCheck_field (v : BitVec 48) {start : Nat} (h : 16 ≤ start) (len : Nat) :
    (withCheck v).extractLsb' start len = v.extractLsb' (start - 16) len := BitVec.extractLsb'_append_eq_of_le h

/-- The last 16 bits of a plaintext are the CRC of its first 48 (R58). -/
theorem withCheck_check (v : BitVec 48) :
    (withCheck v).extractLsb' 0 16 = crc16 (natBytes 6 ((withCheck v).extractLsb' 16 48).toNat) := by
  have front : (withCheck v).extractLsb' 16 48 = v := BitVec.extractLsb'_append_eq_left
  rw [front]
  exact BitVec.extractLsb'_append_eq_right

theorem creditPlain_fields (seq amount delta : Nat) :
    let credit := creditPlain seq amount delta
    credit.extractLsb' 61 3 = 0#3 ∧ credit.extractLsb' 45 16 = BitVec.ofNat 16 seq ∧
      credit.extractLsb' 21 24 = BitVec.ofNat 24 amount ∧ credit.extractLsb' 16 5 = BitVec.ofNat 5 delta := by
  obtain ⟨w, x, y, z⟩ := extractLsb'_append₄ 0#3 (BitVec.ofNat 16 seq) (BitVec.ofNat 24 amount) (BitVec.ofNat 5 delta)
  exact ⟨(withCheck_field _ (by decide) _).trans w, (withCheck_field _ (by decide) _).trans x,
    (withCheck_field _ (by decide) _).trans y, (withCheck_field _ (by decide) _).trans z⟩

theorem keyPlain_fields (cls : BitVec 3) (half : BitVec 1) (gen : BitVec 4) (part : BitVec 40) :
    let plain := withCheck (cls ++ half ++ gen ++ part)
    plain.extractLsb' 60 4 = cls ++ half ∧ plain.extractLsb' 56 4 = gen ∧ plain.extractLsb' 16 40 = part := by
  obtain ⟨x, y, z⟩ := extractLsb'_append₃ (cls ++ half) gen part
  exact ⟨(withCheck_field _ (by decide) _).trans x, (withCheck_field _ (by decide) _).trans y,
    (withCheck_field _ (by decide) _).trans z⟩

/-! ### The build (R62) -/

theorem areaKey_of_held {area gen n : Nat} {slots : SMap KeySlot} {k : KeySlot}
    (held : keySlotOf area gen slots = some (n, k)) : areaKey area gen slots = k.key := by
  simp [areaKey, held]

/-- Settles O59: the plan by its key change, the tokens by the keys its slots hold, the plaintexts field by field. -/
theorem keyPlansAndTokensGoByRule : Obligations.KeyPlansAndTokensGoByRule := by
  refine ⟨currentGen_eq_some_iff, fun mode a slots => ⟨fun none => ?_, fun cur current => ?_⟩, ?_, ?_⟩
  · simp [keyPlan, none]
  · refine ⟨fun change missing => ?_, fun change held => ?_, fun same spent => ?_, fun same unspent =>
      ⟨revokeDelta (a.issueSeq + 1) a.revokePending, ?_, fun d => revokeDelta_eq_iff _ _⟩⟩
    · rw [keyPlan_of_change mode current change, if_pos missing]
    · rw [keyPlan_of_change mode current change, if_neg held]
      cases mode <;> rfl
    · rw [keyPlan_of_same mode current same, if_pos spent]
    · rw [keyPlan_of_same mode current same, if_neg unspent]
      cases mode <;> rfl
  · intro plan meter amount slots n m fresh prior new old
    simp only [buildTokens, meterKeyOf, areaKey_of_held new, areaKey_of_held old]
    rfl
  · intro seq amount delta gen key
    refine ⟨creditPlain_fields seq amount delta, keyPlain_fields 1#3 0#1 _ _, keyPlain_fields 2#3 1#1 _ _, ?_⟩
    rintro x (rfl | rfl | rfl) <;> exact withCheck_check _

end Sys2Proof.Machine
end

section
/-!
SUPPORT. What stands at an offset of bytes laid end to end, and with it what is read back of a SALE record, of an account
image, of a token's digits and of a reply (R59, R167, R190, R191).
-/
namespace Sys2Proof.Machine

/-! ### Fields of bytes laid end to end -/

section
variable {front back : List Byte} {off len : Nat}

/-- A field behind the first part is one of the rest. -/
theorem field_append_of_le (h : front.length ≤ off) :
    field off len (front ++ back) = field (off - front.length) len back := by
  simp [field, List.drop_append, List.drop_eq_nil_of_le h]

/-- A field within the first part is one of that part. -/
theorem field_append_of_add_le (h : off + len ≤ front.length) : field off len (front ++ back) = field off len front := by
  have within : len ≤ (front.drop off).length := by rw [List.length_drop]; omega
  simp [field, List.drop_append, List.take_append_of_le_length within]

/-- A field behind a byte is one of the rest. -/
theorem field_cons_of_pos (b : Byte) (h : 1 ≤ off) : field off len (b :: back) = field (off - 1) len back :=
  field_append_of_le (front := [b]) h

theorem field_append_self (front back : List Byte) : field 0 front.length (front ++ back) = front := by simp [field]

theorem field_natBytes (w n : Nat) (back : List Byte) : field 0 w (natBytes w n ++ back) = natBytes w n := by
  simp [field]

theorem field_natBytes_last (w n : Nat) : field 0 w (natBytes w n) = natBytes w n := by
  simp [field]

end

/-- A yes/no byte reads as written. -/
theorem toNat_mod_beq_one (b : Bool) : (b.toNat % 256 == 1) = b := by cases b <;> rfl

/-- A byte is a field of one. -/
theorem byteAt_eq_fieldNat (i : Nat) (l : List Byte) : byteAt i l = fieldNat i 1 l := by
  unfold byteAt fieldNat field
  rw [List.take_one, List.head?_drop, List.getD_eq_getElem?_getD]
  cases l[i]? <;> simp [beNat]

/-- Bytes cut or filled to a length have it. -/
@[simp] theorem padTo_length (n : Nat) (l : List Byte) : (padTo n l).length = n := by
  simp [padTo]

/-- What is filled stands in front of its zeros. -/
theorem padTo_of_le {n : Nat} {l : List Byte} (h : l.length ≤ n) :
    padTo n l = l ++ List.replicate (n - l.length) 0 := by
  simp [padTo, List.take_append, List.take_of_length_le h]

theorem field_padTo {n off len : Nat} {l : List Byte} (fits : l.length ≤ n) (h : off + len ≤ l.length) :
    field off len (padTo n l) = field off len l := by
  rw [padTo_of_le fits, field_append_of_add_le h]

/-! ### Parts of one length laid end to end -/

section
variable {α : Type} {f : α → List Byte} {k : Nat}

theorem length_flatMap_of_const (each : ∀ x, (f x).length = k) (l : List α) : (l.flatMap f).length = k * l.length := by
  simp [List.length_flatMap, each, Nat.mul_comm]

/-- A field of the part numbered `i`. -/
theorem field_flatMap (each : ∀ x, (f x).length = k) {l : List α} {i j len : Nat} (hi : i < l.length) (hj : j + len ≤ k) :
    field (k * i + j) len (l.flatMap f) = field j len (f l[i]) := by
  induction l generalizing i with
  | nil => simp at hi
  | cons x l ih =>
    rw [List.flatMap_cons]
    cases i with
    | zero => exact field_append_of_add_le (by rw [each]; omega) |>.trans (by simp)
    | succ i =>
      rw [field_append_of_le (by rw [each, Nat.mul_succ]; omega), each,
        show k * (i + 1) + j - k = k * i + j by rw [Nat.mul_succ]; omega]
      exact ih (by simpa using hi)

end

/-! ### The bytes of a record (R191) -/

theorem recordFront_length (r : Record) : (recordFront r).length = 124 := by simp [recordFront]

theorem recordBytes_length (r : Record) : (recordBytes r).length = 128 := by simp [recordBytes, recordFront_length]

theorem crcGood_recordBytes (r : Record) : crcGood (recordBytes r) = true := by
  unfold crcGood recordBytes
  rw [List.drop_left' (recordFront_length r), List.take_left' (recordFront_length r)]
  exact beq_self_eq_true _

/-- The figures of the common head, at their offsets. -/
theorem recordBytes_head (r : Record) :
    fieldNat 0 4 (recordBytes r) = r.head.seq % 256 ^ 4 ∧ byteAt 4 (recordBytes r) = r.body.code % 256 ^ 1 ∧
      fieldNat 6 4 (recordBytes r) = r.head.time % 256 ^ 4 ∧ byteAt 10 (recordBytes r) = r.head.terminal % 256 ^ 1 ∧
      fieldNat 11 2 (recordBytes r) = r.head.shiftNo % 256 ^ 2 ∧
      fieldNat 13 2 (recordBytes r) = r.head.operator % 256 ^ 2 := by
  simp only [byteAt_eq_fieldNat, fieldNat, ← beNat_natBytes]
  simp [recordBytes, recordFront, field_append_of_le, field_natBytes]

/-- A field of the body, which stands from byte 16 on. -/
theorem field_recordBytes_body {r : Record} {off len : Nat} (from_ : 16 ≤ off) (fits : r.body.bytes.length ≤ 108)
    (within : off - 16 + len ≤ r.body.bytes.length) :
    field off len (recordBytes r) = field (off - 16) len r.body.bytes := by
  unfold recordBytes recordFront
  rw [field_append_of_add_le (by simp; omega), field_append_of_le (by simpa using from_)]
  simp only [List.length_append, natBytes_length, List.length_singleton]
  exact field_padTo fits within

/-! ### A SALE record read back (R191) -/

/-- The first 41 bytes of a SALE's body, up to the tariff blocks touched. -/
def saleFigures (b : SaleBody) : List Byte :=
  natBytes 2 b.slot ++ natBytes 5 b.meter ++ natBytes 4 b.tendered ++ natBytes 4 b.tax ++ natBytes 4 b.recovered
    ++ natBytes 3 b.purchased ++ natBytes 3 b.allowance ++ natBytes 3 b.carryBefore ++ natBytes 3 b.carryAfter
    ++ natBytes 3 b.monthBefore ++ natBytes 1 b.tokenCount ++ natBytes 2 b.tokenSeq ++ natBytes 1 b.keyChange.toNat
    ++ natBytes 1 b.newGen ++ natBytes 1 b.revokeDelta ++ natBytes 1 b.touched.length

theorem saleBytes_eq (b : SaleBody) : saleBytes b = saleFigures b ++
    (padTo 28 (b.touched.flatMap touchedBytes) ++ padTo 24 (b.ciphers.flatMap cipherBytes)) := by
  simp [saleBytes, saleFigures]

theorem saleFigures_length (b : SaleBody) : (saleFigures b).length = 41 := by simp [saleFigures]

theorem saleBytes_length (b : SaleBody) : (saleBytes b).length = 93 := by simp [saleBytes_eq, saleFigures_length]

theorem touchedBytes_length (x : TouchedBlock) : (touchedBytes x).length = 7 := by simp [touchedBytes]

theorem cipherBytes_length (c : Block64) : (cipherBytes c).length = 8 := by simp [cipherBytes]

section
variable {h : RecordHead} {b : SaleBody}

/-- A figure of a SALE record, by its place among the first 41 bytes of the body. -/
theorem field_sale {off len : Nat} (from_ : 16 ≤ off) (within : off - 16 + len ≤ 41) :
    field off len (recordBytes { head := h, body := .sale b }) = field (off - 16) len (saleFigures b) := by
  have size : (saleBytes b).length = 93 := saleBytes_length b
  rw [field_recordBytes_body from_ (by exact size.trans_le (by decide)) (by exact size ▸ by omega)]
  show field _ _ (saleBytes b) = _
  rw [saleBytes_eq, field_append_of_add_le (by rw [saleFigures_length]; exact within)]

/-- A field of the tariff block numbered `i`, seven bytes each from byte 57 on. -/
theorem field_sale_touched (few : b.touched.length ≤ 4) {i j len : Nat} (hi : i < b.touched.length) (hj : j + len ≤ 7) :
    field (57 + 7 * i + j) len (recordBytes { head := h, body := .sale b }) = field j len (touchedBytes b.touched[i]) := by
  have size : (saleBytes b).length = 93 := saleBytes_length b
  have total := length_flatMap_of_const touchedBytes_length b.touched
  rw [field_recordBytes_body (by omega) (by exact size.trans_le (by decide)) (by exact size ▸ by omega)]
  show field _ _ (saleBytes b) = _
  rw [saleBytes_eq, field_append_of_le (by rw [saleFigures_length]; omega), saleFigures_length,
    field_append_of_add_le (by rw [padTo_length]; omega), field_padTo (by omega) (by omega),
    show 57 + 7 * i + j - 16 - 41 = 7 * i + j by omega]
  exact field_flatMap touchedBytes_length hi hj

/-- The ciphertext numbered `i`, eight bytes each from byte 85 on. -/
theorem field_sale_cipher (few : b.ciphers.length ≤ 3) {i : Nat} (hi : i < b.ciphers.length) :
    field (85 + 8 * i) 8 (recordBytes { head := h, body := .sale b }) = cipherBytes b.ciphers[i] := by
  have size : (saleBytes b).length = 93 := saleBytes_length b
  have total := length_flatMap_of_const cipherBytes_length b.ciphers
  rw [field_recordBytes_body (by omega) (by exact size.trans_le (by decide)) (by exact size ▸ by omega)]
  show field _ _ (saleBytes b) = _
  rw [saleBytes_eq, field_append_of_le (by rw [saleFigures_length]; omega), saleFigures_length,
    field_append_of_le (by rw [padTo_length]; omega), padTo_length, field_padTo (by omega) (by omega),
    show 85 + 8 * i - 16 - 41 - 28 = 8 * i + 0 by omega, field_flatMap cipherBytes_length hi (by decide)]
  exact field_natBytes_last 8 _

/-- The tariff blocks of a SALE record are those written. -/
theorem touchedOf_recordBytes (few : b.touched.length ≤ 4)
    (fit : ∀ x ∈ b.touched, x.number < 256 ∧ x.units < 16777216 ∧ x.price < 16777216) {i : Nat} (hi : i < b.touched.length) :
    touchedOf (recordBytes { head := h, body := .sale b }) i = b.touched[i] := by
  obtain ⟨number, units, price⟩ := fit _ (List.getElem_mem hi)
  have at_ (j len : Nat) (hj : j + len ≤ 7) := field_sale_touched (h := h) few hi hj
  have n := at_ 0 1 (by decide)
  have u := at_ 1 3 (by decide)
  have p := at_ 4 3 (by decide)
  unfold touchedOf fieldNat
  rw [show 57 + 7 * i = 57 + 7 * i + 0 from rfl, show 58 + 7 * i = 57 + 7 * i + 1 by omega,
    show 61 + 7 * i = 57 + 7 * i + 4 by omega, n, u, p]
  simp [touchedBytes, field_append_of_le, field_natBytes, field_natBytes_last, beNat_natBytes, Nat.mod_eq_of_lt,
    number, units, price]

/-- The ciphertexts of a SALE record are those written. -/
theorem cipherOf_recordBytes (few : b.ciphers.length ≤ 3) {i : Nat} (hi : i < b.ciphers.length) :
    BitVec.ofNat 64 (fieldNat (85 + 8 * i) 8 (recordBytes { head := h, body := .sale b })) = b.ciphers[i] := by
  unfold fieldNat
  rw [field_sale_cipher few hi, cipherBytes, beNat_natBytes, Nat.mod_eq_of_lt (by have := b.ciphers[i].isLt; omega),
    BitVec.ofNat_toNat, BitVec.setWidth_eq]

/-- The figures of a SALE record are those written. -/
theorem saleOf_recordBytes (fits : b.fits) : saleOf (recordBytes { head := h, body := .sale b }) = b := by
  obtain ⟨slot, meter, tendered, tax, recovered, purchased, allowance, carryBefore, carryAfter, monthBefore, tokenCount,
    tokenSeq, newGen, revokeDelta, touched, ciphers, blocks⟩ := fits
  have counted : fieldNat 50 1 (recordBytes { head := h, body := .sale b }) = b.ciphers.length := by
    simp [fieldNat, field_sale, saleFigures, field_append_of_le, field_natBytes, beNat_natBytes, ciphers,
      Nat.mod_eq_of_lt (show b.tokenCount < 256 by omega)]
  have numbered : fieldNat 56 1 (recordBytes { head := h, body := .sale b }) = b.touched.length := by
    simp [fieldNat, field_sale, saleFigures, field_append_of_le, field_natBytes_last, beNat_natBytes,
      Nat.mod_eq_of_lt (show b.touched.length < 256 by omega)]
  have touchedRead : (List.range (min 4 b.touched.length)).map (touchedOf (recordBytes { head := h, body := .sale b })) =
      b.touched := by
    rw [min_eq_right touched]
    exact List.ext_getElem (by simp) fun i _ hi => by simp [touchedOf_recordBytes touched blocks hi]
  have few : b.ciphers.length ≤ 3 := ciphers ▸ tokenCount
  have ciphersRead : (List.range (min 3 b.ciphers.length)).map (fun i => BitVec.ofNat 64
      (fieldNat (85 + 8 * i) 8 (recordBytes { head := h, body := .sale b }))) = b.ciphers := by
    rw [min_eq_right few]
    exact List.ext_getElem (by simp) fun i _ hi => by simp [cipherOf_recordBytes few hi]
  have digits : b.meter < 1099511627776 := meter
  unfold saleOf
  simp only [byteAt_eq_fieldNat, counted, numbered, touchedRead, ciphersRead]
  simp [fieldNat, field_sale, saleFigures, field_append_of_le, field_natBytes, beNat_natBytes, Nat.mod_eq_of_lt,
    slot, digits, tendered, tax, recovered, purchased, allowance, carryBefore, carryAfter, monthBefore, tokenSeq, newGen,
    revokeDelta, ciphers, toNat_mod_beq_one]

/-- A SALE record read from its 128 bytes is the record written. -/
theorem recordOf_recordBytes (head : h.fits) (fits : b.fits) :
    recordOf (recordBytes { head := h, body := .sale b }) = { head := h, body := .sale b } := by
  obtain ⟨seq, time, terminal, shiftNo, operator⟩ := head
  obtain ⟨seqRead, kind, timeRead, terminalRead, shiftRead, operatorRead⟩ :=
    recordBytes_head { head := h, body := .sale b }
  have sale : bodyOf (recordBytes { head := h, body := .sale b }) = .sale b := by
    unfold bodyOf
    rw [kind]
    exact congrArg RecordBody.sale (saleOf_recordBytes fits)
  simp [recordOf, seqRead, timeRead, terminalRead, shiftRead, operatorRead, sale, Nat.mod_eq_of_lt, seq, time, terminal,
    shiftNo, operator]

end

/-! ### An account image read back (R190) -/

theorem acctStateOf_code (s : AcctState) : acctStateOf s.code = some s := by cases s <;> rfl

/-- Each bit of the flags byte is the flag it stands for. -/
theorem imageFlags_bits (a : Account) :
    bitAt (imageFlags a) 0 = a.forceKeyChange ∧ bitAt (imageFlags a) 1 = a.allowanceFlag ∧
      bitAt (imageFlags a) 2 = a.lastSale.isSome ∧ bitAt (imageFlags a) 3 = a.lastSale.any (·.reversed) ∧
      bitAt (imageFlags a) 4 = a.lastSale.any (·.keyChange) ∧ bitAt (imageFlags a) 5 = a.revokePending.isSome := by
  have bits : ∀ u v w x y z : Bool,
      let n := u.toNat + 2 * v.toNat + 4 * w.toNat + 8 * x.toNat + 16 * y.toNat + 32 * z.toNat
      bitAt n 0 = u ∧ bitAt n 1 = v ∧ bitAt n 2 = w ∧ bitAt n 3 = x ∧ bitAt n 4 = y ∧ bitAt n 5 = z := by decide
  exact bits _ _ _ _ _ _

theorem imageFlags_le (a : Account) : imageFlags a ≤ 63 := by
  have bit (b : Bool) : b.toNat ≤ 1 := Bool.toNat_le b
  have := bit a.forceKeyChange
  have := bit a.allowanceFlag
  have := bit a.lastSale.isSome
  have := bit (a.lastSale.any (·.reversed))
  have := bit (a.lastSale.any (·.keyChange))
  have := bit a.revokePending.isSome
  unfold imageFlags
  omega

theorem accountImage_length (a : Account) : (accountImage a).length = 53 := by
  unfold accountImage
  simp only [List.length_append, natBytes_length]

/-- A bound on a last sale's number bounds what the image writes of it. -/
theorem lastField_le {a : Account} {f : LastSale → Nat} {n : Nat} (bound : ∀ l, a.lastSale = some l → f l ≤ n) :
    lastField a f ≤ n := by
  unfold lastField
  split
  · exact bound _ ‹_›
  · exact Nat.zero_le n

/-- The numbers of the last sale part fit the image's fields. -/
theorem lastField_ranges {a : Account} (range : a.inRange) :
    lastField a (·.seq) ≤ 4294967295 ∧ lastField a (·.time) ≤ 4294967295 ∧ lastField a (·.tokenSeq) ≤ 65535 ∧
      lastField a (·.reissues) ≤ 9 := by
  obtain ⟨-, -, -, -, -, -, -, -, -, -, -, -, -, -, lastSale, -⟩ := range
  exact ⟨lastField_le fun l h => (lastSale l h).1, lastField_le fun l h => (lastSale l h).2.1,
    lastField_le fun l h => (lastSale l h).2.2.1, lastField_le fun l h => (lastSale l h).2.2.2⟩

/-- The last sale part is the one its numbers and flags say. -/
theorem lastSale_of_fields (a : Account) :
    (if a.lastSale.isSome = true then
      some { seq := lastField a (·.seq), time := lastField a (·.time), tokenSeq := lastField a (·.tokenSeq),
             reversed := a.lastSale.any (·.reversed), keyChange := a.lastSale.any (·.keyChange),
             reissues := lastField a (·.reissues) }
    else none) = a.lastSale := by
  unfold lastField
  cases a.lastSale <;> rfl

theorem revokePending_of_field (o : Option Nat) : (if o.isSome = true then some (o.getD 0) else none) = o := by
  cases o <;> rfl

/-- What an image's bytes 0 to 5 hold. -/
theorem accountImage_bytes {a : Account} (range : a.inRange) :
    byteAt 0 (accountImage a) = a.state.code ∧ byteAt 1 (accountImage a) = a.area ∧
      byteAt 2 (accountImage a) = a.keyGen ∧ byteAt 3 (accountImage a) = a.tariffClass ∧
      byteAt 4 (accountImage a) = imageFlags a ∧ byteAt 5 (accountImage a) = lastField a (·.reissues) := by
  have code : a.state.code < 256 := by cases a.state <;> decide
  have flags : imageFlags a < 256 := (imageFlags_le a).trans_lt (by decide)
  obtain ⟨-, -, -, few⟩ := lastField_ranges range
  obtain ⟨-, area, keyGen, tariffClass, -⟩ := range
  simp only [byteAt_eq_fieldNat, fieldNat]
  unfold accountImage
  simp [field_append_of_le, field_natBytes, beNat_natBytes, Nat.mod_eq_of_lt, code, flags,
    Nat.lt_of_le_of_lt few, Nat.lt_of_le_of_lt area, Nat.lt_of_le_of_lt keyGen, Nat.lt_of_le_of_lt tariffClass]

/-- An account's image reads as that account. -/
theorem imageAccount_accountImage {a : Account} (range : a.inRange) : imageAccount (accountImage a) = a := by
  obtain ⟨state, areaByte, keyGenByte, classByte, flags, reissues⟩ := accountImage_bytes range
  obtain ⟨saleSeq, saleTime, tokenSeq, -⟩ := lastField_ranges range
  obtain ⟨meter, -, -, -, issueSeq, counterMonth, monthUnits, allowanceIssued, debt, rate, carry, -, maxPerSale,
    lastApplied, -, revokePending⟩ := range
  have revoke : a.revokePending.getD 0 ≤ 65535 := by
    cases h : a.revokePending with
    | none => exact Nat.zero_le _
    | some r => exact revokePending r h
  unfold imageAccount
  simp only [state, areaByte, keyGenByte, classByte, flags, reissues, acctStateOf_code, imageFlags_bits, ifBit]
  simp only [fieldNat]
  unfold accountImage
  simp [field_append_of_le, field_natBytes, field_natBytes_last, beNat_natBytes, Nat.mod_eq_of_lt,
    Nat.lt_of_le_of_lt meter, Nat.lt_of_le_of_lt issueSeq, Nat.lt_of_le_of_lt counterMonth,
    Nat.lt_of_le_of_lt monthUnits, Nat.lt_of_le_of_lt allowanceIssued, Nat.lt_of_le_of_lt debt,
    Nat.lt_of_le_of_lt rate, Nat.lt_of_le_of_lt carry, Nat.lt_of_le_of_lt maxPerSale, Nat.lt_of_le_of_lt lastApplied,
    Nat.lt_of_le_of_lt saleSeq, Nat.lt_of_le_of_lt saleTime, Nat.lt_of_le_of_lt tokenSeq, Nat.lt_of_le_of_lt revoke,
    lastSale_of_fields, revokePending_of_field]

/-- An account's image passes the checks of a load. -/
theorem imageOk_accountImage {a : Account} (range : a.inRange) : imageOk (accountImage a) = true := by
  obtain ⟨state, -, -, -, flags, reissues⟩ := accountImage_bytes range
  obtain ⟨-, -, -, few⟩ := lastField_ranges range
  unfold imageOk
  rw [imageAccount_accountImage range, state, flags, reissues, acctStateOf_code]
  obtain ⟨meter, area, keyGen, tariffClass, issueSeq, counterMonth, monthUnits, allowanceIssued, debt, rate, carry,
    positive, maxPerSale, -, -, -⟩ := range
  simp [meterOk, imageFlags_le, few, meter, area, keyGen, tariffClass, counterMonth, monthUnits, allowanceIssued, debt,
    rate, carry, positive, maxPerSale]

/-! ### The digits of a token (R59) -/

theorem decimals_length (n v : Nat) : (decimals n v).length = n := by
  induction n with
  | zero => rfl
  | succ n ih => simp [decimals, ih]

/-- Equal digits are digits of numbers that agree below their power of ten. -/
theorem mod_eq_of_decimals_eq {n v w : Nat} (h : decimals n v = decimals n w) : v % 10 ^ n = w % 10 ^ n := by
  induction n with
  | zero => simp [Nat.mod_one]
  | succ n ih =>
    obtain ⟨digit, rest⟩ := List.cons.inj h
    rw [pow_succ, Nat.mod_mul, Nat.mod_mul, ih rest, digit]

theorem render_length (x : Block64) : (render x).length = 24 := by simp [render, decimals_length]

/-- A ciphertext is below 10 to the 20th, so its first twenty digits determine it. -/
theorem eq_of_render_eq {x y : Block64} (h : render x = render y) : x = y := by
  obtain ⟨value, -⟩ := List.append_inj h (by simp [decimals_length])
  have same := mod_eq_of_decimals_eq value
  rw [Nat.mod_eq_of_lt (by have := x.isLt; omega), Nat.mod_eq_of_lt (by have := y.isLt; omega)] at same
  exact BitVec.eq_of_toNat_eq same

/-! ### The content of a reply (R167, R190) -/

theorem crcMatches_withCrc (l : List Byte) : crcMatches (withCrc l) = true := by
  have size : (withCrc l).length - 2 = l.length := by rw [withCrc_length, Nat.add_sub_cancel]
  unfold crcMatches
  rw [size]
  simp [withCrc]

theorem ResultCode.code_lt (r : ResultCode) : r.code < 256 := by cases r <;> decide

theorem StatusFlags.toNat_lt (f : StatusFlags) : f.toNat < 65536 := by
  have bit (b : Bool) : b.toNat ≤ 1 := Bool.toNat_le b
  have := bit f.reserveLow
  have := bit f.journalNearFull
  have := bit f.journalFaulted
  have := bit f.damagePresent
  have := bit f.clockNotSet
  have := bit f.tamperLatched
  have := bit f.linkOverflow
  have := bit f.outOfService
  have := bit f.indexDamaged
  unfold StatusFlags.toNat
  omega

/-- The header of a reply and its body stand where a reader takes them. -/
theorem replyContent_fields (r : Reply) :
    let bytes := replyContent r
    frameKind bytes = r.kind ∧ frameTerminal bytes = r.terminal ∧ frameTag bytes = r.tag ∧
      fieldNat 4 1 bytes = r.result.code ∧ fieldNat 5 2 bytes = r.flags.toNat ∧
      field 7 (bytes.length - 9) bytes = r.body.bytes := by
  have code : r.result.code < 256 := r.result.code_lt
  have flags : r.flags.toNat < 65536 := r.flags.toNat_lt
  have tag : r.tag.toNat < 65536 := r.tag.isLt
  have size : (replyContent r).length - 9 = r.body.bytes.length := by
    rw [replyContent_length, Nat.add_sub_cancel]
  refine ⟨rfl, rfl, ?_, ?_, ?_, ?_⟩
  · simp [frameTag, fieldNat, replyContent, withCrc, field_cons_of_pos, field_natBytes, beNat_natBytes,
      Nat.mod_eq_of_lt tag]
  · simp [fieldNat, replyContent, withCrc, field_cons_of_pos, field_append_of_le, field_natBytes, beNat_natBytes,
      Nat.mod_eq_of_lt code]
  · simp [fieldNat, replyContent, withCrc, field_cons_of_pos, field_append_of_le, field_natBytes, beNat_natBytes,
      Nat.mod_eq_of_lt flags]
  · rw [size]
    simp [replyContent, withCrc, field_cons_of_pos, field_append_of_le, field_append_self]

/-- Settles O60: each format's fields stand where its reader takes them. -/
theorem formatsReadBack : Obligations.FormatsReadBack := by
  refine ⟨fun h b head fits => ⟨recordBytes_length _, crcGood_recordBytes _, recordOf_recordBytes head fits⟩,
    fun a range => ⟨accountImage_length a, imageOk_accountImage range, imageAccount_accountImage range⟩,
    fun x y => ⟨render_length x, eq_of_render_eq⟩, fun r => ?_⟩
  have size := replyContent_length r
  have clipped := r.body.bytes_length_le
  exact ⟨by omega, by omega, crcMatches_withCrc _, replyContent_fields r⟩

end Sys2Proof.Machine
end

section
/-!
SUPPORT. A terminal's pending sale, lookup and idle timer written and read, and the sum of set-asides with them (R66, R91,
R102).
-/
namespace Sys2Proof.Machine

/-! ### A terminal's volatile items -/

@[simp] theorem Eight.put_put {α : Type} (e : Eight α) (t : Fin 8) (a b : α) : (e.put t a).put t b = e.put t b := by
  fin_cases t <;> rfl

section
variable (s : State) (t : Fin 8)

@[simp] theorem State.setTerm_term (w : TermWork) : (s.setTerm t w).term t = w := Eight.get_put_self _ _ _

theorem State.setTerm_term_of_ne {u : Fin 8} (other : u ≠ t) (w : TermWork) : (s.setTerm t w).term u = s.term u :=
  Eight.get_put_of_ne _ other _

@[simp] theorem setSale_term (v : Option PendingSale) : (setSale t v s).term t = { s.term t with sale := v } :=
  State.setTerm_term s t _

theorem setSale_term_of_ne {u : Fin 8} (other : u ≠ t) (v : Option PendingSale) : (setSale t v s).term u = s.term u :=
  State.setTerm_term_of_ne s t other _

@[simp] theorem setIdle_term (i : IdleTimer) : (setIdle t i s).term t = { s.term t with idle := i } :=
  State.setTerm_term s t _

theorem setIdle_term_of_ne {u : Fin 8} (other : u ≠ t) (i : IdleTimer) : (setIdle t i s).term u = s.term u :=
  State.setTerm_term_of_ne s t other _

@[simp] theorem setSale_setSale (v w : Option PendingSale) (n m : Nat) :
    setSale t v ((setSale t w (s.setSetAsides n)).setSetAsides m) = setSale t v (s.setSetAsides m) := by
  simp [setSale, State.setTerm, State.setTerms, State.setSetAsides, State.term]

end

/-! ### The sum of set-asides (R91) -/

section
variable {s : State} {t : Fin 8}

theorem ownSetAside_eq (t : Fin 8) (s : State) : ownSetAside t s = ((s.term t).sale.map (·.setAside)).getD 0 := by
  unfold ownSetAside
  cases (s.term t).sale <;> rfl

theorem ownSetAside_of_some {p : PendingSale} (sale : (s.term t).sale = some p) : ownSetAside t s = p.setAside := by
  simp [ownSetAside, sale]

theorem setAsideSum_eq (s : State) : setAsideSum s = (allTerminals.map (fun u => ownSetAside u s)).sum := by
  simp only [ownSetAside_eq]
  rfl

theorem ownSetAside_le_sum (t : Fin 8) (s : State) : ownSetAside t s ≤ setAsideSum s := by
  rw [setAsideSum_eq]
  exact List.le_sum_of_mem (List.mem_map_of_mem (by fin_cases t <;> decide))

/-- What a terminal's sale sets aside leaves the sum with it, and that of the sale put in its place enters. -/
theorem setAsideSum_setSale (t : Fin 8) (v : Option PendingSale) (s : State) :
    setAsideSum (setSale t v s) + ownSetAside t s = setAsideSum s + (v.map (·.setAside)).getD 0 := by
  simp only [ownSetAside_eq]
  unfold setAsideSum setSale State.setTerm State.term
  match t with
  | 0 | 1 | 2 | 3 | 4 | 5 | 6 | 7 =>
    simp only [State.setTerms_terms, Eight.put, Eight.get, Eight.toList, List.map_cons, List.map_nil, List.sum_cons,
      List.sum_nil]
    omega

/-! ### The release of a sale (R66) -/

theorem releaseSale_of_none (none : (s.term t).sale = none) : releaseSale t s = s := by
  simp [releaseSale, none]

theorem releaseSale_of_some {p : PendingSale} (sale : (s.term t).sale = some p) (room : p.setAside ≤ s.setAsides) :
    releaseSale t s = setSale t none (s.setSetAsides (s.setAsides - p.setAside)) := by
  simp [releaseSale, sale, dropSetAside, dropBy_of_le room]

end

end Sys2Proof.Machine
end

section
/-!
SUPPORT. QUOTE, CONFIRM and CANCEL with no word of account memory disturbed (R65 to R77).
-/
namespace Sys2Proof.Machine

/-! ### QUOTE (R68, R69) -/

theorem handed_ownSetAside {s : State} (hs : s.mem.ecc = []) (t u : Fin 8) :
    ownSetAside u (handed t s) = ownSetAside u s := by
  simp only [ownSetAside_eq, handed_sale hs]

theorem handed_busyForQuote {s : State} (hs : s.mem.ecc = []) (t : Fin 8) (slot : Nat) :
    busyForQuote t slot (handed t s) = busyForQuote t slot s := by
  simp only [busyForQuote, saleNames, handed_sale hs, queueNames, handed_queue hs]

theorem handed_admitRoom {s : State} (hs : s.mem.ecc = []) (t : Fin 8) : admitRoom (handed t s) = admitRoom s := by
  simp only [admitRoom, handed_copy hs, handed_queue hs]

/-- An accepted quote stands in the place of the terminal's earlier sale, and its set-aside in that of the other's. -/
theorem acceptQuote_eq {t : Fin 8} {s : State} (within : ownSetAside t s ≤ s.setAsides) (p : PendingSale) :
    acceptQuote t p s = setSale t (some p) (s.setSetAsides (s.setAsides - ownSetAside t s + p.setAside)) := by
  unfold acceptQuote
  cases sale : (s.term t).sale with
  | none =>
    rw [releaseSale_of_none sale]
    simp [ownSetAside, sale]
  | some q =>
    rw [ownSetAside_of_some sale] at within ⊢
    rw [releaseSale_of_some sale within, setSale_setSale]
    rfl

/-- A QUOTE that passes its checks, on the plan and the result it is accepted with (R68). -/
structure QuotePasses (t : Fin 8) (r : QuoteReq) (slot : Nat) (bank : TariffBank) (plan : KeyPlan)
    (result : CreditResult) (s : State) : Prop where
  sound : s.mem.ecc = []
  serving : Serving s
  leads : Leads r.meter slot s
  quoted : ∀ p, (s.term t).sale = some p → p.state = .quoted
  within : ownSetAside t s ≤ s.setAsides
  active : (s.mem.accounts.read slot).state = .active
  free : busyForQuote t slot s = false
  installed : s.mem.sys.tariffs.active = some bank
  blocks : (bank.classOf (s.mem.accounts.read slot).tariffClass).blocks ≠ []
  planned : keyPlan r.mode (s.mem.accounts.read slot) s.secure.slots = .ok plan
  others : s.setAsides - ownSetAside t s ≤ s.mem.sys.reserve.balance
  credit : compute (creditInputs r ((s.mem.accounts.read slot).asOf s.month) bank
    (s.mem.sys.reserve.balance - (s.setAsides - ownSetAside t s))) = .ok result
  room : admitRoom s = true

section
variable {t : Fin 8} {r : QuoteReq} {slot : Nat} {bank : TariffBank} {plan : KeyPlan} {result : CreditResult}
  {s u : State}

/-- The hand-over reaches nothing that the checks look at. -/
theorem QuotePasses.handed (h : QuotePasses t r slot bank plan result s) :
    QuotePasses t r slot bank plan result (handed t s) := by
  have hs := h.sound
  refine ⟨handed_sound hs t, handed_serving hs h.serving t, handed_leads hs h.leads, ?_, ?_, ?_, ?_, ?_, ?_, ?_, ?_, ?_,
    ?_⟩
  · rw [handed_sale hs]; exact h.quoted
  · rw [handed_ownSetAside hs, handed_setAsides hs]; exact h.within
  · rw [handed_mem hs]; exact h.active
  · rw [handed_busyForQuote hs]; exact h.free
  · rw [handed_mem hs]; exact h.installed
  · rw [handed_mem hs]; exact h.blocks
  · rw [handed_mem hs, handed_secure hs]; exact h.planned
  · rw [handed_mem hs, handed_ownSetAside hs, handed_setAsides hs]; exact h.others
  · rw [handed_mem hs, handed_month hs, handed_ownSetAside hs, handed_setAsides hs]; exact h.credit
  · rw [handed_admitRoom hs]; exact h.room

theorem QuotePasses.account (h : QuotePasses t r slot bank plan result u) :
    (quoteAccount t r.meter).run u = .ok (slot, u.mem.accounts.read slot) u := by
  unfold quoteAccount
  rw [then_meter h.sound h.leads, then_account h.sound h.leads.listed, then_need (by simp [h.active]),
    then_check (by simp [h.free])]
  rfl

theorem QuotePasses.tariff (h : QuotePasses t r slot bank plan result u) :
    (quoteBank (u.mem.accounts.read slot).tariffClass).run u = .ok bank u := by
  unfold quoteBank
  rw [then_item h.sound, then_get, h.installed]
  exact then_need (by simp [h.blocks]) _ _ _

theorem QuotePasses.keys (h : QuotePasses t r slot bank plan result u) :
    (quotePlan r.mode (u.mem.accounts.read slot)).run u = .ok plan u := by
  unfold quotePlan
  rw [then_get, h.planned]
  rfl

theorem QuotePasses.computed (h : QuotePasses t r slot bank plan result u) :
    (quoteCredit t r (u.mem.accounts.read slot) bank).run u = .ok result u := by
  unfold quoteCredit
  rw [then_item h.sound, then_get]
  dsimp only [availableReserve]
  rw [dropBy_of_le h.within, dropBy_of_le h.others, h.credit]
  rfl

/-- A QUOTE that passes its checks is accepted (R69). -/
theorem QuotePasses.accepted (h : QuotePasses t r slot bank plan result u) (tag : Tag) :
    let p := quotedSale r slot result plan bank.id u.mem.sys.settings.holdTime u
    (ownQuote { terminal := t, tag := tag } r).run u = .ok (.now (.quoted (figuresOf p))) (acceptQuote t p u) := by
  have settled : (u.term t).sale.any (fun p => p.state == .committing) = false := by
    cases sale : (u.term t).sale with
    | none => rfl
    | some p => simp [h.quoted p sale]
  unfold ownQuote
  rw [then_check (by simp [settled]), then_clock h.serving.2, then_service h.serving.1, then_ok h.account,
    then_ok h.tariff, then_ok h.keys, then_ok h.computed, then_check h.room, then_item h.sound, then_get, then_modify,
    judge_pure]

end

theorem quote_stands {t : Fin 8} {tag : Tag} {body : List Byte} {s : State} {r : QuoteReq} {slot : Nat}
    {bank : TariffBank} {plan : KeyPlan} {result : CreditResult} (asks : Asks .quote t tag body s)
    (parsed : parseQuote body = some r) (h : QuotePasses t r slot bank plan result s) :
    let p := quotedSale r slot result plan bank.id s.mem.sys.settings.holdTime s
    exec .quote s = .next (answered .quote t tag .ok (.quoted (figuresOf p))
      (setSale t (some p) ((handed t s).setSetAsides (s.setAsides - ownSetAside t s + p.setAside)))) := by
  have hs := h.sound
  have same : quotedSale r slot result plan bank.id (handed t s).mem.sys.settings.holdTime (handed t s) =
      quotedSale r slot result plan bank.id s.mem.sys.settings.holdTime s := by
    simp only [quotedSale, handed_mem hs, handed_month hs, handed_secure hs, handed_clock hs]
  have owner := h.handed.accepted tag
  dsimp only at owner
  rw [same, acceptQuote_eq h.handed.within, handed_setAsides hs, handed_ownSetAside hs] at owner
  refine congrArg _ ((takeRequest_of_asks asks parsed).trans ?_)
  rw [owner]
  exact pushReply_answered (by exact handed_sound hs t) ..

end Sys2Proof.Machine
end

section
/-!
SUPPORT. A QUOTE keeps the law of the set-asides (R93): with no word disturbed its checks only read, and what it sets
aside fits the balance beside the set-asides of the other terminals.
-/
namespace Sys2Proof.Machine

/-! ### Judgements that only read -/

/-- A judgement that leaves every state with no word disturbed as it stands, whether it goes on or refuses. -/
def Judge.Reads {α : Type} (x : Judge α) : Prop := ∀ s, s.mem.ecc = [] → x.leaves s = s

section
variable {α β : Type}

theorem Judge.leaves_bind (x : Judge α) (f : α → Judge β) (s : State) :
    (x >>= f).leaves s = match x.run s with
      | .ok a t => (f a).leaves t
      | .error _ t => t := by
  unfold Judge.leaves
  rw [judge_bind]
  cases x.run s <;> rfl

/-- After a judgement that only reads, what follows is judged on the same state. -/
theorem Judge.Reads.then {x : Judge α} (hx : x.Reads) {f : α → Judge β} {P : State → Prop} {s : State}
    (hs : s.mem.ecc = []) (here : P s) (goes : ∀ a, x.run s = .ok a s → P ((f a).leaves s)) :
    P ((x >>= f).leaves s) := by
  have left := hx s hs
  rw [Judge.leaves_bind]
  unfold Judge.leaves at left
  cases e : x.run s with
  | ok a t =>
    obtain rfl : t = s := by simpa only [e] using left
    exact goes a e
  | error r t =>
    obtain rfl : t = s := by simpa only [e] using left
    exact here

theorem Judge.Reads.bind {x : Judge α} {f : α → Judge β} (hx : x.Reads) (hf : ∀ a, (f a).Reads) : (x >>= f).Reads :=
  fun s hs => hx.then (P := (· = s)) hs rfl fun a _ => hf a s hs

theorem reads_pure (a : α) : Judge.Reads (pure a) := fun _ _ => rfl

theorem reads_throw (e : ResultCode × ReplyBody) : Judge.Reads (throw e : Judge α) := fun _ _ => rfl

theorem reads_get : Judge.Reads get := fun _ _ => rfl

theorem reads_modify {f : State → State} (hf : ∀ s, s.mem.ecc = [] → f s = s) : Judge.Reads (modify f) := hf

theorem reads_need (b : Bool) (r : ResultCode) : (need b r).Reads := by
  cases b
  · exact reads_throw _
  · exact reads_pure _

theorem reads_check (p : State → Bool) (r : ResultCode) : (check p r).Reads := reads_get.bind fun _ => reads_need _ _

theorem reads_readItem (i : SysItem) : (readItem i).Reads :=
  reads_get.bind fun _ => (reads_modify fun _ hs => touchItem_of_sound hs i).bind fun _ => reads_need _ _

theorem reads_readAccount (slot : Nat) : (readAccount slot).Reads := by
  refine (reads_readItem _).bind fun _ => (reads_check _ _).bind fun _ => reads_get.bind fun _ =>
    (reads_modify fun _ hs => readSlot_of_sound hs slot).bind fun _ => ?_
  split
  · exact reads_pure _
  · exact reads_throw _

theorem reads_lookupMeter (meter : Nat) : (lookupMeter meter).Reads := by
  refine (reads_modify fun _ hs => readWords_of_sound hs _).bind fun _ => (reads_check _ _).bind fun _ =>
    (reads_modify fun _ hs => readWords_of_sound hs _).bind fun _ => (reads_check _ _).bind fun _ =>
      reads_get.bind fun _ => ?_
  split
  · exact reads_throw _
  · split
    · exact reads_pure _
    · exact (reads_readAccount _).bind fun _ => reads_throw _

theorem reads_quoteAccount (t : Fin 8) (meter : Nat) : (quoteAccount t meter).Reads :=
  (reads_lookupMeter _).bind fun _ => (reads_readAccount _).bind fun _ => (reads_need _ _).bind fun _ =>
    (reads_check _ _).bind fun _ => reads_pure _

theorem reads_quoteBank (tariffClass : Nat) : (quoteBank tariffClass).Reads := by
  refine (reads_readItem _).bind fun _ => reads_get.bind fun _ => ?_
  split
  · exact reads_throw _
  · exact (reads_need _ _).bind fun _ => reads_pure _

theorem reads_quotePlan (mode : SaleMode) (a : Account) : (quotePlan mode a).Reads := by
  refine reads_get.bind fun _ => ?_
  split
  · exact reads_throw _
  · exact reads_pure _

theorem reads_quoteCredit (t : Fin 8) (r : QuoteReq) (a : Account) (bank : TariffBank) :
    (quoteCredit t r a bank).Reads := by
  refine (reads_readItem _).bind fun _ => reads_get.bind fun _ => ?_
  dsimp only
  split
  · exact reads_throw _
  · exact reads_pure _

end

/-! ### What a quote sets aside (R65, R93) -/

/-- A computation's result in SALE mode is within what it was given as available; a PAYMENT sets nothing aside. -/
theorem setAsideOf_le {i : CreditInputs} {result : CreditResult} (computed : compute i = .ok result) :
    setAsideOf i.mode result ≤ i.available := by
  unfold compute at computed
  cases mode : i.mode with
  | sale =>
    rw [mode] at computed
    obtain ⟨rfl, -, -, le⟩ := computeSale_eq_ok computed
    exact le
  | payment => exact Nat.zero_le _

/-- The set-asides fit the balance, and no word is disturbed (R93). -/
def Covered (s : State) : Prop := s.mem.ecc = [] ∧ s.setAsides ≤ s.mem.sys.reserve.balance

section
variable {t : Fin 8} {r : QuoteReq} {a : Account} {bank : TariffBank} {result : CreditResult} {s : State}

/-- What a quote's computation gives to set aside fits the balance beside the set-asides of the others. -/
theorem setAside_le_of_quoteCredit (covered : Covered s) (own : ownSetAside t s ≤ s.setAsides)
    (computed : (quoteCredit t r a bank).run s = .ok result s) :
    s.setAsides - ownSetAside t s + setAsideOf r.mode result ≤ s.mem.sys.reserve.balance := by
  obtain ⟨hs, fits⟩ := covered
  unfold quoteCredit at computed
  rw [then_item hs, then_get] at computed
  dsimp only [availableReserve] at computed
  rw [dropBy_of_le own, dropBy_of_le (a := s.mem.sys.reserve.balance) (by omega)] at computed
  split at computed
  · cases computed
  · rename_i result' e
    obtain rfl : result' = result := by
      cases computed
      rfl
    have le := setAsideOf_le e
    dsimp only [creditInputs] at le
    omega

theorem acceptQuote_covered (covered : Covered s) {p : PendingSale} (own : ownSetAside t s ≤ s.setAsides)
    (fits : s.setAsides - ownSetAside t s + p.setAside ≤ s.mem.sys.reserve.balance) : Covered (acceptQuote t p s) := by
  rw [acceptQuote_eq own]
  exact ⟨covered.1, fits⟩

/-- A QUOTE refused leaves the state, one accepted sets aside what the computation allows. -/
theorem ownQuote_covered (covered : Covered s) (o : Owner) (r : QuoteReq)
    (own : ownSetAside o.terminal s ≤ s.setAsides) : Covered ((ownQuote o r).leaves s) := by
  have hs := covered.1
  unfold ownQuote
  refine (reads_check _ _).then hs covered fun _ _ => ?_
  refine (reads_check _ _).then hs covered fun _ _ => ?_
  refine (reads_check _ _).then hs covered fun _ _ => ?_
  refine (reads_quoteAccount _ _).then hs covered fun _ _ => ?_
  refine (reads_quoteBank _).then hs covered fun _ _ => ?_
  refine (reads_quotePlan _ _).then hs covered fun _ _ => ?_
  refine (reads_quoteCredit _ _ _ _).then hs covered fun result computed => ?_
  refine (reads_check _ _).then hs covered fun _ _ => ?_
  refine (reads_readItem _).then hs covered fun _ _ => ?_
  exact acceptQuote_covered covered own (setAside_le_of_quoteCredit covered own computed)

end

/-! ### The dispatcher (R173, R174) -/

theorem pushReply_covered {s : State} (covered : Covered s) (k terminal : Byte) (tag : Tag) (r : ResultCode)
    (body : ReplyBody) : Covered (pushReply k terminal tag r body s) := by
  unfold pushReply
  rw [touchForFlags_of_sound covered.1]
  exact covered

theorem conclude_covered {x : Judge Answer} {s : State} (covered : Covered (x.leaves s)) (k terminal : Byte)
    (tag : Tag) : Covered (conclude k terminal tag (x.run s)) := by
  unfold Judge.leaves at covered
  unfold conclude
  split
  all_goals
    rename_i e
    rw [e] at covered
  · exact pushReply_covered covered ..
  · exact covered
  · exact pushReply_covered covered ..

theorem setIdle_ownSetAside (t u : Fin 8) (i : IdleTimer) (s : State) :
    ownSetAside u (setIdle t i s) = ownSetAside u s := by
  by_cases h : u = t
  · subst h
    simp [ownSetAside_eq]
  · simp [ownSetAside_eq, setIdle_term_of_ne, h]

/-- A request whose owner keeps the set-asides within the balance keeps them so through the dispatcher. -/
theorem takeRequest_covered {α : Type} {k : Kind} {parse : List Byte → Option α} {own : Owner → α → Judge Answer}
    (owner : ∀ o a u, Covered u → ownSetAside o.terminal u ≤ u.setAsides → Covered ((own o a).leaves u)) {s : State}
    (covered : Covered s) (sum : ∀ t, ownSetAside t s ≤ s.setAsides) : Covered (takeRequest k parse own s) := by
  have judged (o : Owner) (body : List Byte) : Covered ((judge k parse own o body).leaves (takeFrame s)) := by
    have taken : Covered (takeFrame s) := covered
    obtain ⟨i, timer⟩ := restartIdle_of_sound taken.1 o.terminal
    have restarted : Covered (setIdle o.terminal i (takeFrame s)) := taken
    unfold judge
    refine reads_get.then taken.1 taken fun _ _ => reads_get.then taken.1 taken fun _ _ => ?_
    rw [Judge.leaves_bind, judge_modify, timer]
    dsimp only
    refine (reads_need _ _).then restarted.1 restarted fun _ _ => ?_
    refine (reads_check _ _).then restarted.1 restarted fun _ _ => ?_
    refine (reads_check _ _).then restarted.1 restarted fun _ _ => ?_
    split
    · exact restarted
    · exact owner _ _ _ restarted (by rw [setIdle_ownSetAside]; exact sum _)
  unfold takeRequest answerFrame
  split
  · exact covered
  · split
    · split
      · exact pushReply_covered (by exact covered) ..
      · split
        · exact pushReply_covered (by exact covered) ..
        · exact conclude_covered (judged _ _) ..
    · exact covered

theorem quote_covered {s u : State} (covered : Covered s) (sum : s.setAsides = setAsideSum s)
    (next : exec .quote s = .next u) : Covered u := by
  have taken : Covered (takeRequest .quote parseQuote ownQuote s) :=
    takeRequest_covered (fun o r _ covered own => ownQuote_covered covered o r own) covered
      fun t => sum ▸ ownSetAside_le_sum t s
  have same : takeRequest .quote parseQuote ownQuote s = u := Host.Outcome.next.inj next
  exact same ▸ taken

/-- Settles O31: the hand-over leaves what the checks look at, the owner accepts, and what it sets aside was computed
against the balance less the set-asides of the others. -/
theorem quoteStandsAsPendingSale : Obligations.QuoteStandsAsPendingSale := by
  refine ⟨?_, fun s u f rest sound arrived kind sum within next => (quote_covered ⟨sound, within⟩ sum next).2⟩
  intro t tag body s r slot bank plan result asks parsed serving leads a own quoted active free installed blocks planned
    others credit room setAside hold p
  have own_eq : own = ownSetAside t s := (ownSetAside_eq t s).symm
  have within : ownSetAside t s ≤ s.setAsides := by
    unfold ownSetAside
    split
    · rename_i q sale
      exact (quoted q sale).2
    · exact Nat.zero_le _
  have passes : QuotePasses t r slot bank plan result s :=
    ⟨asks.sound, serving, leads, fun q sale => (quoted q sale).1, within, active, free, installed, blocks, planned,
      own_eq ▸ others, own_eq ▸ credit, room⟩
  have amount : setAsideOf r.mode result = setAside := by
    simp only [setAside]
    cases r.mode <;> rfl
  have stands := quote_stands asks parsed passes
  simp only [quotedSale, amount] at stands
  rw [own_eq]
  exact stands

end Sys2Proof.Machine
end

section
/-!
SUPPORT. CONFIRM and CANCEL of a QUOTED sale (R73 to R77), the journal lookups that REISSUE and REVERSE begin (R84, R85,
R87), and the running out of the sale timer and of the idle timer (R71, R117), with no word of account memory disturbed.
-/
namespace Sys2Proof.Machine

/-! ### CONFIRM and CANCEL (R73 to R77) -/

section
variable {t : Fin 8} {tag : Tag} {p : PendingSale} {s u : State}

theorem headNow_of_sound (hu : u.mem.ecc = []) (t : Fin 8) :
    headNow t u = { seq := nextSeq u, time := u.clock.reading, terminal := t.val,
                    shiftNo := (u.mem.sys.terms.get t).shiftNo, operator := (u.mem.sys.terms.get t).operator } := by
  rw [headNow, termView_of_sound hu]

/-- A sale that is not stale, of a slot that is not listed, is committed when its record is admitted (R75). -/
theorem ownConfirm_of_fresh (hu : u.mem.ecc = []) (sale : (u.term t).sale = some p) (quoted : p.state = .quoted)
    (service : u.mode = .inService) (fresh : staleCause p u = none) (whole : p.slot ∉ u.mem.sys.damage.slots)
    (admits : admission u = none) :
    (ownConfirm { terminal := t, tag := tag } ()).run u =
      .ok .later (acceptConfirm { terminal := t, tag := tag } p u) := by
  unfold ownConfirm
  rw [then_get, sale]
  dsimp only
  rw [then_need (by simp [quoted]), then_service service, then_item hu, then_get, fresh]
  dsimp only
  rw [then_item hu, then_get, if_neg whole, then_admitted admits, then_modify, judge_pure]

/-- A stale sale is refused with what it differs in, and released (R74). -/
theorem ownConfirm_of_stale (hu : u.mem.ecc = []) (sale : (u.term t).sale = some p) (quoted : p.state = .quoted)
    (service : u.mode = .inService) {c : StaleCause} (stale : staleCause p u = some c) :
    (ownConfirm { terminal := t, tag := tag } ()).run u = .error (.staleQuote, .stale c) (releaseSale t u) := by
  unfold ownConfirm
  rw [then_get, sale]
  dsimp only
  rw [then_need (by simp [quoted]), then_service service, then_item hu, then_get, stale]
  rfl

/-- A QUOTED sale cancelled is released (R77). -/
theorem ownCancel_of_quoted (sale : (u.term t).sale = some p) (quoted : p.state = .quoted) :
    (ownCancel { terminal := t, tag := tag } ()).run u = .ok (.now (.cancelled p.setAside)) (releaseSale t u) := by
  unfold ownCancel
  rw [then_get, sale]
  dsimp only
  rw [then_need (by simp [quoted]), then_modify, judge_pure]

theorem handed_staleCause (hs : s.mem.ecc = []) (t : Fin 8) (p : PendingSale) :
    staleCause p (handed t s) = staleCause p s := by
  simp only [staleCause, handed_mem hs, handed_month hs, handed_secure hs]

/-- The sale of the state handed over, released. -/
theorem releaseSale_handed (hs : s.mem.ecc = []) (sale : (s.term t).sale = some p) (room : p.setAside ≤ s.setAsides) :
    releaseSale t (handed t s) = setSale t none ((handed t s).setSetAsides (s.setAsides - p.setAside)) := by
  rw [releaseSale_of_some ((handed_sale hs t t).trans sale) (by rw [handed_setAsides hs]; exact room),
    handed_setAsides hs]

/-- What an accepted confirm leaves (R75). -/
theorem acceptConfirm_of_sound (hu : u.mem.ecc = []) :
    acceptConfirm { terminal := t, tag := tag } p u = holdIdle t (setSale t
      (some { p with state := .committing, tokens := saleTokens p u.secure.slots, journalSeq := some (nextSeq u),
                     timer := none })
      (withRecord t tag (saleRecord p (saleTokens p u.secure.slots)) .none u)) := by
  unfold acceptConfirm
  rw [headNow_of_sound hu]
  rfl

end

/-- Settles O32: the hand-over leaves the sale and what it is compared with, and the owner commits it or releases it. -/
theorem confirmCommitsCancelReleases : Obligations.ConfirmCommitsCancelReleases := by
  intro t tag s p sale quoted differs
  have kept (hs : s.mem.ecc = []) : ((handed t s).term t).sale = some p := (handed_sale hs t t).trans sale
  refine ⟨?_, fun c asks service stale room => ?_, fun asks room => ?_⟩
  · intro asks service fresh whole admits tokens
    have hs := asks.sound
    have sameTokens : saleTokens p (handed t s).secure.slots = tokens := by
      rw [handed_secure hs]
      simp only [tokens, saleTokens]
      cases p.mode <;> rfl
    obtain ⟨-, -, sameSeq, -⟩ := handed_facts hs t
    have owner := ownConfirm_of_fresh (tag := tag) (handed_sound hs t) (kept hs) quoted ((handed_mode hs t).trans service)
      ((handed_staleCause hs t p).trans fresh) (by rw [handed_mem hs]; exact whole)
      ((handed_admission hs t).trans admits)
    rw [acceptConfirm_of_sound (handed_sound hs t), sameTokens, sameSeq] at owner
    refine congrArg _ ((takeRequest_of_asks (parse := parseNothing) (own := ownConfirm) asks rfl).trans ?_)
    rw [owner]
    rfl
  · have hs := asks.sound
    have owner := ownConfirm_of_stale (tag := tag) (handed_sound hs t) (kept hs) quoted ((handed_mode hs t).trans service)
      ((handed_staleCause hs t p).trans stale)
    rw [releaseSale_handed hs sale room] at owner
    refine congrArg _ ((takeRequest_of_asks (parse := parseNothing) (own := ownConfirm) asks rfl).trans ?_)
    rw [owner]
    exact pushReply_answered (by exact handed_sound hs t) ..
  · have hs := asks.sound
    have owner := ownCancel_of_quoted (tag := tag) (kept hs) quoted
    rw [releaseSale_handed hs sale room] at owner
    refine congrArg _ ((takeRequest_of_asks (parse := parseNothing) (own := ownCancel) asks rfl).trans ?_)
    rw [owner]
    exact pushReply_answered (by exact handed_sound hs t) ..

/-! ### REISSUE and REVERSE (R84, R85, R87) -/

section
variable {t : Fin 8} {m slot : Nat} {l : LastSale} {c : RingCopy} {s u : State}

/-- An account with a last sale, not reversed, whose record is still in the journal's range, and whose slot is not
busy. -/
structure LookupPasses (t : Fin 8) (m slot : Nat) (l : LastSale) (u : State) : Prop where
  sound : u.mem.ecc = []
  serving : Serving u
  leads : Leads m slot u
  none : (u.term t).lookup = none
  last : (u.mem.accounts.read slot).lastSale = some l
  standing : l.reversed = false
  idle : busy slot u = false
  range : inRange l.seq u = true

theorem LookupPasses.handed (h : LookupPasses t m slot l s) : LookupPasses t m slot l (handed t s) := by
  have hs := h.sound
  refine ⟨handed_sound hs t, handed_serving hs h.serving t, handed_leads hs h.leads, ?_, ?_, h.standing, ?_, ?_⟩
  · rw [handed_lookup hs]; exact h.none
  · rw [handed_mem hs]; exact h.last
  · rw [handed_busy hs]; exact h.idle
  · rw [inRange, handed_copy hs]; exact h.range

theorem LookupPasses.account (h : LookupPasses t m slot l u) :
    (lookupAccount t m).run u = .ok (slot, u.mem.accounts.read slot) u := by
  unfold lookupAccount
  rw [then_check (by simp [h.none]), then_service h.serving.1, then_clock h.serving.2, then_meter h.sound h.leads,
    then_account h.sound h.leads.listed, judge_pure]

theorem needLastSale_of_standing {a : Account} (last : a.lastSale = some l) (standing : l.reversed = false) :
    (needLastSale a).run u = .ok l u := by
  unfold needLastSale
  rw [last]
  exact then_need (by simp [standing]) _ _ _

theorem needReissue_of_below (hu : u.mem.ecc = []) (below : l.reissues < u.mem.sys.settings.reissueLimit) :
    (needReissue l).run u = .ok () u := by
  unfold needReissue
  rw [then_item hu, check_run, if_pos (by simpa using below)]

theorem needWindow_of_open (hu : u.mem.ecc = []) (on : u.mem.sys.settings.reversalWindow ≠ 0)
    (open_ : u.clock.reading - l.time ≤ u.mem.sys.settings.reversalWindow * 60) :
    (needWindow l).run u = .ok () u := by
  unfold needWindow
  rw [then_item hu, check_run, if_pos (by simp [sinceTime, on, open_])]

theorem LookupPasses.reissue (h : LookupPasses t m slot l u) (tag : Tag)
    (below : l.reissues < u.mem.sys.settings.reissueLimit) :
    (ownReissue { terminal := t, tag := tag } m).run u =
      .ok .later (startLookup { terminal := t, tag := tag } .reissue slot l.seq u) := by
  unfold ownReissue
  rw [then_ok h.account, then_ok (needLastSale_of_standing h.last h.standing),
    then_ok (needReissue_of_below h.sound below), then_check (by simp [h.idle]), then_check h.range, then_modify,
    judge_pure]

theorem LookupPasses.reverse (h : LookupPasses t m slot l u) (tag : Tag)
    (on : u.mem.sys.settings.reversalWindow ≠ 0)
    (open_ : u.clock.reading - l.time ≤ u.mem.sys.settings.reversalWindow * 60) (sameKey : l.keyChange = false)
    (month : u.month = monthOf l.time) :
    (ownReverse { terminal := t, tag := tag } m).run u =
      .ok .later (startLookup { terminal := t, tag := tag } .reverse slot l.seq u) := by
  unfold ownReverse
  rw [then_ok h.account, then_ok (needLastSale_of_standing h.last h.standing),
    then_ok (needWindow_of_open h.sound on open_), then_need (by simp [sameKey]), then_check (by simp [month]),
    then_check (by simp [h.idle]), then_check h.range, then_modify, judge_pure]

/-- The lookup begun waits behind the reads that waited before the request. -/
theorem startLookup_handed (hs : s.mem.ecc = []) (tag : Tag) (kind : VendKind) (slot seq : Nat) :
    startLookup { terminal := t, tag := tag } kind slot seq (handed t s) =
      (setLookup t (some (.vend { kind := kind, tag := tag, slot := slot, seq := seq, time := s.clock.reading,
                                  replyDue := true })) (handed t s)).setReads (s.reads ++ [t]) := by
  rw [← handed_reads hs t, ← handed_clock hs t]
  rfl

end

/-- Settles O33: the hand-over leaves what the checks of a lookup look at, and each owner begins it. -/
theorem reissueAndReverseBeginLookup : Obligations.ReissueAndReverseBeginLookup := by
  intro t tag body s m slot l c serving parsed leads none last standing idle copy from_ below started
  have passes (hs : s.mem.ecc = []) : LookupPasses t m slot l s :=
    ⟨hs, serving, leads, none, last, standing, idle, by simp [inRange, copy, from_, below]⟩
  refine ⟨fun asks limit => ?_, fun asks on open_ sameKey month => ?_⟩
  · have hs := asks.sound
    have owner := (passes hs).handed.reissue tag (by rw [handed_mem hs]; exact limit)
    rw [startLookup_handed hs] at owner
    refine congrArg _ ((takeRequest_of_asks asks parsed).trans ?_)
    rw [owner]
    rfl
  · have hs := asks.sound
    have owner := (passes hs).handed.reverse tag (by rw [handed_mem hs]; exact on)
      (by rw [handed_mem hs, handed_clock hs]; exact open_) sameKey ((handed_month hs t).trans month)
    rw [startLookup_handed hs] at owner
    refine congrArg _ ((takeRequest_of_asks asks parsed).trans ?_)
    rw [owner]
    rfl

/-! ### The timers (R71, R117) -/

section
variable {t : Fin 8} {p : PendingSale} {s : State}

theorem exec_saleTimerExpiry (powered : s.powered = true) (sale : (s.term t).sale = some p) (quoted : p.state = .quoted)
    (out : p.timer = some 0) : exec (.saleTimerExpiry t) s = .next (releaseSale t s) := by
  show execSaleTimerExpiry t s = _
  unfold execSaleTimerExpiry
  rw [if_pos (by simp [powered, saleTimerOut, sale, quoted, out])]

theorem exec_idleExpiry (powered : s.powered = true) (running : starting s = false) (out : (s.term t).idle = .running 0) :
    exec (.idleExpiry t) s = .next (setIdle t .stopped (releaseQuoted t (suspendShift t s))) := by
  show execIdleExpiry t s = _
  unfold execIdleExpiry
  rw [if_pos (by simp [powered, running, idleOut, out])]

theorem suspendShift_of_sound (hs : s.mem.ecc = []) (t : Fin 8) : suspendShift t s = s.setSys { s.mem.sys with
    terms := s.mem.sys.terms.put t { s.mem.sys.terms.get t with shift := .suspended } } :=
  writeItem_of_sound hs _ _

theorem releaseQuoted_of_committing (committing : ∀ p, (s.term t).sale = some p → p.state = .committing) :
    releaseQuoted t s = s := by
  unfold releaseQuoted
  cases sale : (s.term t).sale with
  | none => rfl
  | some p => simp [committing p sale]

theorem releaseQuoted_of_quoted (sale : (s.term t).sale = some p) (quoted : p.state = .quoted) :
    releaseQuoted t s = releaseSale t s := by
  simp [releaseQuoted, sale, quoted]

end

/-- Settles O37: each expiry releases the QUOTED sale, the idle timer's once the shift is SUSPENDED. -/
theorem timersRunOut : Obligations.TimersRunOut := by
  intro t s powered
  refine ⟨fun p sale quoted out room => ?_, ?_⟩
  · rw [exec_saleTimerExpiry powered sale quoted out, releaseSale_of_some sale room]
  · intro hs running out suspended
    rw [exec_idleExpiry powered running out, suspendShift_of_sound hs]
    refine ⟨fun committing => ?_, fun p sale quoted room => ?_⟩
    · rw [releaseQuoted_of_committing (s := suspended) committing]
    · rw [releaseQuoted_of_quoted (s := suspended) sale quoted, releaseSale_of_some (s := suspended) sale room]
      rfl

end Sys2Proof.Machine
end

section
/-!
SUPPORT. The ends of the journal's reads (R84, R86, R88, R139), with no word of account memory disturbed.
-/
namespace Sys2Proof.Machine

/-! ### A reply that is owed, and one that is not (R126, R172) -/

theorem replyIf_of_sound {s : State} (hs : s.mem.ecc = []) (due : Bool) (k : Kind) (t : Fin 8) (tag : Tag)
    (r : ResultCode) (body : ReplyBody) :
    replyIf due k.byte t tag r body s = if due then answered k t tag r body s else s := by
  unfold replyIf
  rw [pushReply_answered hs]

/-- The kind of request that a lookup serves. -/
def VendKind.request : VendKind → Kind
  | .reissue => .reissue
  | .reverse => .reverse

theorem vendByte_eq (k : VendKind) : vendByte k = k.request.byte := by cases k <;> rfl

/-! ### What a read of a position brings (R119, R133) -/

/-- A read brings a record exactly when the position reads as it. -/
theorem readPage_record_eq_some_iff (pos seq : Nat) (got : ReadGot) (device : SMap Page) (r : Record) :
    (readPage pos seq got device).record = some r ↔ ReadsAs got pos device r := by
  have bytes (b : List Byte) : (bytesRead seq b).record = some r ↔ crcGood b = true ∧ r = recordOf b := by
    unfold bytesRead
    split <;> simp [goodRead, *, eq_comm]
  unfold readPage ReadsAs
  cases got with
  | noAck => simp
  | bytes b => simp [bytes]
  | held =>
    cases page : SMap.find pos device with
    | none => simp
    | some page' =>
      cases page' with
      | record q => simp [goodRead]
      | bytes b => simp [bytes]

/-- Of a record that a read brings, the outcome is good exactly when its sequence is the one sought. -/
theorem readPage_outcome {pos seq : Nat} {got : ReadGot} {device : SMap Page} {r : Record}
    (brings : (readPage pos seq got device).record = some r) :
    (readPage pos seq got device).outcome = if r.head.seq = seq then .good else .wrongSequence := by
  have bytes (b : List Byte) (h : (bytesRead seq b).record = some r) :
      (bytesRead seq b).outcome = if r.head.seq = seq then .good else .wrongSequence := by
    unfold bytesRead at h ⊢
    split at h
    · rename_i good
      obtain rfl := Option.some.inj h
      simp [goodRead, good]
    · cases h
  unfold readPage at brings ⊢
  split at brings
  · cases brings
  · exact bytes _ brings
  · split at brings
    · obtain rfl := Option.some.inj brings
      rfl
    · exact bytes _ brings
    · cases brings

/-- A lookup finds the SALE of its slot that its position reads as under its sequence, and nothing else (R84). -/
theorem lookupFound_eq_some_iff (v : VendLookup) (got : ReadGot) (s : State) (b : SaleBody) :
    lookupFound v got s = some b ↔
      ∃ r, ReadsAs got (v.seq % 4096) s.device r ∧ r.head.seq = v.seq ∧ r.body = .sale b ∧ b.slot = v.slot := by
  simp only [← readPage_record_eq_some_iff _ v.seq]
  have outcome := fun r => readPage_outcome (pos := v.seq % 4096) (seq := v.seq) (got := got) (device := s.device) (r := r)
  unfold lookupFound positionOf
  generalize readPage (v.seq % 4096) v.seq got s.device = p at outcome ⊢
  obtain ⟨result, record, bytes⟩ := p
  cases record with
  | none => cases result <;> simp
  | some r =>
    obtain rfl : result = _ := outcome r rfl
    by_cases seq : r.head.seq = v.seq
    · cases body : r.body with
      | sale c =>
        have same : c.slot = v.slot ∧ c = b ↔ c = b ∧ b.slot = v.slot :=
          ⟨fun ⟨slot, eq⟩ => ⟨eq, eq ▸ slot⟩, fun ⟨eq, slot⟩ => ⟨eq ▸ slot, eq⟩⟩
        simpa [seq, body] using same
      | _ => simp [seq, body]
    · simp [seq]

/-! ### The end of a lookup (R84, R86, R88) -/

section
variable {t : Fin 8} {v : VendLookup} {b : SaleBody} {l : LastSale} {u : State}

theorem endLookup_of_not_found (hu : u.mem.ecc = []) (t : Fin 8) (v : VendLookup) :
    endLookup t v none u =
      if v.replyDue then answered v.kind.request t v.tag .notAvailable .empty (setLookup t none u)
      else setLookup t none u := by
  show replyIf v.replyDue (vendByte v.kind) t v.tag .notAvailable .empty (setLookup t none u) = _
  rw [vendByte_eq, replyIf_of_sound (by exact hu)]

/-- The state with the record of a lookup's end queued: its head has the time of the request, its entry owes the reply
that the lookup owed (logs 25, 39). -/
def withVend (t : Fin 8) (v : VendLookup) (body : RecordBody) (figures : Figures) (u : State) : State :=
  { u with queue := u.queue ++
      [{ record :=
          { head := { seq := nextSeq u, time := v.time, terminal := t.val,
                      shiftNo := (u.mem.sys.terms.get t).shiftNo, operator := (u.mem.sys.terms.get t).operator }
            body := body }
         owner := some { terminal := t, tag := v.tag }, replyDue := v.replyDue, figures := figures }] }

theorem queueVend_of_admits (hu : u.mem.ecc = []) (admits : admission u = none) (t : Fin 8) (v : VendLookup)
    (body : RecordBody) (figures : Figures) :
    (queueVend t v body figures).run u = .ok .later (withVend t v body figures u) := by
  unfold queueVend
  rw [then_item hu, then_admitted admits, then_modify, lookupHead, headNow_of_sound hu, judge_pure]
  rfl

/-- An account whose last sale, not reversed, is still the one that the lookup was begun for, and whose slot is not
busy. -/
structure VendPasses (v : VendLookup) (l : LastSale) (u : State) : Prop where
  sound : u.mem.ecc = []
  whole : v.slot ∉ u.mem.sys.damage.slots
  last : (u.mem.accounts.read v.slot).lastSale = some l
  standing : l.reversed = false
  same : l.seq = v.seq
  idle : busy v.slot u = false
  admits : admission u = none

theorem VendPasses.reissue (h : VendPasses v l u) (below : l.reissues < u.mem.sys.settings.reissueLimit) (t : Fin 8)
    (b : SaleBody) :
    (reissueEnd t v b).run u = .ok .later (withVend t v
      (.reissue v.slot (u.mem.accounts.read v.slot).meter v.seq) (.reissue b.tokenSeq b.ciphers) u) := by
  unfold reissueEnd
  rw [then_account h.sound h.whole, then_ok (needLastSale_of_standing h.last h.standing),
    then_ok (needReissue_of_below h.sound below), then_check (by simp [h.idle]), then_need (by simp [h.same]),
    queueVend_of_admits h.sound h.admits]

theorem VendPasses.reverse (h : VendPasses v l u) (sameKey : l.keyChange = false)
    (month : (u.mem.accounts.read v.slot).counterMonth = monthOf l.time)
    (room : prospectiveBalance u.mem.sys.reserve u + (b.purchased + b.allowance) ≤ 2000000000) (t : Fin 8) :
    (reverseEnd t v b).run u = .ok .later (withVend t v
      (.reversal (reversalBody v.slot (u.mem.accounts.read v.slot).meter v.seq b)) .none u) := by
  unfold reverseEnd
  rw [then_account h.sound h.whole, then_ok (needLastSale_of_standing h.last h.standing), then_need (by simp [sameKey]),
    then_check (by simp [h.idle]), then_need (by simp [h.same]), then_need (by simp [month]), then_item h.sound,
    then_check (by simp [creditFits, room]), queueVend_of_admits h.sound h.admits]

/-- A lookup whose end queues a record ends so. -/
theorem endLookup_of_queued {found : Option SaleBody} {w : State}
    (queued : (vendEnd t v found).run (setLookup t none u) = .ok .later w) : endLookup t v found u = w := by
  unfold endLookup
  rw [queued]
  rfl

theorem setLookup_busy (t : Fin 8) (o : Option Lookup) (u : State) (slot : Nat) :
    busy slot (setLookup t o u) = busy slot u := by
  match t with
  | 0 | 1 | 2 | 3 | 4 | 5 | 6 | 7 => rfl

theorem exec_journalLookupEnd {s : State} (powered : s.powered = true) (bus : s.bus = some (.lookup t))
    (lookup : (s.term t).lookup = some (.vend v)) (got : ReadGot) :
    exec (.journalLookupEnd got) s = .next (endLookup t v (lookupFound v got s) (freeBus s)) := by
  show execJournalLookupEnd got s = _
  unfold execJournalLookupEnd
  rw [bus]
  dsimp only
  rw [lookup]
  dsimp only
  rw [if_pos powered]

end

/-! ### The end of a JOURNAL_READ (R139) -/

theorem endJournalRead_of_sound {s : State} (hs : s.mem.ecc = []) (t : Fin 8) (w : JournalReadWork) (r : ResultCode)
    (reads : List PositionView) :
    endJournalRead t w r reads s =
      if w.replyDue then
        answered .journalRead t w.tag r (.journal (journalInfo (setLookup t none s)) reads) (setLookup t none s)
      else setLookup t none s := by
  have freed : touchInfo (setLookup t none s) = setLookup t none s := by
    rw [touchInfo, touchItem_of_sound (s := setLookup t none s) hs, touchItem_of_sound (s := setLookup t none s) hs]
  unfold endJournalRead
  rw [freed, replyIf_of_sound (by exact hs)]

theorem exec_journalReadEnd {s : State} {t : Fin 8} {w : JournalReadWork} {last : Nat} (powered : s.powered = true)
    (bus : s.bus = some (.journalRead t last)) (lookup : (s.term t).lookup = some (.journalRead w))
    (got : List ReadGot) :
    exec (.journalReadEnd got) s =
      .next (endJournalRead t w .ok (readRange (last + 1 - w.start) w.start got s.device) (freeBus s)) := by
  show execJournalReadEnd got s = _
  unfold execJournalReadEnd
  rw [bus]
  dsimp only
  rw [lookup]
  dsimp only
  rw [if_pos powered]

/-- Settles O45: what the lookup finds is what its position reads as, and the end of its kind queues the record. -/
theorem readsEnd : Obligations.ReadsEnd := by
  intro s t hs powered freed
  refine ⟨?_, fun w last got bus lookup => ?_⟩
  · intro v got bus lookup a found queued
    rw [exec_journalLookupEnd powered bus lookup]
    have found_iff (b : SaleBody) : found b ↔ lookupFound v got s = some b := (lookupFound_eq_some_iff v got s b).symm
    refine ⟨fun b l is whole last standing same idle admits => ?_, fun none => ?_⟩
    · have passes : VendPasses v l freed :=
        ⟨hs, whole, last, standing, same, (setLookup_busy t none _ v.slot).trans idle, admits⟩
      rw [(found_iff b).mp is]
      refine ⟨fun kind below => ?_, fun kind sameKey month room => ?_⟩
      · refine congrArg _ (endLookup_of_queued ?_)
        simp only [vendEnd, kind]
        exact passes.reissue below t b
      · refine congrArg _ (endLookup_of_queued ?_)
        simp only [vendEnd, kind]
        exact passes.reverse sameKey month room t
    · have absent : lookupFound v got s = Option.none := by
        cases e : lookupFound v got s with
        | none => rfl
        | some b => exact absurd ((found_iff b).mpr e) (none b)
      rw [absent, endLookup_of_not_found (by exact hs)]
      cases v.kind <;> rfl
  · rw [exec_journalReadEnd powered bus lookup, endJournalRead_of_sound (by exact hs)]
    rfl

end Sys2Proof.Machine
end

section
/-!
SUPPORT. The arbiter of the two-wire controller (R132): what it grants, in its order, and what ends at its grant.
-/
namespace Sys2Proof.Machine

section
variable {s : State} {ack : Bool} {reads : SMap ReadGot}

/-! ### The order of the grants (R132) -/

theorem exec_arbiterGrant (powered : s.powered = true) (free : s.bus = none) :
    exec (.arbiterGrant ack reads) s = .next (grant ack reads s) := by
  show execArbiterGrant ack reads s = _
  unfold execArbiterGrant
  rw [if_pos (by simp [powered, free])]

/-- The front of the write queue comes first while the journal is not FAULTED. -/
theorem grant_of_ready {e : QueueEntry} {rest : List QueueEntry} {c : RingCopy} (queue : s.queue = e :: rest)
    (copy : s.copy = some c) (ready : c.mark = none) : grant ack reads s = grantEntry e s := by
  unfold grant
  rw [queue]
  dsimp only
  rw [if_pos (by simp [admitReady, copy, ready])]

/-- What waits behind the write queue is reached when the journal is FAULTED, has no pointers, or has nothing queued. -/
theorem grant_of_not_ready (passed : admitReady s = false ∨ s.queue = []) :
    grant ack reads s = grantBehind ack reads s := by
  unfold grant
  split
  · rename_i e rest queue
    have faulted : admitReady s = false := passed.resolve_right (by simp [queue])
    rw [if_neg (by simp [faulted])]
  · rfl

theorem admitReady_of_marked {c : RingCopy} {k : FaultMark} (copy : s.copy = some c) (mark : c.mark = some k) :
    admitReady s = false := by
  simp [admitReady, copy, mark]

theorem grantBehind_of_retry {w : RetryWork} (retry : s.retry = some w) :
    grantBehind ack reads s = grantRetry w ack s := by
  unfold grantBehind
  rw [retry]

theorem grantBehind_of_init {i : InitWork} (retry : s.retry = none) (init : s.init = some i)
    (outside : i.outside = true) : grantBehind ack reads s = grantInit i reads s := by
  unfold grantBehind
  rw [retry, init]
  dsimp only
  rw [if_pos (by simp [outside])]

theorem grantBehind_of_reads (retry : s.retry = none) (init : s.init = none) :
    grantBehind ack reads s = match s.reads with
      | t :: rest => grantRead t (s.setReads rest)
      | [] => s := by
  unfold grantBehind
  rw [retry, init]
  rfl

/-! ### The end of a retry (R137) -/

theorem freeBus_of_free (free : s.bus = none) : freeBus s = s := by
  unfold freeBus State.setBus
  rw [← free]

theorem endRetry_of_free (hs : s.mem.ecc = []) (free : s.bus = none) (w : RetryWork) (r : ResultCode)
    (body : ReplyBody) :
    endRetry w r body s =
      if w.replyDue then answered .journalRetry w.terminal w.tag r body (restartIdle w.terminal { s with retry := none })
      else restartIdle w.terminal { s with retry := none } := by
  obtain ⟨i, timer⟩ := restartIdle_of_sound (s := { s with retry := none }) hs w.terminal
  unfold endRetry
  rw [freeBus_of_free free]
  dsimp only [State.setRetry]
  rw [replyIf_of_sound (by rw [timer]; exact hs)]

theorem grantRetry_of_marked {c : RingCopy} {k : FaultMark} (copy : s.copy = some c) (mark : c.mark = some k)
    (w : RetryWork) :
    grantRetry w ack s =
      if ack then beginWrite .retryVoid (retryRecord w k) k.pos s else endRetry w .journalFault .empty s := by
  simp only [grantRetry, copy, mark, Option.bind_some]

/-! ### The INIT write outside the queue (R186; log 31) -/

variable {i : InitWork} {c : RingCopy}

theorem grantInit_of_no_pointers (copy : s.copy = none) (room : highestSeq reads s.device ≠ 4294967295) :
    grantInit i reads s =
      beginWrite .initOutside (initRecord i (highestSeq reads s.device + 1))
        (positionOf (highestSeq reads s.device + 1))
        (s.setCopy (some { head := highestSeq reads s.device + 1, tail := highestSeq reads s.device + 1, mark := none })) := by
  unfold grantInit
  rw [copy]
  dsimp only
  rw [if_neg room]

theorem grantInit_of_marked {k : FaultMark} (copy : s.copy = some c) (mark : c.mark = some k) :
    grantInit i reads s = beginWrite .initOutside (initRecord i k.seq) k.pos s := by
  unfold grantInit grantInitAt
  rw [copy]
  dsimp only
  rw [mark]

theorem grantInit_of_unmarked (copy : s.copy = some c) (mark : c.mark = none) (room : c.head ≤ 4294967295) :
    grantInit i reads s = beginWrite .initOutside (initRecord i c.head) (positionOf c.head)
      ((releaseOldest s).2.setInit (some { i with released := (releaseOldest s).1 })) := by
  unfold grantInit grantInitAt
  rw [copy]
  dsimp only
  rw [mark]
  dsimp only
  rw [if_neg (Nat.not_lt.mpr room)]

theorem releaseOldest_of_room (copy : s.copy = some c) (queue : s.queue = []) (room : c.head - c.tail < 4096) :
    releaseOldest s = (none, s) := by
  unfold releaseOldest
  rw [copy, queue]
  dsimp only
  rw [if_neg (by simpa using room)]

theorem releaseOldest_of_full (hs : s.mem.ecc = []) (copy : s.copy = some c) (queue : s.queue = [])
    (full : 4096 ≤ c.head - c.tail) :
    releaseOldest s = (some c.tail, (s.setCopy (some { c with tail := c.tail + 1 })).setSys
      { s.mem.sys with ring := { head := c.head, tail := c.tail + 1 } }) := by
  unfold releaseOldest setPointers
  rw [copy, queue]
  dsimp only
  rw [if_pos (by simpa using full), writeItem_of_sound (by exact hs)]
  rfl

/-! ### The oldest waiting read (R84, R139; log 34) -/

variable {t : Fin 8} {v : VendLookup} {w : JournalReadWork}

theorem inRange_iff (copy : s.copy = some c) (seq : Nat) : inRange seq s = true ↔ c.tail ≤ seq ∧ seq < c.head := by
  simp [inRange, copy]

theorem grantRead_of_vend (copy : s.copy = some c) (lookup : (s.term t).lookup = some (.vend v)) :
    grantRead t s =
      if c.tail ≤ v.seq ∧ v.seq < c.head then s.setBus (some (.lookup t)) else endLookup t v none s := by
  unfold grantRead
  rw [lookup]
  simp only [inRange_iff copy]

theorem grantRead_of_journalRead (copy : s.copy = some c) (lookup : (s.term t).lookup = some (.journalRead w)) :
    grantRead t s =
      if c.tail ≤ w.start ∧ w.start < c.head then
        s.setBus (some (.journalRead t (min (w.start + w.count - 1) (c.head - 1))))
      else endJournalRead t w .badRange [] s := by
  unfold grantRead
  rw [lookup]
  simp only [inRange_iff copy, copy]
  rfl

end

/-- Settles O40: the conditions of each clause single out one branch of the arbiter. -/
theorem arbiterGrantsInOrder : Obligations.ArbiterGrantsInOrder := by
  intro s ack reads powered free begun initOf
  refine ⟨?_, fun c copy => ⟨?_, ?_, ?_, ?_⟩⟩
  · intro i copy retry init outside room h
    rw [exec_arbiterGrant powered free, grant_of_not_ready (.inl (by simp [admitReady, copy])),
      grantBehind_of_init retry init outside, grantInit_of_no_pointers copy room]
    rfl
  · intro e rest queue ready
    rw [exec_arbiterGrant powered free, grant_of_ready queue copy ready, grantEntry, copy]
    rfl
  · intro w k mark retry
    rw [exec_arbiterGrant powered free, grant_of_not_ready (.inl (admitReady_of_marked copy mark)),
      grantBehind_of_retry retry, grantRetry_of_marked copy mark]
    refine ⟨fun acked => ?_, fun refused hs => ?_⟩
    · rw [if_pos acked]
      rfl
    · rw [if_neg (by simp [refused]), endRetry_of_free hs free]
  · intro i retry init outside
    refine ⟨fun k mark => ?_, fun queue mark room spare => ?_, fun queue mark room full hs => ?_⟩
    · rw [exec_arbiterGrant powered free, grant_of_not_ready (.inl (admitReady_of_marked copy mark)),
        grantBehind_of_init retry init outside, grantInit_of_marked copy mark]
      rfl
    · rw [exec_arbiterGrant powered free, grant_of_not_ready (.inr queue), grantBehind_of_init retry init outside,
        grantInit_of_unmarked copy mark room, releaseOldest_of_room copy queue spare]
      rfl
    · rw [exec_arbiterGrant powered free, grant_of_not_ready (.inr queue), grantBehind_of_init retry init outside,
        grantInit_of_unmarked copy mark room, releaseOldest_of_full hs copy queue full]
      rfl
  · intro queue retry init
    rw [exec_arbiterGrant powered free, grant_of_not_ready (.inr queue), grantBehind_of_reads retry init]
    refine ⟨fun none => by rw [none], fun t rest v waiting lookup => ?_, fun t rest w waiting lookup => ?_⟩
    · rw [waiting]
      dsimp only
      rw [grantRead_of_vend (s := s.setReads rest) copy lookup]
      refine ⟨fun low high => ?_, fun out hs => ?_⟩
      · rw [if_pos ⟨low, high⟩]
        rfl
      · rw [if_neg (by omega), endLookup_of_not_found (by exact hs)]
        cases v.kind <;> rfl
    · rw [waiting]
      dsimp only
      rw [grantRead_of_journalRead (s := s.setReads rest) copy lookup]
      refine ⟨fun low high => ?_, fun out hs => ?_⟩
      · rw [if_pos ⟨low, high⟩]
        rfl
      · rw [if_neg (by omega), endJournalRead_of_sound (by exact hs)]
        rfl

end Sys2Proof.Machine
end

section
/-!
SUPPORT. The completion of a vend record on a damaged slot (R149): the account is withheld, and the rest of the record's
effects is made on account memory whose only disturbed word, if any, lies in that slot's record.
-/
namespace Sys2Proof.Machine

/-! ### With no word of the system area disturbed -/

/-- No disturbed word lies in the system area. -/
def SystemWhole (s : State) : Prop := ∀ x ∈ s.mem.ecc, inSystem x.1 = false

section
variable {s : State}

theorem itemWord_of_systemWhole (whole : SystemWhole s) (i : SysItem) : ∀ x ∈ s.mem.ecc, itemWord i x.1 = false := by
  intro x hx
  simp [itemWord, whole x hx]

theorem hasBad_of_outside {p : Nat → Bool} (outside : ∀ x ∈ s.mem.ecc, p x.1 = false) : hasBad p s = false := by
  unfold hasBad
  rw [List.any_eq_false]
  intro x hx
  simp [outside x hx]

theorem firstBad_of_outside {p : Nat → Bool} (outside : ∀ x ∈ s.mem.ecc, p x.1 = false) : firstBad p s = none := by
  unfold firstBad
  rw [Option.map_eq_none_iff, List.find?_eq_none]
  intro x hx
  simp [outside x hx]

theorem freshWords_of_outside {p : Nat → Bool} (outside : ∀ x ∈ s.mem.ecc, p x.1 = false) : freshWords p s = s := by
  have kept : SMap.keep (fun a _ => !p a) s.mem.ecc = s.mem.ecc :=
    List.filter_eq_self.mpr fun x hx => by simp [outside x hx]
  unfold freshWords
  rw [kept]
  rfl

theorem itemBad_of_systemWhole (whole : SystemWhole s) (i : SysItem) : itemBad i s = false :=
  hasBad_of_outside (itemWord_of_systemWhole whole i)

theorem touchItem_of_systemWhole (whole : SystemWhole s) (i : SysItem) : touchItem i s = s := by
  have none : s.mem.ecc.filter (fun x => itemWord i x.1) = [] :=
    List.filter_eq_nil_iff.mpr fun x hx => by simp [itemWord_of_systemWhole whole i x hx]
  simp [touchItem, none, itemBad_of_systemWhole whole]

theorem writeItem_of_systemWhole (whole : SystemWhole s) (i : SysItem) (f : SystemArea → SystemArea) :
    writeItem i f s = s.setSys (f s.mem.sys) := by
  have fresh : freshWords (fun a => [i].any (fun j => itemWord j a)) s = s :=
    freshWords_of_outside fun x hx => by simp [itemWord_of_systemWhole whole i x hx]
  unfold writeItem writeItems storeItems
  dsimp only
  rw [if_neg (by simp [itemBad_of_systemWhole whole]), List.foldl_cons, List.foldl_nil, touchItem_of_systemWhole whole,
    fresh]

theorem damageView_of_systemWhole (whole : SystemWhole s) : damageView s = s.mem.sys.damage := by
  simp [damageView, itemBad_of_systemWhole whole]

/-- An error met outside the system area is logged at once. -/
theorem logError_of_systemWhole (whole : SystemWhole s) (a : Nat) (d : Disturb) :
    logError a d s = s.setSys { s.mem.sys with errorLog := s.mem.sys.errorLog.add a d } := by
  have outside := itemWord_of_systemWhole whole .errorLog
  have none : s.mem.ecc.filter (fun x => itemWord .errorLog x.1 && x.2.single) = [] :=
    List.filter_eq_nil_iff.mpr fun x hx => by simp [outside x hx]
  unfold logError
  rw [firstBad_of_outside outside, none, freshWords_of_outside outside]
  rfl

end

/-! ### A damaged slot (R145, R149) -/

/-- A slot in the damage list of a memory with no word disturbed, or one not in it whose record holds the only disturbed
word, an uncorrectable one. -/
def DamagedSlot (slot : Nat) (s : State) : Prop :=
  Sound s ∧ slot ∈ s.mem.sys.damage.slots ∨
    slot ∉ s.mem.sys.damage.slots ∧ ∃ a d, s.mem.ecc = [(a, d)] ∧ a < 131072 ∧ a / 8 = slot ∧
      wordOutcome d.syndrome = .uncorrectable

/-- The disturbed words, found uncorrectable by a read. -/
def foundAll (m : SMap Disturb) : SMap Disturb := m.map (fun x => (x.1, { x.2 with found := true }))

/-- The state that the withheld account leaves: its slot listed, its word found, and the error log as given. -/
def withheld (slot : Nat) (log : ErrorLog) (s : State) : State :=
  s.setMem { s.mem with
    ecc := foundAll s.mem.ecc, sys := { s.mem.sys with errorLog := log, damage := s.mem.sys.damage.enter slot } }

section
variable {slot : Nat} {s : State}

theorem DamagedSlot.systemWhole (damaged : DamagedSlot slot s) : SystemWhole s := by
  intro x hx
  rcases damaged with ⟨sound, -⟩ | ⟨-, a, d, ecc, region, -⟩
  · rw [sound] at hx
    cases hx
  · rw [ecc, List.mem_singleton] at hx
    subst hx
    simp [inSystem]
    omega

theorem withheld_of_listed (sound : Sound s) (listed : slot ∈ s.mem.sys.damage.slots) :
    withheld slot s.mem.sys.errorLog s = s := by
  unfold withheld foundAll DamageList.enter
  rw [if_pos listed, sound, List.map_nil, ← sound]
  rfl

/-- The read of a slot's uncorrectable word logs it and lists the slot (R144, R145). -/
theorem readSlot_of_uncorrectable {a : Nat} {d : Disturb} (ecc : s.mem.ecc = [(a, d)]) (region : a < 131072)
    (of : a / 8 = slot) (bad : wordOutcome d.syndrome = .uncorrectable) :
    readSlot slot s = withheld slot (s.mem.sys.errorLog.add a d) s := by
  have here : slotWord slot a = true := by simp [slotWord, region, of]
  have notSystem : inSystem a = false := by simp [inSystem]; omega
  have notIndex : inIndex a = false := by simp [inIndex]; omega
  have found : foundWords (· == a) s = s.setEcc (foundAll s.mem.ecc) := by
    simp [foundWords, SMap.adjust, foundAll, ecc, Disturb.bad, bad]
  have whole : SystemWhole (s.setEcc (foundAll s.mem.ecc)) := by
    intro x hx
    simp only [State.setEcc_mem, foundAll, ecc, List.map_cons, List.map_nil, List.mem_singleton] at hx
    rw [hx]
    exact notSystem
  unfold readSlot readWords
  simp only [ecc, List.filter_cons, here, if_true, List.filter_nil, List.foldl_cons, List.foldl_nil]
  unfold readWord
  rw [if_neg (by simp [notSystem]), if_pos (by simp [stillWrong, ecc, SMap.find])]
  simp only [bad, notIndex, Bool.false_eq_true, if_false]
  rw [found, logError_of_systemWhole whole, of]
  unfold enterDamage
  rw [writeItem_of_systemWhole (by exact whole)]
  rfl

/-- The account of a damaged slot is withheld (R149). -/
theorem applyAccount_of_damaged (damaged : DamagedSlot slot s) (h : RecordHead) (f : Account → Account) :
    ∃ log, applyAccount slot h f s = (.withheld, withheld slot log s) ∧ (Sound s → log = s.mem.sys.errorLog) := by
  have whole := damaged.systemWhole
  unfold applyAccount
  rw [touchItem_of_systemWhole whole]
  dsimp only
  rw [damageView_of_systemWhole whole]
  rcases damaged with ⟨sound, listed⟩ | ⟨unlisted, a, d, ecc, region, of, bad⟩
  · rw [if_pos listed]
    exact ⟨_, by rw [withheld_of_listed sound listed], fun _ => rfl⟩
  · have unread : slotRecord slot s = none := by
      simp [slotRecord, hasBad, ecc, slotWord, region, of, Disturb.bad, bad]
    rw [if_neg unlisted, unread]
    dsimp only
    exact ⟨_, by rw [readSlot_of_uncorrectable ecc region of bad], fun sound => by simp [Sound, ecc] at sound⟩

end

/-! ### The record's other effects (R79, R94, R95, R115) -/

/-- The state of a vend record whose account is withheld: the reserve and a terminal's entry stand as given, the slot is
listed, its word found. -/
structure WithheldWrote (s : State) (t : Fin 8) (slot : Nat) (reserve : ReserveRecord) (entry : TermEntry) (u : State) :
    Prop where
  accounts : u.mem.accounts = s.mem.accounts
  index : u.mem.index = s.mem.index
  ecc : u.mem.ecc = foundAll s.mem.ecc
  sys : u.mem.sys = { s.mem.sys with
    errorLog := u.mem.sys.errorLog, damage := s.mem.sys.damage.enter slot, reserve := reserve
    terms := s.mem.sys.terms.put t entry }
  log : Sound s → u.mem.sys.errorLog = s.mem.sys.errorLog
  mode : u.mode = s.mode
  sysFault : u.sysFault = s.sysFault
  secure : u.secure = s.secure
  clock : u.clock = s.clock
  copy : u.copy = s.copy
  queue : u.queue = s.queue
  tx : u.tx = s.tx

section
variable {s u : State} {t : Fin 8} {slot : Nat} {reserve : ReserveRecord} {entry : TermEntry} {h : RecordHead}

theorem withheldWrote_withheld (t : Fin 8) {log : ErrorLog} (same : Sound s → log = s.mem.sys.errorLog) :
    WithheldWrote s t slot s.mem.sys.reserve (s.mem.sys.terms.get t) (withheld slot log s) := by
  refine ⟨rfl, rfl, rfl, ?_, same, rfl, rfl, rfl, rfl, rfl, rfl, rfl⟩
  rw [Eight.put_get]
  rfl

/-- A free value's use shows nowhere else. -/
theorem WithheldWrote.setDraws (w : WithheldWrote s t slot reserve entry u) (n : Nat) :
    WithheldWrote s t slot reserve entry (u.setDraws n) :=
  ⟨w.accounts, w.index, w.ecc, w.sys, w.log, w.mode, w.sysFault, w.secure, w.clock, w.copy, w.queue, w.tx⟩

theorem WithheldWrote.endSale (w : WithheldWrote s t slot reserve entry u) (h : RecordHead) :
    WithheldWrote s t slot reserve entry (endSale h u) := by
  rw [endSale_frame]
  exact ⟨w.accounts, w.index, w.ecc, w.sys, w.log, w.mode, w.sysFault, w.secure, w.clock, w.copy, w.queue, w.tx⟩

theorem WithheldWrote.systemWhole (w : WithheldWrote s t slot reserve entry u) (whole : SystemWhole s) :
    SystemWhole u := by
  intro x hx
  rw [w.ecc] at hx
  obtain ⟨y, hy, rfl⟩ := List.mem_map.mp hx
  exact whole y hy

theorem WithheldWrote.reserved (w : WithheldWrote s t slot s.mem.sys.reserve entry u) (whole : SystemWhole s)
    {seq : Nat} (past : s.mem.sys.reserve.lastApplied < seq) (f : ReserveRecord → ReserveRecord) :
    WithheldWrote s t slot { f s.mem.sys.reserve with lastApplied := seq } entry (applyReserve seq f u) := by
  have held : u.mem.sys.reserve = s.mem.sys.reserve := by rw [w.sys]
  unfold applyReserve
  rw [writeItem_of_systemWhole (w.systemWhole whole), if_pos (by rw [held]; exact past), held]
  refine ⟨w.accounts, w.index, w.ecc, ?_, w.log, w.mode, w.sysFault, w.secure, w.clock, w.copy, w.queue, w.tx⟩
  rw [State.setSys_mem]
  dsimp only
  rw [w.sys]

theorem WithheldWrote.totalled (w : WithheldWrote s t slot reserve (s.mem.sys.terms.get t) u) (whole : SystemWhole s)
    (from_ : h.terminal = t.val) (past : (s.mem.sys.terms.get t).lastApplied < h.seq)
    (shift : (s.mem.sys.terms.get t).shiftNo = h.shiftNo) (f : ShiftTotals → ShiftTotals) :
    WithheldWrote s t slot reserve (vendEntry h f (s.mem.sys.terms.get t)) (applyTotals h f u) := by
  have held : u.mem.sys.terms = s.mem.sys.terms := by rw [w.sys, Eight.put_get]
  unfold applyTotals
  rw [headTerminal_of_eq from_]
  dsimp only [applyTerm, writeTerm]
  rw [writeItem_of_systemWhole (w.systemWhole whole), held, if_pos past, if_pos shift]
  refine ⟨w.accounts, w.index, w.ecc, ?_, w.log, w.mode, w.sysFault, w.secure, w.clock, w.copy, w.queue, w.tx⟩
  rw [State.setSys_mem]
  dsimp only
  rw [w.sys]
  rfl

end

theorem applyReserve_same (seq : Nat) (f : ReserveRecord → ReserveRecord) (s : State) :
    SameBut s (applyReserve seq f s) := writeItem_same _ _ s

theorem applyTotals_same (h : RecordHead) (f : ShiftTotals → ShiftTotals) (s : State) :
    SameBut s (applyTotals h f s) := by
  unfold applyTotals
  split
  · exact .refl s
  · exact writeTerm_same _ _ s

theorem SameBut.terms {s u : State} (same : SameBut s u) : u.terms = s.terms := by rw [same]

theorem SameBut.setAsides {s u : State} (same : SameBut s u) : u.setAsides = s.setAsides := by rw [same]

/-- A record of a terminal's present shift, past what was last applied to its entry, whose account is withheld. -/
structure WithheldDue (s : State) (h : RecordHead) (t : Fin 8) (slot : Nat) : Prop where
  damaged : DamagedSlot slot s
  terminal : h.terminal = t.val
  entry : (s.mem.sys.terms.get t).lastApplied < h.seq
  shift : (s.mem.sys.terms.get t).shiftNo = h.shiftNo

section
variable {s u : State} {h : RecordHead} {t : Fin 8} {slot : Nat}

/-- Its account is withheld, and the model's counter of free values alone may have moved besides. -/
theorem WithheldDue.account (due : WithheldDue s h t slot) (f : Account → Account) :
    let u := (applyAccount slot h f s).2
    WithheldWrote s t slot s.mem.sys.reserve (s.mem.sys.terms.get t) u ∧ SameBut s u := by
  obtain ⟨log, account, same⟩ := applyAccount_of_damaged due.damaged h f
  dsimp only
  rw [account]
  exact ⟨withheldWrote_withheld t same, SameBut.setMem s _⟩

/-- The totals of its shift are raised. -/
theorem WithheldDue.unreserved (due : WithheldDue s h t slot)
    (w : WithheldWrote s t slot s.mem.sys.reserve (s.mem.sys.terms.get t) u ∧ SameBut s u)
    (g : ShiftTotals → ShiftTotals) :
    WithheldWrote s t slot s.mem.sys.reserve (vendEntry h g (s.mem.sys.terms.get t)) (applyTotals h g u) ∧
      SameBut s (applyTotals h g u) :=
  ⟨w.1.totalled due.damaged.systemWhole due.terminal due.entry due.shift g, w.2.trans (applyTotals_same _ _ _)⟩

/-- The reserve, where the record touches it, is written before. -/
theorem WithheldDue.reserved (due : WithheldDue s h t slot) (past : s.mem.sys.reserve.lastApplied < h.seq)
    (w : WithheldWrote s t slot s.mem.sys.reserve (s.mem.sys.terms.get t) u ∧ SameBut s u)
    (k : ReserveRecord → ReserveRecord) (g : ShiftTotals → ShiftTotals) :
    let v := applyTotals h g (applyReserve h.seq k u)
    WithheldWrote s t slot { k s.mem.sys.reserve with lastApplied := h.seq } (vendEntry h g (s.mem.sys.terms.get t)) v ∧
      SameBut s v := by
  have whole := due.damaged.systemWhole
  exact ⟨(w.1.reserved whole past k).totalled whole due.terminal due.entry due.shift g,
    w.2.trans ((applyReserve_same _ _ _).trans (applyTotals_same _ _ _))⟩

/-- A REVERSAL whose account is withheld answers with a free debt (log 11). -/
theorem applyReversal_of_damaged (damaged : DamagedSlot slot s) {b : ReversalBody} (of : b.slot = slot)
    (h : RecordHead) :
    applyReversal h b s =
      let v := (applyAccount slot h (reversalOn b) s).2
      ((.ok, .reversed b.backLink b.tendered (b.purchased + b.allowance) (Config.unreadDebt v.draws % 100000000)),
        applyTotals h (reversalTotals b)
          (applyReserve h.seq (creditBack (b.purchased + b.allowance)) (v.setDraws (v.draws + 1)))) := by
  obtain ⟨log, account, -⟩ := applyAccount_of_damaged damaged h (reversalOn b)
  unfold applyReversal
  rw [of, account]
  rfl

end

/-- Settles O50: the damaged slot's account is withheld by each of the four records, and the entry, the reserve and the
sale take what the record brings as they do with a whole account. -/
theorem damagedSlotWithholdsAccountAlone : Obligations.DamagedSlotWithholdsAccountAlone := by
  intro s h t slot inService figures listed damaged from_ r e x up after wrote ends entry shift
  have due : WithheldDue s h t slot := ⟨damaged, from_, entry, shift⟩
  have written {u : State} {reserve : ReserveRecord} {f : ShiftTotals → ShiftTotals}
      (w : WithheldWrote s t slot reserve (vendEntry h f e) u) : wrote u reserve (f x) :=
    ⟨w.accounts, w.index, w.ecc, w.sys, w.log, w.mode, w.sysFault, w.secure, w.clock, w.copy, w.queue, w.tx⟩
  have ended {u : State} (same : SameBut s u) : ends (endSale h u) :=
    fun p sale committing seq room => endSale_of_committing from_ same.terms same.setAsides sale committing seq room
  refine ⟨fun b of past balance => ?_, fun b of => ?_, fun meter link => ?_, fun b of past issued => ?_⟩
  · subst of
    obtain ⟨w, same⟩ := due.reserved past (due.account (saleOn h b)) (debit (b.purchased + b.allowance)) (saleTotals b)
    refine ⟨?_, ended same, fun p sale committing seq => ?_⟩
    · rw [← dropBy_of_le (a := r.balance) balance 2000000000]
      exact written (w.endSale h)
    · show soldSpoken h b _ = _
      unfold soldSpoken
      rw [saleOf?_of_committing from_ same.terms sale committing seq]
  · subst of
    obtain ⟨w, same⟩ := due.unreserved (due.account fun a => { a with debt := dropBy 99999999 a.debt b.recovered })
      (paymentTotals b)
    refine ⟨written (w.endSale h), ended same, fun p sale committing seq => ?_⟩
    show paidSpoken h b _ = _
    unfold paidSpoken
    rw [saleOf?_of_committing from_ same.terms sale committing seq]
  · obtain ⟨w, -⟩ := due.unreserved (due.account reissueOn) (fun t => { t with reissues := totalUp t.reissues 1 })
    refine ⟨written w, fun seq ciphers held => ?_⟩
    show reissueSpoken link figures = _
    rw [held]
    rfl
  · obtain ⟨account, same⟩ := due.account (reversalOn b)
    obtain ⟨w, -⟩ := due.reserved past ⟨account.setDraws (_ + 1), same.trans rfl⟩ (creditBack (b.purchased + b.allowance))
      (reversalTotals b)
    show wrote (applyReversal h b s).2 _ _ ∧ ∃ debt, (applyReversal h b s).1 = _
    rw [applyReversal_of_damaged damaged of h, ← dropBy_of_le (a := r.totalIssued) issued 281474976710655]
    exact ⟨written w, _, rfl⟩

end Sys2Proof.Machine
end

section
/-!
SUPPORT. The fault answers of the write queue (R82, R135), with no word of account memory disturbed: what one entry's
answer does to the sales, the idle timers, an INITIALISE and the replies, and what the answers of a whole queue come to.
-/
namespace Sys2Proof.Machine

/-! ### The idle timer's condition (R116) -/

/-- The idle timer that a terminal's condition, taken afresh, gives it. -/
def idleAfresh (u : Fin 8) (s : State) : IdleTimer :=
  if (s.mem.sys.terms.get u).shift = .opened then
    if idleHeld u s then .held
    else if starting s then .stopped
    else .running (s.mem.sys.settings.idleLimit * 60000)
  else .stopped

theorem restartIdle_eq {s : State} (hs : s.mem.ecc = []) (u : Fin 8) :
    restartIdle u s = setIdle u (idleAfresh u s) s := by
  unfold restartIdle idleAfresh
  dsimp only
  rw [touchItem_of_sound hs, termView_of_sound hs, touchItem_of_sound hs, idleTicks, settingsView_of_sound hs]
  split_ifs <;> rfl

/-- The condition looks at the terminal's sale, the shift changes queued, the retry, account memory and the mode. -/
theorem idleAfresh_congr {u : Fin 8} {s w : State} (mem : w.mem = s.mem) (mode : w.mode = s.mode)
    (retry : w.retry = s.retry) (sale : (w.term u).sale = (s.term u).sale)
    (change : shiftChange u w = shiftChange u s) : idleAfresh u w = idleAfresh u s := by
  have held : idleHeld u w = idleHeld u s := by simp only [idleHeld, sale, change, retry]
  have begun : starting w = starting s := by unfold starting; rw [mode]
  unfold idleAfresh
  rw [mem, held, begun]

theorem setIdle_sale (t u : Fin 8) (i : IdleTimer) (s : State) : ((setIdle t i s).term u).sale = (s.term u).sale := by
  by_cases h : u = t
  · subst h
    simp
  · simp [setIdle_term_of_ne, h]

theorem setIdle_lookup (t u : Fin 8) (i : IdleTimer) (s : State) :
    ((setIdle t i s).term u).lookup = (s.term u).lookup := by
  by_cases h : u = t
  · subst h
    simp
  · simp [setIdle_term_of_ne, h]

theorem idleAfresh_setIdle (u t : Fin 8) (i : IdleTimer) (s : State) : idleAfresh u (setIdle t i s) = idleAfresh u s :=
  idleAfresh_congr rfl rfl rfl (setIdle_sale t u i s) rfl

/-- Every idle timer of a list of terminals taken afresh. -/
theorem foldl_restartIdle_eq (l : List (Fin 8)) {s : State} (hs : s.mem.ecc = []) :
    let w := l.foldl (fun acc t => restartIdle t acc) s
    w = s.setTerms w.terms ∧ ∀ u, w.term u = if u ∈ l then { s.term u with idle := idleAfresh u s } else s.term u := by
  induction l generalizing s with
  | nil => exact ⟨rfl, fun u => rfl⟩
  | cons t l ih =>
    dsimp only [List.foldl_cons]
    rw [restartIdle_eq hs]
    obtain ⟨frame, terms⟩ := ih (s := setIdle t (idleAfresh t s) s) hs
    refine ⟨frame, fun u => ?_⟩
    rw [terms, idleAfresh_setIdle]
    by_cases h : u = t
    · subst h
      simp
    · simp [setIdle_term_of_ne, h]

/-! ### The end of an INITIALISE without effect (R186) -/

/-- The state that an INITIALISE which ends without effect returns the module to, but for its timers. -/
def restored (i : InitWork) (s : State) : State :=
  (s.setMode (if i.wasInService && s.sysFault.isNone then .inService else .outOfService)).setInit none

/-- The INITIALISE ends, and every idle timer and the scrub timer are started afresh. -/
theorem returnFromInit_of_init {s : State} (hs : s.mem.ecc = []) {i : InitWork} (init : s.init = some i) :
    ∃ terms, returnFromInit s = ((restored i s).setTerms terms).setScrub
        { s.scrub with timer := scrubTimer s.mem.sys.settings.scrubInterval } ∧
      ∀ u, terms.get u = { s.term u with idle := idleAfresh u (restored i s) } := by
  have sound : (restored i s).mem.ecc = [] := hs
  obtain ⟨frame, terms⟩ := foldl_restartIdle_eq allTerminals sound
  generalize fold : allTerminals.foldl (fun acc t => restartIdle t acc) (restored i s) = w at frame terms
  refine ⟨w.terms, ?_, fun u => ?_⟩
  · have whole : w.mem.ecc = [] := by rw [frame]; exact hs
    have ended : returnFromInit s = (touchItem .settings w).setScrub { (touchItem .settings w).scrub with
        timer := scrubTimer (settingsView (touchItem .settings w)).scrubInterval } := by
      unfold restored at fold
      unfold returnFromInit
      rw [init]
      dsimp only
      rw [fold]
    rw [ended, touchItem_of_sound whole, settingsView_of_sound whole, frame]
    rfl
  · exact (terms u).trans (if_pos (by fin_cases u <;> decide))

theorem returnFromInit_of_none {s : State} (none : s.init = none) : returnFromInit s = s := by
  simp [returnFromInit, none]

/-! ### The end of a sale (R82) -/

/-- The sale of a terminal that a record ends at a fault or at its completion (R80, R82). -/
def RecordHead.ends (h : RecordHead) (u : Fin 8) (p : PendingSale) : Bool :=
  decide (p.state = .committing ∧ h.terminal = u.val ∧ p.journalSeq = some h.seq)

/-- The sale that a record ends is the COMMITTING one of its terminal that holds its sequence. -/
theorem saleOf?_eq_some_iff {h : RecordHead} {s : State} {t : Fin 8} {p : PendingSale} : saleOf? h s = some (t, p) ↔
    (s.term t).sale = some p ∧ h.ends t p = true := by
  constructor
  · intro ended
    unfold saleOf? headTerminal at ended
    split at ended
    · cases ended
    · rename_i u terminal
      split_ifs at terminal
      cases terminal
      split at ended
      · split_ifs at ended with holds
        cases ended
        exact ⟨‹_›, decide_eq_true ⟨holds.1, rfl, holds.2⟩⟩
      · cases ended
  · rintro ⟨sale, ends⟩
    obtain ⟨committing, from_, seq⟩ := of_decide_eq_true ends
    exact saleOf?_of_committing from_ rfl sale committing seq

/-- A record's end takes the sale it ends, and no other; nothing else of a terminal's entry changes. -/
theorem endSale_term (h : RecordHead) (u : Fin 8) (s : State) :
    (endSale h s).term u = { s.term u with sale := (s.term u).sale.filter (fun p => !h.ends u p) } := by
  have stays (other : ∀ p, saleOf? h s ≠ some (u, p)) : (endSale h s).term u = s.term u := by
    unfold endSale
    cases ended : saleOf? h s with
    | none => rfl
    | some x =>
      obtain ⟨t, p⟩ := x
      have ne : u ≠ t := fun eq => other p (eq ▸ ended)
      dsimp only [releaseSale]
      split
      · exact setSale_term_of_ne _ _ ne _
      · rfl
  cases sale : (s.term u).sale with
  | none =>
    rw [stays fun p ended => by simp [saleOf?_eq_some_iff, sale] at ended, Option.filter_none, ← sale]
  | some p =>
    by_cases ends : h.ends u p = true
    · simp only [endSale, saleOf?_eq_some_iff.mpr ⟨sale, ends⟩, releaseSale, sale, setSale_term, Option.filter_some, ends,
        Bool.not_true, Bool.false_eq_true, if_false]
      rfl
    · rw [stays, Option.filter_some, if_pos (by simpa using ends), ← sale]
      intro q ended
      obtain ⟨held, other⟩ := saleOf?_eq_some_iff.mp ended
      obtain rfl := Option.some.inj (sale.symm.trans held)
      exact ends other

/-- The law of the sum of set-asides is kept by a sale's end (R91). -/
theorem endSale_sum {h : RecordHead} {s : State} (sum : s.setAsides = setAsideSum s) :
    (endSale h s).setAsides = setAsideSum (endSale h s) := by
  unfold endSale
  cases ended : saleOf? h s with
  | none => exact sum
  | some x =>
    obtain ⟨t, p⟩ := x
    obtain ⟨sale, -⟩ := saleOf?_eq_some_iff.mp ended
    have own := ownSetAside_of_some sale
    have within := ownSetAside_le_sum t s
    have left := setAsideSum_setSale t none s
    dsimp only
    rw [releaseSale_of_some sale (by omega)]
    show s.setAsides - p.setAside = setAsideSum (setSale t none s)
    simp only [Option.map_none, Option.getD_none] at left
    omega

theorem setIdle_sum (t : Fin 8) (i : IdleTimer) (s : State) : setAsideSum (setIdle t i s) = setAsideSum s := by
  simp only [setAsideSum_eq, setIdle_ownSetAside]

end Sys2Proof.Machine
end

section
/-!
SUPPORT. One entry's fault answer (R82, R135), with no word of account memory disturbed: its frame, and its rule for each
part of the state that it reaches.
-/
namespace Sys2Proof.Machine

/-! ### The frame of a fault answer -/

/-- The second state differs from the first in the parts alone that a fault answer reaches. -/
def FaultTouches (s t : State) : Prop :=
  t = { s with terms := t.terms, setAsides := t.setAsides, mode := t.mode, init := t.init, scrub := t.scrub
               queue := t.queue, tx := t.tx, line := t.line }

theorem FaultTouches.refl (s : State) : FaultTouches s s := rfl

theorem FaultTouches.trans {s t u : State} (h : FaultTouches s t) (k : FaultTouches t u) : FaultTouches s u := by
  unfold FaultTouches at *
  rw [k, h]

section
variable {s t : State} (h : FaultTouches s t)
include h

theorem FaultTouches.mem : t.mem = s.mem := by rw [h]
theorem FaultTouches.secure : t.secure = s.secure := by rw [h]
theorem FaultTouches.clock : t.clock = s.clock := by rw [h]
theorem FaultTouches.device : t.device = s.device := by rw [h]
theorem FaultTouches.copy : t.copy = s.copy := by rw [h]
theorem FaultTouches.bus : t.bus = s.bus := by rw [h]
theorem FaultTouches.sysFault : t.sysFault = s.sysFault := by rw [h]
theorem FaultTouches.faulted : faulted t = faulted s := by unfold Machine.faulted; rw [h.copy]

end

/-! ### The owner's part -/

theorem filter_of_forall {α : Type} {f : α → Bool} (all : ∀ a, f a = true) (o : Option α) : o.filter f = o := by
  cases o <;> simp [Option.filter_some, all]

/-- The sale of a terminal that an entry's fault answer ends: that of a SALE or PAYMENT record. -/
def QueueEntry.ends (e : QueueEntry) (u : Fin 8) (p : PendingSale) : Bool :=
  match e.record.body with
  | .sale _ | .payment _ => e.record.head.ends u p
  | _ => false

/-- The sale of an entry's record ends, where it is a SALE or PAYMENT record. -/
def endEntrySale (e : QueueEntry) (s : State) : State :=
  match e.record.body with
  | .sale _ | .payment _ => endSale e.record.head s
  | _ => s

/-- The owner of any entry but an INIT's ends its sale and then the hold it had. -/
theorem faultOwner_of_not_init {e : QueueEntry} (other : ∀ k, e.record.body ≠ .init k) (s : State) :
    faultOwner e s = endHold e.record (endEntrySale e s) := by
  unfold faultOwner endEntrySale
  cases body : e.record.body with
  | init k => exact absurd body (other k)
  | _ => rfl

theorem faultOwner_of_init {e : QueueEntry} {k : InitCause} (body : e.record.body = .init k) (s : State) :
    faultOwner e s = returnFromInit s := by
  simp [faultOwner, body]

theorem endEntrySale_term (e : QueueEntry) (u : Fin 8) (s : State) :
    (endEntrySale e s).term u = { s.term u with sale := (s.term u).sale.filter (fun p => !e.ends u p) } := by
  unfold endEntrySale QueueEntry.ends
  split
  · exact endSale_term _ u s
  · exact endSale_term _ u s
  · rw [filter_of_forall (f := fun _ => !false) fun _ => rfl]

theorem endEntrySale_frame (e : QueueEntry) (s : State) :
    endEntrySale e s = (s.setTerms (endEntrySale e s).terms).setSetAsides (endEntrySale e s).setAsides := by
  unfold endEntrySale
  split
  · exact endSale_frame _ s
  · exact endSale_frame _ s
  · rfl

theorem endEntrySale_sum {e : QueueEntry} {s : State} (sum : s.setAsides = setAsideSum s) :
    (endEntrySale e s).setAsides = setAsideSum (endEntrySale e s) := by
  unfold endEntrySale
  split
  · exact endSale_sum sum
  · exact endSale_sum sum
  · exact sum

/-- An entry that ends a sale of a terminal has a hold on its idle timer. -/
theorem QueueEntry.holder_of_ends {e : QueueEntry} {u : Fin 8} {p : PendingSale} (ends : e.ends u p = true) :
    e.record.body.holder e.record.head = some u := by
  have from_ (ends : e.record.head.ends u p = true) : headTerminal e.record.head = some u :=
    headTerminal_of_eq (of_decide_eq_true ends).2.1
  unfold QueueEntry.ends at ends
  cases body : e.record.body with rw [body] at ends
  | sale b => exact from_ ends
  | payment b => exact from_ ends
  | _ => cases ends

/-- A terminal whose timer the entry has no hold on keeps its sale. -/
theorem endEntrySale_term_of_ne {e : QueueEntry} {u : Fin 8} (other : e.record.body.holder e.record.head ≠ some u)
    (s : State) : (endEntrySale e s).term u = s.term u := by
  rw [endEntrySale_term, filter_of_forall]
  intro p
  simpa using fun ends => other (QueueEntry.holder_of_ends (e := e) (p := p) ends)

/-- An entry that changes a terminal's shift has a hold on its idle timer (R116). -/
theorem holder_of_changesShift {r : Record} {u : Fin 8} (change : r.changesShiftOf = some u.val) :
    r.body.holder r.head = some u := by
  unfold Record.changesShiftOf at change
  cases body : r.body with rw [body] at change
  | shiftOpen => exact headTerminal_of_eq (Option.some.inj change)
  | shiftClose b => exact congrArg some (Fin.ext (Option.some.inj change))
  | terminal t role => exact congrArg some (Fin.ext (Option.some.inj change))
  | _ => cases change

theorem endHold_of_holder {s : State} (hs : s.mem.ecc = []) {r : Record} {t : Fin 8}
    (holder : r.body.holder r.head = some t) : endHold r s = setIdle t (idleAfresh t s) s := by
  rw [← restartIdle_eq hs]
  simp [endHold, holder]

theorem endHold_of_none {r : Record} (holder : r.body.holder r.head = none) (s : State) : endHold r s = s := by
  simp [endHold, holder]

theorem endEntrySale_sound {e : QueueEntry} {s : State} (hs : s.mem.ecc = []) : (endEntrySale e s).mem.ecc = [] := by
  rw [endEntrySale_frame]
  exact hs

/-- The owner's part reaches the terminals, the sum of set-asides, the mode, the INITIALISE and the scrubber alone. -/
theorem faultOwner_frame {s : State} (hs : s.mem.ecc = []) (e : QueueEntry) :
    faultOwner e s = { s with
      terms := (faultOwner e s).terms, setAsides := (faultOwner e s).setAsides, mode := (faultOwner e s).mode
      init := (faultOwner e s).init, scrub := (faultOwner e s).scrub } := by
  by_cases isInit : ∃ k, e.record.body = .init k
  · obtain ⟨k, body⟩ := isInit
    rw [faultOwner_of_init body]
    cases init : s.init with
    | none => rw [returnFromInit_of_none init]
    | some i =>
      obtain ⟨terms, returned, -⟩ := returnFromInit_of_init hs init
      rw [returned]
      rfl
  · rw [faultOwner_of_not_init (not_exists.mp isInit)]
    have sold := endEntrySale_frame e s
    have whole := endEntrySale_sound (e := e) hs
    cases holder : e.record.body.holder e.record.head with
    | none =>
      rw [endHold_of_none holder, sold]
      rfl
    | some t =>
      rw [endHold_of_holder whole holder, sold]
      rfl

/-- The mode, the INITIALISE and the scrubber stand where no INITIALISE is in hand or the entry is not an INIT's. -/
theorem faultOwner_keeps_mode {s : State} (hs : s.mem.ecc = []) {e : QueueEntry}
    (quiet : s.init = none ∨ ∀ k, e.record.body ≠ .init k) : (faultOwner e s).mode = s.mode ∧
      (faultOwner e s).init = s.init ∧ (faultOwner e s).scrub = s.scrub := by
  by_cases isInit : ∃ k, e.record.body = .init k
  · obtain ⟨k, body⟩ := isInit
    have none : s.init = none := quiet.resolve_right fun other => other k body
    rw [faultOwner_of_init body, returnFromInit_of_none none]
    exact ⟨rfl, rfl, rfl⟩
  · rw [faultOwner_of_not_init (not_exists.mp isInit)]
    have sold := endEntrySale_frame e s
    have whole := endEntrySale_sound (e := e) hs
    cases holder : e.record.body.holder e.record.head with
    | none =>
      rw [endHold_of_none holder, sold]
      exact ⟨rfl, rfl, rfl⟩
    | some t =>
      rw [endHold_of_holder whole holder, sold]
      exact ⟨rfl, rfl, rfl⟩

/-- Each terminal loses the sale that the entry ends, and keeps its lookup. -/
theorem faultOwner_sale_lookup {s : State} (hs : s.mem.ecc = []) (e : QueueEntry) (u : Fin 8) :
    ((faultOwner e s).term u).sale = (s.term u).sale.filter (fun p => !e.ends u p) ∧
      ((faultOwner e s).term u).lookup = (s.term u).lookup := by
  by_cases isInit : ∃ k, e.record.body = .init k
  · obtain ⟨k, body⟩ := isInit
    have stays (p : PendingSale) : (!e.ends u p) = true := by simp [QueueEntry.ends, body]
    rw [faultOwner_of_init body, filter_of_forall stays]
    cases init : s.init with
    | none => simp [returnFromInit_of_none init]
    | some i =>
      obtain ⟨terms, returned, each⟩ := returnFromInit_of_init hs init
      rw [returned]
      show (terms.get u).sale = _ ∧ (terms.get u).lookup = _
      simp [each]
  · rw [faultOwner_of_not_init (not_exists.mp isInit)]
    have sold := endEntrySale_term e u s
    cases holder : e.record.body.holder e.record.head with
    | none => simp [endHold_of_none holder, sold]
    | some t =>
      rw [endHold_of_holder (endEntrySale_sound hs) holder, setIdle_sale, setIdle_lookup, sold]
      exact ⟨rfl, rfl⟩

/-- A terminal whose timer the entry has no hold on keeps its entry whole, where the entry is not an INIT's. -/
theorem faultOwner_term_of_ne {s : State} (hs : s.mem.ecc = []) {e : QueueEntry} {u : Fin 8}
    (other : ∀ k, e.record.body ≠ .init k) (free : e.record.body.holder e.record.head ≠ some u) :
    (faultOwner e s).term u = s.term u := by
  rw [faultOwner_of_not_init other]
  cases holder : e.record.body.holder e.record.head with
  | none => rw [endHold_of_none holder, endEntrySale_term_of_ne free]
  | some t =>
    have ne : u ≠ t := fun eq => free (eq ▸ holder)
    rw [endHold_of_holder (endEntrySale_sound hs) holder, setIdle_term_of_ne _ _ ne, endEntrySale_term_of_ne free]

/-- The law of the sum of set-asides is kept (R91). -/
theorem faultOwner_sum {s : State} (hs : s.mem.ecc = []) (e : QueueEntry) (sum : s.setAsides = setAsideSum s) :
    (faultOwner e s).setAsides = setAsideSum (faultOwner e s) := by
  by_cases isInit : ∃ k, e.record.body = .init k
  · obtain ⟨k, body⟩ := isInit
    rw [faultOwner_of_init body]
    cases init : s.init with
    | none => rwa [returnFromInit_of_none init]
    | some i =>
      obtain ⟨terms, returned, each⟩ := returnFromInit_of_init hs init
      have own (u : Fin 8) : ownSetAside u (returnFromInit s) = ownSetAside u s := by
        rw [returned, ownSetAside_eq, ownSetAside_eq]
        show ((terms.get u).sale.map _).getD 0 = _
        rw [each]
      have kept : (returnFromInit s).setAsides = s.setAsides := by
        rw [returned]
        rfl
      rw [kept, sum, setAsideSum_eq, setAsideSum_eq]
      simp only [own]
  · rw [faultOwner_of_not_init (not_exists.mp isInit)]
    have sold := endEntrySale_sum (e := e) sum
    cases holder : e.record.body.holder e.record.head with
    | none => rwa [endHold_of_none holder]
    | some t =>
      rw [endHold_of_holder (endEntrySale_sound hs) holder, setIdle_sum]
      exact sold

/-! ### The idle timers (R116) -/

/-- The terminal's idle timer is as its condition gives it afresh, outside STARTING. -/
def IdleSettled (u : Fin 8) (s : State) : Prop := starting s = false ∧ (s.term u).idle = idleAfresh u s

/-- The end of a hold settles the timer it was on. -/
theorem faultOwner_settles_of_holder {s : State} (hs : s.mem.ecc = []) {e : QueueEntry} {u : Fin 8}
    (begun : starting s = false) (holder : e.record.body.holder e.record.head = some u) :
    IdleSettled u (faultOwner e s) := by
  have other (k : InitCause) : e.record.body ≠ .init k := fun body => by simp [RecordBody.holder, body] at holder
  rw [faultOwner_of_not_init other, endHold_of_holder (endEntrySale_sound hs) holder]
  refine ⟨?_, by rw [idleAfresh_setIdle, setIdle_term]⟩
  rw [← begun, endEntrySale_frame]
  rfl

theorem starting_restored (i : InitWork) (s : State) : starting (restored i s) = false := by
  show starting (s.setMode (if i.wasInService && s.sysFault.isNone then .inService else .outOfService)) = false
  split <;> rfl

/-- The end of an INITIALISE settles every timer. -/
theorem faultOwner_settles_of_init {s : State} (hs : s.mem.ecc = []) {e : QueueEntry} {k : InitCause} {i : InitWork}
    (body : e.record.body = .init k) (init : s.init = some i) (u : Fin 8) : IdleSettled u (faultOwner e s) := by
  obtain ⟨terms, returned, each⟩ := returnFromInit_of_init hs init
  rw [faultOwner_of_init body, returned]
  refine ⟨starting_restored i s, ?_⟩
  have same : idleAfresh u (((restored i s).setTerms terms).setScrub
      { s.scrub with timer := scrubTimer s.mem.sys.settings.scrubInterval }) = idleAfresh u (restored i s) :=
    idleAfresh_congr rfl rfl rfl (show (terms.get u).sale = (s.term u).sale by rw [each]) rfl
  rw [same]
  exact congrArg TermWork.idle (each u)

theorem faultOwner_starting {s : State} (hs : s.mem.ecc = []) (e : QueueEntry) (begun : starting s = false) :
    starting (faultOwner e s) = false := by
  have kept (quiet : s.init = none ∨ ∀ k, e.record.body ≠ .init k) : starting (faultOwner e s) = false := by
    rw [← begun]
    unfold starting
    rw [(faultOwner_keeps_mode hs quiet).1]
  by_cases isInit : ∃ k, e.record.body = .init k
  · obtain ⟨k, body⟩ := isInit
    cases init : s.init with
    | none => exact kept (.inl init)
    | some i => exact (faultOwner_settles_of_init hs body init 0).1
  · exact kept (.inr (not_exists.mp isInit))

/-- A settled timer stays settled under any entry's answer. -/
theorem faultOwner_keeps_settled {s : State} (hs : s.mem.ecc = []) (e : QueueEntry) {u : Fin 8}
    (settled : IdleSettled u s) : IdleSettled u (faultOwner e s) := by
  by_cases isInit : ∃ k, e.record.body = .init k
  · obtain ⟨k, body⟩ := isInit
    cases init : s.init with
    | none => rwa [faultOwner_of_init body, returnFromInit_of_none init]
    | some i => exact faultOwner_settles_of_init hs body init u
  · by_cases holder : e.record.body.holder e.record.head = some u
    · exact faultOwner_settles_of_holder hs settled.1 holder
    · have term := faultOwner_term_of_ne hs (not_exists.mp isInit) holder
      have mode := (faultOwner_keeps_mode hs (.inr (not_exists.mp isInit))).1
      have frame := faultOwner_frame hs e
      obtain ⟨begun, idle⟩ := settled
      refine ⟨faultOwner_starting hs e begun, ?_⟩
      rw [term, idle]
      exact (idleAfresh_congr (by rw [frame]) mode (by rw [frame]) (congrArg TermWork.sale term)
        (by unfold shiftChange; rw [frame])).symm

end Sys2Proof.Machine
end

section
/-!
SUPPORT. The fault answers of a whole write queue (R135): an induction over the queue, and what comes of each part of the
state.
-/
namespace Sys2Proof.Machine

/-- Every entry of the queue is answered, oldest first. -/
def faultQueue (s : State) : State := s.queue.foldl faultEntry s

/-- The reply that an entry owes at its fault, as a state gives it. -/
def QueueEntry.faultReplies (e : QueueEntry) (s : State) : List Reply :=
  match e.owner with
  | some o => if e.replyDue then [replyFrom e.record.body.kind o.terminal o.tag .journalFault .empty s] else []
  | none => []

/-- To whom an entry owes its fault answer, with the result. -/
def QueueEntry.faultAnswer (e : QueueEntry) : Option (Byte × Tag × ResultCode) :=
  if e.replyDue then e.owner.map (fun o => (terminalByte o.terminal, o.tag, ResultCode.journalFault)) else none

theorem faultReplies_answers (e : QueueEntry) (s : State) :
    (e.faultReplies s).map (fun r => (r.terminal, r.tag, r.result)) = e.faultAnswer.toList := by
  unfold QueueEntry.faultReplies QueueEntry.faultAnswer
  cases e.owner with
  | none => simp
  | some o => cases e.replyDue <;> rfl

theorem faultReplies_flags {e : QueueEntry} {s : State} {r : Reply} (mem : r ∈ e.faultReplies s) :
    r.flags.journalFaulted = faulted s := by
  unfold QueueEntry.faultReplies at mem
  split at mem
  · split_ifs at mem
    · obtain rfl := List.mem_singleton.mp mem
      rfl
    · cases mem
  · cases mem

/-- An entry's answer: the entry leaves the queue, its owner does its part, and the reply it owes enters. -/
theorem faultEntry_of_sound {s : State} (hs : s.mem.ecc = []) {e : QueueEntry} {rest : List QueueEntry}
    (queue : s.queue = e :: rest) : ∃ line, faultEntry s e =
      ((faultOwner e (s.setQueue rest)).setTx (s.tx ++ e.faultReplies (faultOwner e (s.setQueue rest)))).setLine line := by
  have owned := faultOwner_frame (s := s.setQueue rest) hs e
  have unchanged (o : State) (tx : o.tx = s.tx) : o = (o.setTx (s.tx ++ [])).setLine o.line := by
    rw [List.append_nil, ← tx]
    rfl
  unfold faultEntry answerEntry QueueEntry.faultReplies
  rw [queue, List.tail_cons]
  generalize faultOwner e (s.setQueue rest) = o at owned ⊢
  have tx : o.tx = s.tx := by rw [owned]; rfl
  cases e.owner with
  | none => exact ⟨o.line, unchanged o tx⟩
  | some owner =>
    dsimp only
    rw [replyIf_of_sound (by rw [owned]; exact hs)]
    split
    · exact ⟨{ o.line with overflow := false }, by rw [← tx]; rfl⟩
    · exact ⟨o.line, unchanged o tx⟩

section
variable {s : State} (hs : s.mem.ecc = []) {e : QueueEntry} {rest : List QueueEntry} (queue : s.queue = e :: rest)
include hs queue

theorem faultEntry_touches : FaultTouches s (faultEntry s e) := by
  obtain ⟨line, entry⟩ := faultEntry_of_sound hs queue
  rw [entry, faultOwner_frame (s := s.setQueue rest) hs e]
  rfl

theorem faultEntry_sound : (faultEntry s e).mem.ecc = [] := by
  rw [(faultEntry_touches hs queue).mem, hs]

theorem faultEntry_queue : (faultEntry s e).queue = rest := by
  obtain ⟨line, entry⟩ := faultEntry_of_sound hs queue
  rw [entry, faultOwner_frame (s := s.setQueue rest) hs e]
  rfl

theorem faultEntry_term (u : Fin 8) : (faultEntry s e).term u = (faultOwner e (s.setQueue rest)).term u := by
  obtain ⟨line, entry⟩ := faultEntry_of_sound hs queue
  rw [entry]
  rfl

theorem faultEntry_sum (sum : s.setAsides = setAsideSum s) :
    (faultEntry s e).setAsides = setAsideSum (faultEntry s e) := by
  obtain ⟨line, entry⟩ := faultEntry_of_sound hs queue
  rw [entry]
  exact faultOwner_sum (s := s.setQueue rest) hs e sum

theorem faultEntry_mode : (faultEntry s e).mode = (faultOwner e (s.setQueue rest)).mode ∧
    (faultEntry s e).init = (faultOwner e (s.setQueue rest)).init ∧
    (faultEntry s e).scrub = (faultOwner e (s.setQueue rest)).scrub := by
  obtain ⟨line, entry⟩ := faultEntry_of_sound hs queue
  rw [entry]
  exact ⟨rfl, rfl, rfl⟩

theorem faultEntry_tx :
    (faultEntry s e).tx = s.tx ++ e.faultReplies (faultOwner e (s.setQueue rest)) := by
  obtain ⟨line, entry⟩ := faultEntry_of_sound hs queue
  rw [entry]
  rfl

omit hs in
/-- The entry that leaves the queue is a shift change of no terminal whose timer it has no hold on. -/
theorem shiftChange_popped {u : Fin 8} (free : e.record.body.holder e.record.head ≠ some u) :
    shiftChange u (s.setQueue rest) = shiftChange u s := by
  have other : e.record.changesShiftOf ≠ some u.val := fun change => free (holder_of_changesShift change)
  show rest.any _ = s.queue.any _
  simp [queue, other]

/-- An entry's answer settles the timer it had a hold on. -/
theorem faultEntry_settles_of_holder {u : Fin 8} (begun : starting s = false)
    (holder : e.record.body.holder e.record.head = some u) : IdleSettled u (faultEntry s e) := by
  obtain ⟨line, entry⟩ := faultEntry_of_sound hs queue
  rw [entry]
  exact faultOwner_settles_of_holder (s := s.setQueue rest) hs begun holder

/-- The answer of an INIT's entry, with an INITIALISE in hand, settles every timer. -/
theorem faultEntry_settles_of_init {k : InitCause} {i : InitWork} (body : e.record.body = .init k)
    (init : s.init = some i) (u : Fin 8) : IdleSettled u (faultEntry s e) := by
  obtain ⟨line, entry⟩ := faultEntry_of_sound hs queue
  rw [entry]
  exact faultOwner_settles_of_init (s := s.setQueue rest) hs body init u

theorem faultEntry_keeps_settled {u : Fin 8} (settled : IdleSettled u s) : IdleSettled u (faultEntry s e) := by
  by_cases holder : e.record.body.holder e.record.head = some u
  · exact faultEntry_settles_of_holder hs queue settled.1 holder
  · have popped : IdleSettled u (s.setQueue rest) := by
      refine ⟨settled.1, settled.2.trans ?_⟩
      exact (idleAfresh_congr (s := s) (w := s.setQueue rest) rfl rfl rfl rfl (shiftChange_popped queue holder)).symm
    obtain ⟨line, entry⟩ := faultEntry_of_sound hs queue
    rw [entry]
    exact faultOwner_keeps_settled (s := s.setQueue rest) hs e popped

/-- An entry's answer leaves the mode, the INITIALISE and the scrubber, where none is in hand or the entry is not an
INIT's. -/
theorem faultEntry_keeps_mode (quiet : s.init = none ∨ ∀ k, e.record.body ≠ .init k) :
    (faultEntry s e).mode = s.mode ∧ (faultEntry s e).init = s.init ∧ (faultEntry s e).scrub = s.scrub := by
  obtain ⟨mode, init, scrub⟩ := faultEntry_mode hs queue
  rw [mode, init, scrub]
  exact faultOwner_keeps_mode (s := s.setQueue rest) hs quiet

/-- The answer of an INIT's entry ends the INITIALISE in hand. -/
theorem faultEntry_init {k : InitCause} {i : InitWork} (body : e.record.body = .init k) (init : s.init = some i) :
    (faultEntry s e).init = none ∧
      (faultEntry s e).mode = (if i.wasInService && s.sysFault.isNone then .inService else .outOfService) ∧
      (faultEntry s e).scrub = { s.scrub with timer := scrubTimer s.mem.sys.settings.scrubInterval } := by
  obtain ⟨mode, ended, scrub⟩ := faultEntry_mode hs queue
  obtain ⟨terms, returned, -⟩ := returnFromInit_of_init (s := s.setQueue rest) hs init
  rw [mode, ended, scrub, faultOwner_of_init body, returned]
  exact ⟨rfl, rfl, rfl⟩

/-- No entry's answer makes the module STARTING. -/
theorem faultEntry_starting (begun : starting s = false) : starting (faultEntry s e) = false := by
  obtain ⟨mode, -, -⟩ := faultEntry_mode hs queue
  unfold starting
  rw [mode]
  exact faultOwner_starting (s := s.setQueue rest) hs e begun

theorem faultQueue_of_cons : faultQueue s = faultQueue (faultEntry s e) := by
  unfold faultQueue
  rw [faultEntry_queue hs queue, queue, List.foldl_cons]

end

theorem faultQueue_of_nil {s : State} (queue : s.queue = []) : faultQueue s = s := by
  simp [faultQueue, queue]

/-- A property of states that holds with the queue empty, and holds of a state when it holds of it with the front entry
answered, holds of every state. -/
theorem faultQueue_induct {P : (s : State) → s.mem.ecc = [] → Prop} (nil : ∀ s hs, s.queue = [] → P s hs)
    (cons : ∀ s hs e rest, (queue : s.queue = e :: rest) → (faultEntry s e).queue = rest →
      P (faultEntry s e) (faultEntry_sound hs queue) → P s hs) (s : State) (hs : s.mem.ecc = []) : P s hs := by
  generalize queue : s.queue = q
  induction q generalizing s with
  | nil => exact nil s hs queue
  | cons e rest ih =>
    have left := faultEntry_queue hs queue
    exact cons s hs e rest queue left (ih _ (faultEntry_sound hs queue) left)

section
variable {s : State} (hs : s.mem.ecc = [])
include hs

theorem faultQueue_touches : FaultTouches s (faultQueue s) := by
  induction s, hs using faultQueue_induct with
  | nil s hs queue =>
    rw [faultQueue_of_nil queue]
    exact .refl s
  | cons s hs e rest queue left ih =>
    rw [faultQueue_of_cons hs queue]
    exact (faultEntry_touches hs queue).trans ih

theorem faultQueue_queue : (faultQueue s).queue = [] := by
  induction s, hs using faultQueue_induct with
  | nil s hs queue =>
    rw [faultQueue_of_nil queue, queue]
  | cons s hs e rest queue left ih =>
    rwa [faultQueue_of_cons hs queue]

/-- The replies of the queue are those its entries owe, in their order, and carry the flag of a FAULTED journal. -/
theorem faultQueue_replies : ∃ replies, (faultQueue s).tx = s.tx ++ replies ∧
    replies.map (fun r => (r.terminal, r.tag, r.result)) = s.queue.filterMap QueueEntry.faultAnswer ∧
    ∀ r ∈ replies, r.flags.journalFaulted = faulted s := by
  induction s, hs using faultQueue_induct with
  | nil s hs queue =>
    rw [faultQueue_of_nil queue, queue]
    exact ⟨[], (List.append_nil _).symm, rfl, by simp⟩
  | cons s hs e rest queue left ih =>
    obtain ⟨replies, tx, answers, flags⟩ := ih
    have owned : faulted (faultOwner e (s.setQueue rest)) = faulted s := by
      rw [faultOwner_frame (s := s.setQueue rest) hs e]
      rfl
    rw [(faultEntry_touches hs queue).faulted] at flags
    rw [left] at answers
    refine ⟨e.faultReplies (faultOwner e (s.setQueue rest)) ++ replies, ?_, ?_, ?_⟩
    · rw [faultQueue_of_cons hs queue, tx, faultEntry_tx hs queue, List.append_assoc]
    · rw [queue, List.map_append, answers, faultReplies_answers, List.filterMap_cons]
      cases e.faultAnswer <;> rfl
    · intro r mem
      rcases List.mem_append.mp mem with own | later
      · rw [faultReplies_flags own, owned]
      · exact flags r later

/-- Each terminal loses the sale that an entry of the queue ends, and keeps its lookup. -/
theorem faultQueue_sale_lookup (u : Fin 8) :
    ((faultQueue s).term u).sale = (s.term u).sale.filter (fun p => !s.queue.any (fun e => e.ends u p)) ∧
      ((faultQueue s).term u).lookup = (s.term u).lookup := by
  induction s, hs using faultQueue_induct with
  | nil s hs queue =>
    rw [faultQueue_of_nil queue, queue]
    exact ⟨(filter_of_forall (fun _ => rfl) _).symm, rfl⟩
  | cons s hs e rest queue left ih =>
    obtain ⟨sale, lookup⟩ := ih
    obtain ⟨ownSale, ownLookup⟩ := faultOwner_sale_lookup (s := s.setQueue rest) hs e u
    rw [faultQueue_of_cons hs queue, sale, lookup, left, faultEntry_term hs queue, ownSale, ownLookup, queue, Option.filter_filter]
    refine ⟨?_, rfl⟩
    show Option.filter _ (s.term u).sale = _
    congr 1
    funext p
    simp

/-- The law of the sum of set-asides is kept (R91). -/
theorem faultQueue_sum : s.setAsides = setAsideSum s → (faultQueue s).setAsides = setAsideSum (faultQueue s) := by
  induction s, hs using faultQueue_induct with
  | nil s hs queue =>
    intro sum
    rwa [faultQueue_of_nil queue]
  | cons s hs e rest queue left ih =>
    intro sum
    rw [faultQueue_of_cons hs queue]
    exact ih (faultEntry_sum hs queue sum)

/-- A timer that is settled, or is settled by an entry of the queue, is settled once the queue is answered. -/
theorem faultQueue_settled {u : Fin 8} : (IdleSettled u s ∨
      (starting s = false ∧ ∃ e ∈ s.queue, e.record.body.holder e.record.head = some u) ∨
      (s.init.isSome ∧ ∃ e ∈ s.queue, ∃ k, e.record.body = .init k)) → IdleSettled u (faultQueue s) := by
  induction s, hs using faultQueue_induct with
  | nil s hs queue =>
    rw [faultQueue_of_nil queue, queue]
    rintro (settled | ⟨-, e, mem, -⟩ | ⟨-, e, mem, -⟩)
    · exact settled
    · cases mem
    · cases mem
  | cons s hs e rest queue left ih =>
    rw [faultQueue_of_cons hs queue]
    rw [left] at ih
    rw [queue]
    rintro (settled | ⟨begun, f, mem, holder⟩ | ⟨some, f, mem, k, body⟩)
    · exact ih (.inl (faultEntry_keeps_settled hs queue settled))
    · rcases List.mem_cons.mp mem with rfl | later
      · exact ih (.inl (faultEntry_settles_of_holder hs queue begun holder))
      · exact ih (.inr (.inl ⟨faultEntry_starting hs queue begun, f, later, holder⟩))
    · obtain ⟨i, init⟩ := Option.isSome_iff_exists.mp some
      by_cases front : ∃ k, e.record.body = .init k
      · obtain ⟨k, body⟩ := front
        exact ih (.inl (faultEntry_settles_of_init hs queue body init u))
      · have kept : (faultEntry s e).init = s.init := (faultEntry_keeps_mode hs queue (.inr (not_exists.mp front))).2.1
        have later : f ∈ rest := (List.mem_cons.mp mem).resolve_left fun eq => front ⟨k, eq ▸ body⟩
        exact ih (.inr (.inr ⟨kept ▸ some, f, later, k, body⟩))

/-- Without an INIT's entry the mode, the INITIALISE and the scrubber stand; so they do with no INITIALISE in hand. -/
theorem faultQueue_keeps_mode : (s.init = none ∨ ∀ e ∈ s.queue, ∀ k, e.record.body ≠ .init k) →
    (faultQueue s).mode = s.mode ∧ (faultQueue s).init = s.init ∧ (faultQueue s).scrub = s.scrub := by
  induction s, hs using faultQueue_induct with
  | nil s hs queue => exact fun _ => by rw [faultQueue_of_nil queue]; exact ⟨rfl, rfl, rfl⟩
  | cons s hs e rest queue left ih =>
    intro quiet
    rw [queue, List.forall_mem_cons] at quiet
    rw [left] at ih
    obtain ⟨mode, init, scrub⟩ : (faultEntry s e).mode = s.mode ∧ (faultEntry s e).init = s.init ∧
        (faultEntry s e).scrub = s.scrub := faultEntry_keeps_mode hs queue (quiet.imp_right And.left)
    rw [faultQueue_of_cons hs queue, ← mode, ← init, ← scrub]
    exact ih (quiet.imp init.trans And.right)

/-- A terminal whose timer no entry has a hold on keeps its entry whole, where none is an INIT's. -/
theorem faultQueue_term {u : Fin 8} : (∀ e ∈ s.queue, ∀ k, e.record.body ≠ .init k) →
    (∀ e ∈ s.queue, e.record.body.holder e.record.head ≠ some u) → (faultQueue s).term u = s.term u := by
  induction s, hs using faultQueue_induct with
  | nil s hs queue => exact fun _ _ => by rw [faultQueue_of_nil queue]
  | cons s hs e rest queue left ih =>
    intro other free
    rw [queue, List.forall_mem_cons] at other free
    rw [left] at ih
    rw [faultQueue_of_cons hs queue, ih other.2 free.2, faultEntry_term hs queue]
    exact faultOwner_term_of_ne (s := s.setQueue rest) hs other.1 free.1

/-- An INIT's entry among the queue ends the INITIALISE in hand. -/
theorem faultQueue_init {i : InitWork} : s.init = some i → (∃ e ∈ s.queue, ∃ k, e.record.body = .init k) →
    (faultQueue s).init = none ∧
      (faultQueue s).mode = (if i.wasInService && s.sysFault.isNone then .inService else .outOfService) ∧
      (faultQueue s).scrub = { s.scrub with timer := scrubTimer s.mem.sys.settings.scrubInterval } := by
  induction s, hs using faultQueue_induct with
  | nil s hs queue =>
    rintro - ⟨e, mem, -⟩
    rw [queue] at mem
    cases mem
  | cons s hs e rest queue left ih =>
    rintro init ⟨f, mem, k, body⟩
    rw [faultQueue_of_cons hs queue]
    by_cases front : ∃ k, e.record.body = .init k
    · obtain ⟨k, body⟩ := front
      obtain ⟨ended, mode, scrub⟩ := faultEntry_init hs queue body init
      obtain ⟨laterMode, laterInit, laterScrub⟩ :=
        faultQueue_keeps_mode (faultEntry_sound hs queue) (.inl ended)
      exact ⟨laterInit.trans ended, laterMode.trans mode, laterScrub.trans scrub⟩
    · obtain ⟨mode, kept, scrub⟩ := faultEntry_keeps_mode hs queue (.inr (not_exists.mp front))
      have later : f ∈ rest := by
        rw [queue] at mem
        exact (List.mem_cons.mp mem).resolve_left fun eq => front ⟨k, eq ▸ body⟩
      have touched := faultEntry_touches hs queue
      rw [left, kept, scrub, touched.sysFault, touched.mem] at ih
      exact ih init ⟨f, later, k, body⟩

end

end Sys2Proof.Machine
end

section
/-!
SUPPORT and O42. The fault of an entry's write (R135): the mark, the cause and the queue's fault answers, and the
statement about them.
-/
namespace Sys2Proof.Machine

/-! ### The fault itself -/

/-- A fault's mark and cause, and the controller free, all else as it stands. -/
def faultMarked (w : BusWrite) (c : RingCopy) (cause : FaultCause) (s : State) : State :=
  { s with
    bus := none
    copy := some { c with mark := some { seq := w.record.head.seq, pos := w.pos } }
    mem := { s.mem with sys := { s.mem.sys with
      mark := some { seq := w.record.head.seq, pos := w.pos }, cause := cause } } }

theorem writeFault_of_sound {s : State} (hs : s.mem.ecc = []) {c : RingCopy} (copy : s.copy = some c) (w : BusWrite)
    (cause : FaultCause) : writeFault w cause s = faultQueue (faultMarked w c cause s) := by
  have marked : freeBus (markFault w.record.head.seq w.pos cause s) = faultMarked w c cause s := by
    unfold markFault setCause setMark
    dsimp only
    rw [writeItem_of_sound (by exact hs) .mark, writeItem_of_sound (by exact hs) .cause, copy]
    rfl
  unfold writeFault
  dsimp only
  rw [marked]
  rfl

section
variable {s : State} {w : BusWrite} (powered : s.powered = true) (bus : s.bus = some (.write w)) (job : w.job = .entry)
include powered bus job

theorem exec_pollLimitExpiry_fault (phase : w.phase = .programming 0 ∨ w.phase = .recovering 0) :
    exec .pollLimitExpiry s = .next (writeFault w .pollLimit s) := by
  have out : pollOut w = true := by
    unfold pollOut
    rcases phase with phase | phase <;> rw [phase] <;> rfl
  show execPollLimitExpiry s = _
  simp [execPollLimitExpiry, bus, powered, out, faultWrite, job]

theorem exec_readBackEnd_fault {got : ReadGot} (phase : w.phase = .readBack)
    (fails : readBackPasses w.record w.pos got s.device = false) :
    exec (.readBackEnd got) s = .next (writeFault w .failedReadBack s) := by
  show execReadBackEnd got s = _
  simp [execReadBackEnd, bus, powered, phase, plainJob, job, fails, faultWrite]

theorem exec_busNak_fault (phase : w.phase = .sending) (second : w.secondAttempt = true) :
    exec (.busNak .unchanged) s = .next (writeFault w .secondRefusal s) := by
  show execBusNak .unchanged s = _
  simp [execBusNak, bus, powered, phase, leavePage, second, faultWrite, job]

end

/-! ### What an entry holds and ends -/

theorem headTerminal_eq_some_iff {h : RecordHead} {u : Fin 8} : headTerminal h = some u ↔ h.terminal = u.val := by
  refine ⟨fun terminal => ?_, headTerminal_of_eq⟩
  unfold headTerminal at terminal
  split_ifs at terminal
  cases terminal
  rfl

/-- The hold that a record's entry has on an idle timer (R116). -/
theorem RecordBody.holder_eq_some_iff (h : RecordHead) (b : RecordBody) (u : Fin 8) : b.holder h = some u ↔
    match b with
    | .sale _ | .payment _ | .shiftOpen => h.terminal = u.val
    | .shiftClose c => c.target = u
    | .terminal t _ => t = u
    | _ => False := by
  cases b with
  | sale b => exact headTerminal_eq_some_iff
  | payment b => exact headTerminal_eq_some_iff
  | shiftOpen => exact headTerminal_eq_some_iff
  | shiftClose c => exact Option.some_inj
  | terminal t r => exact Option.some_inj
  | _ => exact iff_of_false nofun id

theorem QueueEntry.ends_iff (e : QueueEntry) (u : Fin 8) (p : PendingSale) : e.ends u p = true ↔
    p.state = .committing ∧ e.record.head.terminal = u.val ∧ p.journalSeq = some e.record.head.seq ∧
      ((∃ b, e.record.body = .sale b) ∨ ∃ b, e.record.body = .payment b) := by
  unfold QueueEntry.ends RecordHead.ends
  cases body : e.record.body <;> simp

/-- A settled timer, written out. -/
theorem IdleSettled.idle {u : Fin 8} {s : State} (settled : IdleSettled u s) : (s.term u).idle =
    if (s.mem.sys.terms.get u).shift = .opened then
      if idleHeld u s then .held else .running (s.mem.sys.settings.idleLimit * 60000)
    else .stopped := by
  obtain ⟨begun, idle⟩ := settled
  rw [idle, idleAfresh, begun]
  rfl

/-! ### O42 -/

/-- Settles O42: each clause by induction over the queue (`faultQueue_induct`), with the rule for one entry's answer. -/
theorem writeFaultAnswersEveryEntry : Obligations.WriteFaultAnswersEveryEntry := by
  intro s w c cmd cause hs powered bus job copy fault answers holds
  have run : exec cmd s = .next (writeFault w cause s) := by
    rcases fault with ⟨rfl, rfl, phase⟩ | ⟨got, rfl, rfl, phase, fails⟩ | ⟨rfl, rfl, phase, second⟩
    · exact exec_pollLimitExpiry_fault powered bus job phase
    · exact exec_readBackEnd_fault powered bus job phase fails
    · exact exec_busNak_fault powered bus job phase second
  have sound : (faultMarked w c cause s).mem.ecc = [] := hs
  have held (u : Fin 8) : holds u ↔ ∃ e ∈ s.queue, e.record.body.holder e.record.head = some u :=
    exists_congr fun e => and_congr_right fun _ => (e.record.body.holder_eq_some_iff e.record.head u).symm
  have ends (u : Fin 8) (p : PendingSale) : answers u p ↔ s.queue.any (fun e => e.ends u p) = true := by
    simp only [List.any_eq_true, QueueEntry.ends_iff, answers]
    exact ⟨fun ⟨committing, e, mem, rest⟩ => ⟨e, mem, committing, rest⟩,
      fun ⟨e, mem, committing, rest⟩ => ⟨committing, e, mem, rest⟩⟩
  obtain ⟨replies, tx, owed, flags⟩ := faultQueue_replies sound
  have touched := faultQueue_touches sound
  refine ⟨faultQueue (faultMarked w c cause s), replies, by rw [run, writeFault_of_sound hs copy], faultQueue_queue sound,
    touched.bus, touched.copy, touched.mem, touched.secure, touched.clock, touched.device, tx, owed, flags, ?_,
    faultQueue_sum sound, fun u => (faultQueue_sale_lookup sound u).2, ?_, ?_, ?_⟩
  · intro u p sale
    have left : ((faultQueue (faultMarked w c cause s)).term u).sale =
        if s.queue.any (fun e => e.ends u p) then none else some p := by
      rw [(faultQueue_sale_lookup sound u).1]
      show Option.filter _ (s.term u).sale = _
      rw [sale, Option.filter_some]
      show (if (!s.queue.any _) = true then _ else _) = _
      cases s.queue.any (fun e => e.ends u p) <;> rfl
    rw [left, ends]
    exact ⟨fun taken => if_pos taken, fun kept => if_neg kept⟩
  · intro u settles
    have settled : IdleSettled u (faultQueue (faultMarked w c cause s)) :=
      faultQueue_settled sound (.inr (settles.imp_left fun h => ⟨h.1, (held u).mp h.2⟩))
    have idle := settled.idle
    rw [touched.mem] at idle
    exact idle
  · intro other
    refine ⟨fun u free => faultQueue_term sound other fun e mem holder => free ((held u).mpr ⟨e, mem, holder⟩), ?_⟩
    exact faultQueue_keeps_mode sound (.inr other)
  · intro i init waiting
    exact faultQueue_init sound init waiting

end Sys2Proof.Machine
end

section
/-!
SUPPORT. The sum of set-asides and what each terminal's pending sale sets aside (R91), through every operation: only a
quote accepted, a sale's end and a discarding of the terminals' volatile parts change either, and each of them changes
both alike.
-/
namespace Sys2Proof.Machine

/-- The sum of set-asides, and what the pending sale of each terminal sets aside (R91). -/
structure Holdings where
  sum : Nat
  own : Fin 8 → Nat

/-- The sum is the total of what the terminals' sales set aside. -/
def Holdings.Agree (h : Holdings) : Prop := h.sum = (allTerminals.map h.own).sum

def State.holdings (s : State) : Holdings := { sum := s.setAsides, own := fun t => ownSetAside t s }

theorem holdings_agree_iff {s : State} : s.holdings.Agree ↔ s.setAsides = setAsideSum s := by
  rw [setAsideSum_eq]
  rfl

/-- Two states with the same sum and the same pending sales. -/
theorem holdings_eq_of_sale {s u : State} (sum : u.setAsides = s.setAsides)
    (sale : ∀ t, (u.term t).sale = (s.term t).sale) : u.holdings = s.holdings := by
  simp only [State.holdings, sum, ownSetAside_eq, sale]

/-! ### The items that hold no sale -/

theorem SameBut.holdings {s t : State} (same : SameBut s t) : t.holdings = s.holdings :=
  holdings_eq_of_sale same.setAsides fun u => by rw [State.term, same.terms, State.term]

section
variable (s : State)

@[simp] theorem State.setPowered_holdings (v : Bool) : (s.setPowered v).holdings = s.holdings := rfl
@[simp] theorem State.setMode_holdings (v : ModuleMode) : (s.setMode v).holdings = s.holdings := rfl
@[simp] theorem State.setClock_holdings (v : Clock) : (s.setClock v).holdings = s.holdings := rfl
@[simp] theorem State.setQueue_holdings (v : List QueueEntry) : (s.setQueue v).holdings = s.holdings := rfl
@[simp] theorem State.setCopy_holdings (v : Option RingCopy) : (s.setCopy v).holdings = s.holdings := rfl
@[simp] theorem State.setBus_holdings (v : Option BusOp) : (s.setBus v).holdings = s.holdings := rfl
@[simp] theorem State.setRetry_holdings (v : Option RetryWork) : (s.setRetry v).holdings = s.holdings := rfl
@[simp] theorem State.setInit_holdings (v : Option InitWork) : (s.setInit v).holdings = s.holdings := rfl
@[simp] theorem State.setScrub_holdings (v : Scrubber) : (s.setScrub v).holdings = s.holdings := rfl

end

/-! ### A terminal's volatile part -/

/-- A terminal's volatile part replaced by one whose sale sets the same aside. -/
theorem setTerm_holdings {s : State} {t : Fin 8} {w : TermWork}
    (same : (w.sale.map (·.setAside)).getD 0 = ownSetAside t s) : (s.setTerm t w).holdings = s.holdings := by
  have own (u : Fin 8) : ownSetAside u (s.setTerm t w) = ownSetAside u s := by
    by_cases h : u = t
    · subst h
      rw [ownSetAside_eq, State.setTerm_term, same]
    · rw [ownSetAside_eq, State.setTerm_term_of_ne _ _ h, ← ownSetAside_eq]
  simp only [State.holdings, own]
  rfl

/-- Every terminal's volatile part changed in ways that leave what its sale sets aside. -/
theorem mapTerms_holdings {f : TermWork → TermWork} (same : ∀ w, (f w).sale.map (·.setAside) = w.sale.map (·.setAside))
    (s : State) : (s.setTerms (s.terms.map f)).holdings = s.holdings := by
  have own (t : Fin 8) : ownSetAside t (s.setTerms (s.terms.map f)) = ownSetAside t s := by
    have part : (s.setTerms (s.terms.map f)).term t = f (s.term t) := by fin_cases t <;> rfl
    rw [ownSetAside_eq, ownSetAside_eq, part, same]
  simp only [State.holdings, own]
  rfl

section
variable (t : Fin 8) (s : State)

@[simp] theorem setIdle_holdings (v : IdleTimer) : (setIdle t v s).holdings = s.holdings :=
  setTerm_holdings (ownSetAside_eq t s).symm

@[simp] theorem setLookup_holdings (v : Option Lookup) : (setLookup t v s).holdings = s.holdings :=
  setTerm_holdings (ownSetAside_eq t s).symm

@[simp] theorem restartIdle_holdings : (restartIdle t s).holdings = s.holdings := by
  simp only [restartIdle, apply_ite State.holdings, setIdle_holdings, (touchItem_same _ _).holdings, ite_self]

@[simp] theorem holdIdle_holdings : (holdIdle t s).holdings = s.holdings := by
  unfold holdIdle
  split <;> simp

end

/-! ### The sales that are quoted, confirmed and released (R66, R69, R75) -/

section
variable {t : Fin 8} {s : State}

theorem releaseSale_agree (agree : s.holdings.Agree) : (releaseSale t s).holdings.Agree := by
  rw [holdings_agree_iff] at agree ⊢
  cases sale : (s.term t).sale with
  | none => rwa [releaseSale_of_none sale]
  | some p =>
    have own := ownSetAside_of_some sale
    have within := ownSetAside_le_sum t s
    have left := setAsideSum_setSale t none s
    rw [releaseSale_of_some sale (by omega)]
    show s.setAsides - p.setAside = setAsideSum (setSale t none s)
    simp only [Option.map_none, Option.getD_none] at left
    omega

theorem endSale_agree {h : RecordHead} (agree : s.holdings.Agree) : (endSale h s).holdings.Agree :=
  holdings_agree_iff.mpr (endSale_sum (holdings_agree_iff.mp agree))

theorem acceptQuote_agree {p : PendingSale} (agree : s.holdings.Agree) : (acceptQuote t p s).holdings.Agree := by
  rw [holdings_agree_iff] at agree ⊢
  have within := ownSetAside_le_sum t s
  have entered := setAsideSum_setSale t (some p) s
  rw [acceptQuote_eq (by omega)]
  show s.setAsides - ownSetAside t s + p.setAside = setAsideSum (setSale t (some p) s)
  simp only [Option.map_some, Option.getD_some] at entered
  omega

/-- A confirmed sale stays in its place with its set-aside. -/
theorem acceptConfirm_holdings {o : Owner} {p : PendingSale} (own : ownSetAside o.terminal s = p.setAside) :
    (acceptConfirm o p s).holdings = s.holdings := by
  unfold acceptConfirm
  rw [holdIdle_holdings]
  refine (setTerm_holdings ?_).trans (State.setQueue_holdings s _)
  exact own.symm

theorem agree_of_no_sales (terms : s.terms = .all8 .idleNone) (sum : s.setAsides = 0) : s.holdings.Agree := by
  rw [holdings_agree_iff, setAsideSum, terms, sum]
  rfl

end

end Sys2Proof.Machine
end

section
/-!
SUPPORT. What the judging of a request can change (R173, R174): every owning block that quotes, confirms and cancels no
sale leaves the pending sales, the line, the clock, the journal device and all that `Judged` does not name as they stand.
-/
namespace Sys2Proof.Machine

/-! ### What a judgement reaches -/

/-- Two states that differ at most in what a judgement which leaves the pending sales may change: what reading account
memory changes, the secure memory, the journal's queue, copy and work items, and the terminals' lookups and idle
timers. -/
structure Judged (s t : State) : Prop where
  frame : t = { s with mem := t.mem, mode := t.mode, sysFault := t.sysFault, draws := t.draws, secure := t.secure
                       queue := t.queue, copy := t.copy, terms := t.terms, reads := t.reads, retry := t.retry
                       init := t.init }
  sale : ∀ u, (t.term u).sale = (s.term u).sale

theorem Judged.refl (s : State) : Judged s s := ⟨rfl, fun _ => rfl⟩

theorem Judged.trans {s t u : State} (h : Judged s t) (k : Judged t u) : Judged s u :=
  ⟨by rw [k.frame, h.frame], fun v => (k.sale v).trans (h.sale v)⟩

theorem Judged.holdings {s t : State} (h : Judged s t) : t.holdings = s.holdings :=
  holdings_eq_of_sale (by rw [h.frame]) h.sale

theorem SameBut.judged {s t : State} (same : SameBut s t) : Judged s t := by
  refine ⟨?_, fun u => by rw [State.term, same.terms, State.term]⟩
  unfold SameBut at same
  rw [same]

theorem setIdle_judged (t : Fin 8) (v : IdleTimer) (s : State) : Judged s (setIdle t v s) :=
  ⟨rfl, fun u => setIdle_sale t u v s⟩

theorem setLookup_sale (t u : Fin 8) (v : Option Lookup) (s : State) :
    ((setLookup t v s).term u).sale = (s.term u).sale := by
  by_cases h : u = t
  · subst h
    rw [setLookup, State.setTerm_term]
  · rw [setLookup, State.setTerm_term_of_ne _ _ h]

theorem setLookup_judged (t : Fin 8) (v : Option Lookup) (s : State) : Judged s (setLookup t v s) :=
  ⟨rfl, fun u => setLookup_sale t u v s⟩

theorem restartIdle_judged (t : Fin 8) (s : State) : Judged s (restartIdle t s) := by
  have read (i : SysItem) (u : State) : Judged u (touchItem i u) := (touchItem_same i u).judged
  unfold restartIdle
  dsimp only
  split_ifs
  · exact (read _ _).trans (setIdle_judged _ _ _)
  · exact (read _ _).trans (setIdle_judged _ _ _)
  · exact ((read _ _).trans (read _ _)).trans (setIdle_judged _ _ _)
  · exact (read _ _).trans (setIdle_judged _ _ _)

theorem holdIdle_judged (t : Fin 8) (s : State) : Judged s (holdIdle t s) := by
  unfold holdIdle
  split
  · exact setIdle_judged _ _ _
  · exact .refl s

theorem searchFree_same (fuel slot : Nat) (s : State) : SameBut s (searchFree fuel slot s).2 := by
  induction fuel generalizing slot s with
  | zero => exact .refl s
  | succ fuel ih =>
    unfold searchFree
    split
    · exact ih _ s
    · split
      · exact (readSlot_same slot s).trans (ih _ _)
      · split
        · exact readSlot_same slot s
        · exact (readSlot_same slot s).trans (ih _ _)

theorem emptyIndex_same (s : State) : SameBut s (emptyIndex s) := rfl

theorem rebuildSlot_same (slot : Nat) (r : Rebuild) : SameBut r.state (rebuildSlot slot r).state := by
  have read := readSlot_same slot r.state
  unfold rebuildSlot
  split
  · exact .refl _
  · split
    · exact read
    · dsimp only
      split_ifs
      · exact read
      · exact read.trans (enterDamage_same slot _)
      · exact read.trans (SameBut.setMem _ _)

theorem rebuildFrom_same (fuel slot : Nat) (r : Rebuild) : SameBut r.state (rebuildFrom fuel slot r).state := by
  induction fuel generalizing slot r with
  | zero => exact .refl _
  | succ fuel ih => exact (rebuildSlot_same slot r).trans (ih _ _)

theorem setCopy_judged (v : Option RingCopy) (s : State) : Judged s (s.setCopy v) := ⟨rfl, fun _ => rfl⟩

theorem setSecure_judged (v : SecureMemory) (s : State) : Judged s (s.setSecure v) := ⟨rfl, fun _ => rfl⟩

theorem setReads_judged (v : List (Fin 8)) (s : State) : Judged s (s.setReads v) := ⟨rfl, fun _ => rfl⟩

theorem setRetry_judged (v : Option RetryWork) (s : State) : Judged s (s.setRetry v) := ⟨rfl, fun _ => rfl⟩

theorem queueRecord_judged (o : Owner) (head : RecordHead) (body : RecordBody) (figures : Figures) (due : Bool)
    (s : State) : Judged s (queueRecord o head body figures due s) := ⟨rfl, fun _ => rfl⟩

theorem setPointers_judged (head tail : Nat) (s : State) : Judged s (setPointers head tail s) :=
  (setCopy_judged _ s).trans (writeItem_same _ _ _).judged

theorem releaseOldest_judged (s : State) : Judged s (releaseOldest s).2 := by
  unfold releaseOldest
  repeat' split
  · exact setPointers_judged _ _ s
  · exact .refl s
  · exact .refl s

theorem acceptInit_judged (w : InitWork) (s : State) : Judged s (acceptInit w s) := by
  have idle (v : TermWork) : (stopIdle v).sale = v.sale := by
    unfold stopIdle
    split <;> rfl
  refine ⟨rfl, fun u => ?_⟩
  fin_cases u <;> exact idle _

/-! ### The steps of a judgement -/

/-- A judgement changes what `Judged` names at most, whether it goes on or refuses the request. -/
def Judge.Within {α : Type} (x : Judge α) : Prop := ∀ s, Judged s (x.leaves s)

section
variable {α β : Type}

theorem Judge.Within.bind {x : Judge α} {f : α → Judge β} (hx : x.Within) (hf : ∀ a, (f a).Within) :
    (x >>= f).Within := by
  intro s
  have first := hx s
  rw [Judge.leaves_bind]
  unfold Judge.leaves at first
  cases e : x.run s with
  | ok a t =>
    rw [e] at first
    exact first.trans (hf a t)
  | error r t =>
    rw [e] at first
    exact first

theorem within_pure (a : α) : Judge.Within (pure a) := .refl

theorem within_throw (e : ResultCode × ReplyBody) : Judge.Within (throw e : Judge α) := .refl

theorem within_get : Judge.Within get := .refl

theorem within_modify {f : State → State} (hf : ∀ s, Judged s (f s)) : Judge.Within (modify f) := hf

theorem within_read {f : State → State} (hf : ∀ s, SameBut s (f s)) : Judge.Within (modify f) := fun s => (hf s).judged

/-- The state seen is replaced by one made from it. -/
theorem within_replace {f : State → State} {g : State → Judge β} (hf : ∀ s, Judged s (f s)) (hg : ∀ s, (g s).Within) :
    (get >>= fun s => set (f s) >>= fun _ => g s).Within := fun s => (hf s).trans (hg s (f s))

theorem within_needWith (b : Bool) (r : ResultCode) (body : ReplyBody) : (needWith b r body).Within := by
  cases b
  · exact within_throw _
  · exact within_pure _

theorem within_need (b : Bool) (r : ResultCode) : (need b r).Within := within_needWith b r .empty

theorem within_check (p : State → Bool) (r : ResultCode) : (check p r).Within := within_get.bind fun _ => within_need _ _

/-- What follows a check is judged on the state that passed it. -/
theorem judged_after_need {b : Bool} {r : ResultCode} {f : Unit → Judge α} {s : State}
    (goes : Judged s ((f ()).leaves s)) : Judged s ((need b r >>= f).leaves s) := by
  rw [Judge.leaves_bind, need_run]
  cases b
  · exact .refl s
  · exact goes

theorem within_readItem (i : SysItem) : (readItem i).Within :=
  within_get.bind fun _ => (within_read (touchItem_same i)).bind fun _ => within_need _ _

theorem within_readAccount (slot : Nat) : (readAccount slot).Within := by
  refine (within_readItem _).bind fun _ => (within_check _ _).bind fun _ => within_get.bind fun _ =>
    (within_read (readSlot_same slot)).bind fun _ => ?_
  split
  · exact within_pure _
  · exact within_throw _

theorem within_lookupMeter (meter : Nat) : (lookupMeter meter).Within := by
  refine (within_read (readWords_same _)).bind fun _ => (within_check _ _).bind fun _ =>
    (within_read fun s => readWords_same _ s).bind fun _ => (within_check _ _).bind fun _ => within_get.bind fun _ => ?_
  split
  · exact within_throw _
  · split
    · exact within_pure _
    · exact (within_readAccount _).bind fun _ => within_throw _

theorem within_needAdmission : needAdmission.Within := by
  refine within_get.bind fun _ => ?_
  split
  · exact within_throw _
  · exact within_pure _

theorem within_journaled (o : Owner) (body : RecordBody) (figures : Figures) : (journaled o body figures).Within :=
  within_needAdmission.bind fun _ => (within_modify fun s => queueRecord_judged _ _ _ _ _ s).bind fun _ => within_pure _

end

/-! ### The accounts and the meter index -/

theorem within_needIndex : needIndex.Within := (within_read (readWords_same _)).bind fun _ => within_check _ _

theorem within_searchIndex (meter : Nat) : (searchIndex meter).Within :=
  (within_read fun s => readWords_same _ s).bind fun _ => within_check _ _

theorem within_needNewNumber (meter : Nat) : (needNewNumber meter).Within :=
  (within_searchIndex _).bind fun _ => (within_check _ _).bind fun _ => within_check _ _

theorem within_namedAccount (meter : Nat) : (namedAccount meter).Within :=
  (within_check _ _).bind fun _ => (within_check _ _).bind fun _ => (within_lookupMeter _).bind fun _ =>
    (within_readAccount _).bind fun _ => (within_check _ _).bind fun _ => within_pure _

theorem within_takeFreeSlot : takeFreeSlot.Within := by
  refine (within_readItem _).bind fun _ => within_replace (fun s => (searchFree_same _ _ s).judged) fun s => ?_
  split
  · exact within_pure _
  · exact within_throw _

theorem within_ownCreate (o : Owner) (a : NewAccount) : (ownCreate o a).Within :=
  (within_check _ _).bind fun _ => (within_check _ _).bind fun _ => within_needIndex.bind fun _ =>
    (within_needNewNumber _).bind fun _ => within_takeFreeSlot.bind fun _ => (within_check _ _).bind fun _ =>
      within_journaled _ _ _

theorem within_ownEdit (o : Owner) (r : Nat × AccountEdit) : (ownEdit o r).Within :=
  (within_namedAccount _).bind fun _ => within_journaled _ _ _

theorem within_ownClose (o : Owner) (meter : Nat) : (ownClose o meter).Within :=
  (within_namedAccount _).bind fun _ => (within_needWith _ _ _).bind fun _ => within_journaled _ _ _

theorem within_ownReplace (o : Owner) (r : ReplaceReq) : (ownReplace o r).Within :=
  (within_namedAccount _).bind fun _ => (within_needNewNumber _).bind fun _ => (within_check _ _).bind fun _ =>
    within_journaled _ _ _

theorem within_ownRekey (o : Owner) (meter : Nat) : (ownRekey o meter).Within :=
  (within_namedAccount _).bind fun _ => within_journaled _ _ _

theorem within_ownAccountRead (o : Owner) (n : AccountName) : (ownAccountRead o n).Within := by
  have named : (nameSlot n).Within := by
    cases n with
    | meter n => exact within_lookupMeter n
    | slot n => exact within_pure n
  refine (within_check _ _).bind fun _ => named.bind fun _ => (within_readAccount _).bind fun _ =>
    within_get.bind fun _ => ?_
  split <;> exact within_pure _

theorem within_needLoadIndex (slot meter : Nat) : (needLoadIndex slot meter).Within :=
  within_needIndex.bind fun _ => (within_searchIndex _).bind fun _ => (within_check _ _).bind fun _ =>
    (within_check _ _).bind fun _ =>
      ((within_read fun s => readWords_same _ s).bind fun _ => within_check _ _).bind fun _ => within_check _ _

theorem within_ownLoad (o : Owner) (r : LoadReq) : (ownLoad o r).Within := by
  refine (within_check _ _).bind fun _ => (within_check _ _).bind fun _ => (within_check _ _).bind fun _ =>
    (within_check _ _).bind fun _ => ?_
  dsimp only
  split
  · exact (within_needLoadIndex _ _).bind fun _ => within_journaled _ _ _
  · exact within_journaled _ _ _

theorem within_ownRebuild (o : Owner) (x : Unit) : (ownRebuild o x).Within :=
  (within_check _ _).bind fun _ => (within_readItem _).bind fun _ =>
    within_replace (fun s => ((emptyIndex_same s).trans (rebuildFrom_same _ _ _)).judged) fun _ => within_pure _

/-! ### Tariffs, keys, the clock and the settings -/

theorem within_ownTariffLoad (o : Owner) (r : TariffLoadReq) : (ownTariffLoad o r).Within := by
  refine (within_check _ _).bind fun _ => (within_check _ _).bind fun _ => ?_
  split
  · exact within_throw _
  · exact (within_readItem _).bind fun _ => within_get.bind fun _ => (within_check _ _).bind fun _ =>
      within_journaled _ _ _

theorem within_ownTariffRead (o : Owner) (pending : Bool) : (ownTariffRead o pending).Within :=
  within_get.bind fun _ => (within_read (SameBut.foldl (fun u i => touchItem_same i u) _)).bind fun _ =>
    (within_need _ _).bind fun _ => within_get.bind fun _ => (within_needWith _ _ _).bind fun _ =>
      (within_needWith _ _ _).bind fun _ => within_pure _

theorem within_ownKeyLoad (o : Owner) (r : KeyLoadReq) : (ownKeyLoad o r).Within := by
  refine (within_check _ _).bind fun _ => (within_check _ _).bind fun _ => (within_check _ _).bind fun _ =>
    (within_check _ _).bind fun _ => (within_check _ _).bind fun _ => (within_check _ _).bind fun _ =>
      within_get.bind fun _ => ?_
  split
  · exact within_throw _
  · exact within_journaled _ _ _

theorem within_ownKeyRetire (o : Owner) (r : Nat × Nat) : (ownKeyRetire o r).Within := by
  refine (within_check _ _).bind fun _ => (within_check _ _).bind fun _ => within_get.bind fun _ => ?_
  split
  · exact within_throw _
  · exact (within_check _ _).bind fun _ => within_journaled _ _ _

theorem within_ownKeyList (o : Owner) (x : Unit) : (ownKeyList o x).Within :=
  (within_check _ _).bind fun _ => within_get.bind fun _ => within_pure _

theorem within_ownTamperClear (o : Owner) (x : Unit) : (ownTamperClear o x).Within :=
  (within_check _ _).bind fun _ => (within_modify fun s => setSecure_judged _ s).bind fun _ => within_pure _

theorem within_ownClockRead (o : Owner) (x : Unit) : (ownClockRead o x).Within :=
  within_get.bind fun _ => within_pure _

theorem within_ownClockSet (o : Owner) (reading : Nat) : (ownClockSet o reading).Within :=
  (within_check _ _).bind fun _ => (within_check _ _).bind fun _ => within_get.bind fun _ =>
    (within_needWith _ _ _).bind fun _ => within_journaled _ _ _

theorem within_ownStatus (o : Owner) (x : Unit) : (ownStatus o x).Within :=
  (within_read (readWords_same _)).bind fun _ => within_get.bind fun _ => within_pure _

theorem within_ownSettingsRead (o : Owner) (x : Unit) : (ownSettingsRead o x).Within :=
  (within_readItem _).bind fun _ => within_get.bind fun _ => within_pure _

theorem within_ownSettingsSet (o : Owner) (c : SettingsChange) : (ownSettingsSet o c).Within :=
  (within_need _ _).bind fun _ => (within_check _ _).bind fun _ => within_journaled _ _ _

theorem within_ownIntegrityRead (o : Owner) (x : Unit) : (ownIntegrityRead o x).Within :=
  (within_read fun s => (((touchItem_same _ s).trans (touchItem_same _ _)).trans (touchItem_same _ _)).trans
    (readWords_same _ _)).bind fun _ => within_get.bind fun _ => within_pure _

theorem within_ownIntegrityClear (o : Owner) (x : Unit) : (ownIntegrityClear o x).Within :=
  (within_check _ _).bind fun _ => (within_readItem _).bind fun _ => (within_readItem _).bind fun _ =>
    (within_read (storeItems_same _ _)).bind fun _ => within_pure _

/-! ### Shifts, the reserve and the journal -/

theorem within_ownShiftOpen (o : Owner) (operator : Nat) : (ownShiftOpen o operator).Within := by
  refine (within_check _ _).bind fun _ => within_get.bind fun _ => ?_
  dsimp only
  split
  · exact (within_read (writeTerm_same _ _)).bind fun _ => (within_modify (restartIdle_judged _)).bind fun _ =>
      within_pure _
  · exact (within_check _ _).bind fun _ => within_needAdmission.bind fun _ =>
      (within_modify fun s => queueRecord_judged _ _ _ _ _ s).bind fun _ => within_pure _

theorem within_ownShiftClose (o : Owner) (target : Fin 8) : (ownShiftClose o target).Within :=
  (within_check _ _).bind fun _ => (within_readItem _).bind fun _ => (within_check _ _).bind fun _ =>
    (within_check _ _).bind fun _ => within_needAdmission.bind fun _ => within_get.bind fun _ =>
      (within_modify fun s => queueRecord_judged _ _ _ _ _ s).bind fun _ => (within_modify (holdIdle_judged _)).bind fun _ =>
        within_pure _

theorem within_ownShiftResume (o : Owner) (operator : Nat) : (ownShiftResume o operator).Within :=
  (within_check _ _).bind fun _ => (within_check _ _).bind fun _ => (within_read (writeTerm_same _ _)).bind fun _ =>
    (within_modify (restartIdle_judged _)).bind fun _ => within_get.bind fun _ => within_pure _

theorem within_ownShiftRead (o : Owner) (target : Fin 8) : (ownShiftRead o target).Within :=
  (within_check _ _).bind fun _ => (within_readItem _).bind fun _ => within_get.bind fun _ => within_pure _

theorem within_ownTerminalSet (o : Owner) (r : Fin 8 × Role) : (ownTerminalSet o r).Within :=
  (within_need _ _).bind fun _ => (within_check _ _).bind fun _ => (within_readItem _).bind fun _ =>
    (within_check _ _).bind fun _ => within_journaled _ _ _

theorem within_ownGrant (o : Owner) (v : Voucher) : (ownGrant o v).Within :=
  (within_check _ _).bind fun _ => (within_check _ _).bind fun _ => (within_check _ _).bind fun _ =>
    (within_check _ _).bind fun _ => (within_readItem _).bind fun _ => within_get.bind fun _ =>
      (within_needWith _ _ _).bind fun _ => (within_needWith _ _ _).bind fun _ => within_journaled _ _ _

theorem within_ownReserveRead (o : Owner) (x : Unit) : (ownReserveRead o x).Within :=
  (within_check _ _).bind fun _ => (within_readItem _).bind fun _ => (within_readItem _).bind fun _ =>
    within_get.bind fun _ => within_pure _

theorem within_ownJournalRead (o : Owner) (r : Nat × Nat) : (ownJournalRead o r).Within := by
  have info (p : State → Bool) (c : ResultCode) : (needInfo p c).Within :=
    within_get.bind fun _ => within_needWith _ _ _
  exact (within_read fun s => (touchItem_same _ s).trans (touchItem_same _ _)).bind fun _ => (info _ _).bind fun _ =>
    (info _ _).bind fun _ => (info _ _).bind fun _ => (info _ _).bind fun _ =>
      (within_modify fun s => (setLookup_judged _ _ s).trans (setReads_judged _ _)).bind fun _ => within_pure _

theorem within_ownJournalRelease (o : Owner) (m : Nat) : (ownJournalRelease o m).Within :=
  (within_check _ _).bind fun _ => (within_check _ _).bind fun _ =>
    (within_modify fun s => setPointers_judged _ _ s).bind fun _ => within_get.bind fun _ => within_pure _

theorem within_ownJournalRetry (o : Owner) (x : Unit) : (ownJournalRetry o x).Within :=
  (within_check _ _).bind fun _ => (within_check _ _).bind fun _ => (within_check _ _).bind fun _ =>
    (within_modify fun s => (setRetry_judged _ s).trans (holdIdle_judged _ _)).bind fun _ => within_pure _

theorem within_ownInitialise (o : Owner) (x : Unit) : (ownInitialise o x).Within := by
  intro s
  unfold ownInitialise
  rw [Judge.leaves_bind, judge_get]
  dsimp only
  split
  · exact judged_after_need (acceptInit_judged _ s)
  · exact judged_after_need (b := admitEntry s) (judged_after_need
      (((releaseOldest_judged s).trans (queueRecord_judged _ _ _ _ _ _)).trans (acceptInit_judged _ _)))

/-! ### REISSUE and REVERSE, and the ends of their lookups (R84 to R88) -/

theorem within_lookupAccount (t : Fin 8) (meter : Nat) : (lookupAccount t meter).Within :=
  (within_check _ _).bind fun _ => (within_check _ _).bind fun _ => (within_check _ _).bind fun _ =>
    (within_lookupMeter _).bind fun _ => (within_readAccount _).bind fun _ => within_pure _

theorem within_needLastSale (a : Account) : (needLastSale a).Within := by
  unfold needLastSale
  split
  · exact within_throw _
  · exact (within_need _ _).bind fun _ => within_pure _

theorem within_needReissue (l : LastSale) : (needReissue l).Within :=
  (within_readItem _).bind fun _ => within_check _ _

theorem startLookup_judged (o : Owner) (kind : VendKind) (slot seq : Nat) (s : State) :
    Judged s (startLookup o kind slot seq s) := (setLookup_judged _ _ s).trans (setReads_judged _ _)

theorem within_ownReissue (o : Owner) (meter : Nat) : (ownReissue o meter).Within :=
  (within_lookupAccount _ _).bind fun _ => (within_needLastSale _).bind fun _ => (within_needReissue _).bind fun _ =>
    (within_check _ _).bind fun _ => (within_check _ _).bind fun _ =>
      (within_modify (startLookup_judged _ _ _ _)).bind fun _ => within_pure _

theorem within_ownReverse (o : Owner) (meter : Nat) : (ownReverse o meter).Within :=
  (within_lookupAccount _ _).bind fun _ => (within_needLastSale _).bind fun _ =>
    ((within_readItem _).bind fun _ => within_check _ _).bind fun _ => (within_need _ _).bind fun _ =>
      (within_check _ _).bind fun _ => (within_check _ _).bind fun _ => (within_check _ _).bind fun _ =>
        (within_modify (startLookup_judged _ _ _ _)).bind fun _ => within_pure _

theorem within_queueVend (t : Fin 8) (v : VendLookup) (body : RecordBody) (figures : Figures) :
    (queueVend t v body figures).Within :=
  (within_readItem _).bind fun _ => within_needAdmission.bind fun _ =>
    (within_modify fun s => queueRecord_judged _ _ _ _ _ s).bind fun _ => within_pure _

theorem within_vendEnd (t : Fin 8) (v : VendLookup) (found : Option SaleBody) : (vendEnd t v found).Within := by
  unfold vendEnd
  split
  · exact within_throw _
  · split
    · exact (within_readAccount _).bind fun _ => (within_needLastSale _).bind fun _ => (within_needReissue _).bind fun _ =>
        (within_check _ _).bind fun _ => (within_need _ _).bind fun _ => within_queueVend _ _ _ _
    · exact (within_readAccount _).bind fun _ => (within_needLastSale _).bind fun _ => (within_need _ _).bind fun _ =>
        (within_check _ _).bind fun _ => (within_need _ _).bind fun _ => (within_need _ _).bind fun _ =>
          (within_readItem _).bind fun _ => (within_check _ _).bind fun _ => within_queueVend _ _ _ _

/-! ### The checks of a QUOTE (R68) -/

theorem within_quoteAccount (t : Fin 8) (meter : Nat) : (quoteAccount t meter).Within :=
  (within_lookupMeter _).bind fun _ => (within_readAccount _).bind fun _ => (within_need _ _).bind fun _ =>
    (within_check _ _).bind fun _ => within_pure _

theorem within_quoteBank (tariffClass : Nat) : (quoteBank tariffClass).Within := by
  refine (within_readItem _).bind fun _ => within_get.bind fun _ => ?_
  split
  · exact within_throw _
  · exact (within_need _ _).bind fun _ => within_pure _

theorem within_quotePlan (mode : SaleMode) (a : Account) : (quotePlan mode a).Within := by
  refine within_get.bind fun _ => ?_
  split
  · exact within_throw _
  · exact within_pure _

theorem within_quoteCredit (t : Fin 8) (r : QuoteReq) (a : Account) (bank : TariffBank) :
    (quoteCredit t r a bank).Within := by
  refine (within_readItem _).bind fun _ => within_get.bind fun _ => ?_
  dsimp only
  split
  · exact within_throw _
  · exact within_pure _

end Sys2Proof.Machine
end

section
/-!
SUPPORT. The law of the sum of set-asides through the requests (R91): QUOTE, CONFIRM and CANCEL move a set-aside and the
sum together, every other request leaves both, and so does the end of a lookup.
-/
namespace Sys2Proof.Machine

/-! ### Judgements from given set-asides -/

/-- From the set-asides `h` a judgement comes to a sum that agrees with the sales, whether it goes on or refuses. -/
def Judge.AgreesFrom {α : Type} (h : Holdings) (x : Judge α) : Prop :=
  ∀ s, s.holdings = h → (x.leaves s).holdings.Agree

section
variable {α β : Type} {h : Holdings}

theorem Judge.Within.agreesFrom {x : Judge α} (hx : x.Within) (agree : h.Agree) : x.AgreesFrom h :=
  fun s start => (hx s).holdings ▸ start ▸ agree

/-- What follows a judgement that leaves the pending sales starts from the same set-asides. -/
theorem Judge.Within.then {x : Judge α} {f : α → Judge β} (hx : x.Within) (agree : h.Agree)
    (hf : ∀ a, (f a).AgreesFrom h) : (x >>= f).AgreesFrom h := by
  intro s start
  have first := (hx s).holdings.trans start
  rw [Judge.leaves_bind]
  unfold Judge.leaves at first
  cases e : x.run s with
  | ok a t =>
    rw [e] at first
    exact hf a t first
  | error r t =>
    rw [e] at first
    exact first ▸ agree

/-- A change that keeps the law, and then only what leaves the pending sales. -/
theorem agreesFrom_modify {f : State → State} {g : Unit → Judge β}
    (hf : ∀ s, s.holdings = h → (f s).holdings.Agree) (hg : (g ()).Within) : (modify f >>= g).AgreesFrom h :=
  fun s start => (hg (f s)).holdings ▸ hf s start

end

/-! ### QUOTE, CONFIRM and CANCEL (R69, R73, R77) -/

section
variable {h : Holdings} (agree : h.Agree) (o : Owner)
include agree

theorem ownQuote_agrees (r : QuoteReq) : (ownQuote o r).AgreesFrom h := by
  unfold ownQuote
  refine (within_check _ _).then agree fun _ => (within_check _ _).then agree fun _ => ?_
  refine (within_check _ _).then agree fun _ => (within_quoteAccount _ _).then agree fun _ => ?_
  refine (within_quoteBank _).then agree fun _ => (within_quotePlan _ _).then agree fun _ => ?_
  refine (within_quoteCredit _ _ _ _).then agree fun _ => (within_check _ _).then agree fun _ => ?_
  refine (within_readItem _).then agree fun _ => within_get.then agree fun _ => ?_
  exact agreesFrom_modify (fun _ start => acceptQuote_agree (start ▸ agree)) (within_pure _)

/-- A sale found wanting at its confirm is released, whatever the confirm had yet to do. -/
theorem releaseRefuse_agrees {β : Type} (t : Fin 8) (r : ResultCode) (body : ReplyBody) (f : Unit → Judge β) :
    (releaseRefuse t r body >>= f).AgreesFrom h :=
  fun _ start => releaseSale_agree (start ▸ agree)

/-- A confirm either releases its sale or takes it over with its set-aside. -/
theorem ownConfirm_agrees (x : Unit) : (ownConfirm o x).AgreesFrom h := by
  intro s start
  unfold ownConfirm
  rw [Judge.leaves_bind, judge_get]
  dsimp only
  cases sale : (s.term o.terminal).sale with
  | none => exact start ▸ agree
  | some p =>
    have own : h.own o.terminal = p.setAside := start ▸ ownSetAside_of_some sale
    have accepted (u : State) (same : u.holdings = h) : (acceptConfirm o p u).holdings.Agree := by
      subst same
      rwa [acceptConfirm_holdings own]
    refine Judge.Within.then (h := h) (within_need _ _) agree (fun _ => ?_) s start
    refine (within_check _ _).then agree fun _ => (within_readItem _).then agree fun _ => within_get.then agree fun _ => ?_
    have admitted : (do needAdmission; modify (acceptConfirm o p); pure Answer.later : Judge Answer).AgreesFrom h :=
      within_needAdmission.then agree fun _ => agreesFrom_modify accepted (within_pure _)
    split
    · exact releaseRefuse_agrees agree _ _ _ _
    · refine (within_readItem _).then agree fun _ => within_get.then agree fun _ => ?_
      split
      · exact releaseRefuse_agrees agree _ _ _ _
      · exact admitted

theorem ownCancel_agrees (x : Unit) : (ownCancel o x).AgreesFrom h := by
  refine within_get.then agree fun s => ?_
  split
  · exact (within_throw _).agreesFrom agree
  · exact (within_need _ _).then agree fun _ =>
      agreesFrom_modify (fun _ start => releaseSale_agree (start ▸ agree)) (within_pure _)

end

/-! ### The dispatcher (R173, R174) -/

@[simp] theorem pushReply_holdings (k t : Byte) (tag : Tag) (r : ResultCode) (body : ReplyBody) (s : State) :
    (pushReply k t tag r body s).holdings = s.holdings := (touchForFlags_same s).holdings

theorem takeRequest_agree {α : Type} {k : Kind} {parse : List Byte → Option α} {own : Owner → α → Judge Answer}
    {s : State} (agree : s.holdings.Agree) (owner : ∀ o a, (own o a).AgreesFrom s.holdings) :
    (takeRequest k parse own s).holdings.Agree := by
  have judged (o : Owner) (body : List Byte) : (judge k parse own o body).AgreesFrom s.holdings := by
    refine within_get.then agree fun _ => within_get.then agree fun _ =>
      (within_modify (restartIdle_judged _)).then agree fun _ => (within_need _ _).then agree fun _ =>
        (within_check _ _).then agree fun _ => (within_check _ _).then agree fun _ => ?_
    split
    · exact (within_throw _).agreesFrom agree
    · exact owner _ _
  have concluded (t tag) (x : Judge Answer) (u : State) (left : (x.leaves u).holdings.Agree) :
      (conclude k.byte t tag (x.run u)).holdings.Agree := by
    unfold Judge.leaves at left
    unfold conclude
    split
    all_goals
      rename_i e
      rw [e] at left
    · rwa [pushReply_holdings]
    · exact left
    · rwa [pushReply_holdings]
  unfold takeRequest answerFrame
  split
  · exact agree
  · split
    · split
      · rwa [pushReply_holdings]
      · split
        · rwa [pushReply_holdings]
        · exact concluded _ _ _ _ (judged _ _ (takeFrame s) rfl)
    · exact agree

/-- A request whose owning block leaves the pending sales. -/
theorem takeRequest_agree_of_within {α : Type} {k : Kind} {parse : List Byte → Option α}
    {own : Owner → α → Judge Answer} (owner : ∀ o a, (own o a).Within) {s : State} (agree : s.holdings.Agree) :
    (takeRequest k parse own s).holdings.Agree :=
  takeRequest_agree agree fun o a => (owner o a).agreesFrom agree

end Sys2Proof.Machine
end

section
/-!
SUPPORT. The sum of set-asides through the journal, the completions and faults of records, start-up and the ticks (R82,
R91, R135, R180): a vend record ends its sale, an INIT record and a supply reset discard every sale with the sum, and no
other operation reaches either.
-/
namespace Sys2Proof.Machine

/-! ### Replies, the index and the journal's pointers -/

section
variable (s : State)

@[simp] theorem replyIf_holdings (due : Bool) (k : Byte) (t : Fin 8) (tag : Tag) (r : ResultCode) (body : ReplyBody) :
    (replyIf due k t tag r body s).holdings = s.holdings := by
  cases due
  · rfl
  · exact pushReply_holdings _ _ _ _ _ s

theorem foldl_holdings {α : Type} {f : State → α → State} (same : ∀ u a, (f u a).holdings = u.holdings) (l : List α) :
    (l.foldl f s).holdings = s.holdings := by
  induction l generalizing s with
  | nil => rfl
  | cons a l ih => rw [List.foldl_cons, ih, same]

@[simp] theorem touchItem_holdings (i : SysItem) : (touchItem i s).holdings = s.holdings := (touchItem_same i s).holdings

@[simp] theorem readWords_holdings (p : Nat → Bool) : (readWords p s).holdings = s.holdings :=
  (readWords_same p s).holdings

@[simp] theorem writeItem_holdings (i : SysItem) (f : SystemArea → SystemArea) :
    (writeItem i f s).holdings = s.holdings := (writeItem_same i f s).holdings

@[simp] theorem writeItems_holdings (is : List SysItem) (f : SystemArea → SystemArea) :
    (writeItems is f s).holdings = s.holdings := (writeItems_same is f s).holdings

@[simp] theorem setPointers_holdings (head tail : Nat) : (setPointers head tail s).holdings = s.holdings :=
  (setPointers_judged head tail s).holdings

@[simp] theorem releaseOldest_holdings : (releaseOldest s).2.holdings = s.holdings := (releaseOldest_judged s).holdings

@[simp] theorem raiseHead_holdings : (raiseHead s).holdings = s.holdings := by
  unfold raiseHead
  split <;> simp

@[simp] theorem setMark_holdings (m : Option FaultMark) : (setMark m s).holdings = s.holdings := writeItem_holdings _ _ _

@[simp] theorem closeMark_holdings : (closeMark s).holdings = s.holdings := by simp [closeMark]

@[simp] theorem markFault_holdings (seq pos : Nat) (cause : FaultCause) :
    (markFault seq pos cause s).holdings = s.holdings := by
  simp [markFault, setCause]

@[simp] theorem leavePage_holdings (pos : Nat) (r : Record) (left : PageLeft) :
    (leavePage pos r left s).holdings = s.holdings := by
  cases left <;> rfl

@[simp] theorem freeBus_holdings : (freeBus s).holdings = s.holdings := rfl

@[simp] theorem beginWrite_holdings (job : WriteJob) (r : Record) (pos : Nat) :
    (beginWrite job r pos s).holdings = s.holdings := rfl

@[simp] theorem setPhase_holdings (w : BusWrite) (p : WritePhase) : (setPhase w p s).holdings = s.holdings := rfl

/-! ### The tariff alarm, and the end of start-up or of an INITIALISE -/

@[simp] theorem alarmFromMemory_holdings : (alarmFromMemory s).holdings = s.holdings := by
  unfold alarmFromMemory alarmFromPending setAlarm
  dsimp only
  repeat' split
  all_goals simp

@[simp] theorem takeTariffEffective_holdings : (takeTariffEffective s).holdings = s.holdings := by
  simp only [takeTariffEffective, apply_ite State.holdings, State.setClock_holdings, writeItems_holdings,
    touchItem_holdings, ite_self]

@[simp] theorem endStartUp_holdings : (endStartUp s).holdings = s.holdings := by simp [endStartUp]

@[simp] theorem returnFromInit_holdings : (returnFromInit s).holdings = s.holdings := by
  unfold returnFromInit
  split
  · rfl
  · simp [foldl_holdings]

@[simp] theorem abandonInit_holdings (i : InitWork) (r : ResultCode) : (abandonInit i r s).holdings = s.holdings := by
  simp [abandonInit, answerInit]

@[simp] theorem endRetry_holdings (w : RetryWork) (r : ResultCode) (body : ReplyBody) :
    (endRetry w r body s).holdings = s.holdings := by
  simp [endRetry]

@[simp] theorem endJournalRead_holdings (t : Fin 8) (w : JournalReadWork) (r : ResultCode) (reads : List PositionView) :
    (endJournalRead t w r reads s).holdings = s.holdings := by
  simp [endJournalRead, touchInfo]

@[simp] theorem endLookup_holdings (t : Fin 8) (v : VendLookup) (found : Option SaleBody) :
    (endLookup t v found s).holdings = s.holdings := by
  have left := (within_vendEnd t v found (setLookup t none s)).holdings
  unfold Judge.leaves at left
  unfold endLookup concludeVend
  split <;> (rename_i e; rw [e] at left; simpa using left)

/-! ### The effects of a record (R121) -/

theorem applyAccount_same (slot : Nat) (h : RecordHead) (f : Account → Account) :
    SameBut s (applyAccount slot h f s).2 := by
  have listed := touchItem_same .damageList s
  have read := listed.trans (readSlot_same slot _)
  unfold applyAccount
  dsimp only
  split_ifs
  · exact listed
  · split
    · exact read
    · split_ifs
      · exact read.trans (writeSlot_same _ _ _)
      · exact read

theorem changeIndex_same (f : SMap IndexEntry → SMap IndexEntry) : SameBut s (changeIndex f s) := by
  unfold changeIndex
  dsimp only
  split_ifs
  · exact readWords_same _ s
  · exact (readWords_same _ s).trans ((freshWords_same _ _).trans (SameBut.setMem _ _))

theorem applyLoad_same (slot : Nat) (image : Account) (h : RecordHead) : SameBut s (applyLoad slot image h s).2 := by
  have read := (touchItem_same .damageList s).trans (readSlot_same slot _)
  unfold applyLoad
  dsimp only
  split_ifs
  · exact ((read.trans (writeSlot_same _ _ _)).trans (writeItem_same _ _ _)).trans (changeIndex_same _ _)
  · exact read

theorem indexWhen_same (r : Reached × State) (f : SMap IndexEntry → SMap IndexEntry) : SameBut r.2 (indexWhen r f) := by
  unfold indexWhen
  split
  · exact changeIndex_same _ _
  · exact .refl _

theorem applyAccountRecord_same (h : RecordHead) (a : AccountRecord) : SameBut s (applyAccountRecord h a s).2 := by
  cases a with
  | create slot n => exact (applyAccount_same s slot h _).trans (indexWhen_same _ _)
  | edit slot _ e => exact applyAccount_same s slot h _
  | close slot _ => exact (applyAccount_same s slot h _).trans (indexWhen_same _ _)
  | replace slot old meter area gen => exact (applyAccount_same s slot h _).trans (indexWhen_same _ _)
  | load slot image => exact applyLoad_same s slot image h
  | rekey slot _ => exact applyAccount_same s slot h _

theorem debtAfter_same (slot : Nat) (r : Reached) : SameBut s (debtAfter slot r s).2 := by
  cases r <;> rfl

theorem applyTariff_holdings (h : RecordHead) (b : TariffBank) (effective : Nat) :
    (applyTariff h b effective s).2.holdings = s.holdings := by
  unfold applyTariff installBank
  dsimp only
  split_ifs <;> simp

theorem applySettings_holdings (h : RecordHead) (c : SettingsChange) : (applySettings h c s).holdings = s.holdings := by
  have stored (u : State) (f : SystemArea → SystemArea) : (storeItems [.settings] f u).holdings = u.holdings := rfl
  unfold applySettings restartScrub
  dsimp only
  repeat' split
  all_goals simp [stored]

end

section
variable {s : State} (agree : s.holdings.Agree)
include agree

/-- A SALE or PAYMENT ends its sale once its other effects are taken (R80, R81). -/
theorem endSale_agree_of_same {u : State} (same : SameBut s u) (h : RecordHead) : (endSale h u).holdings.Agree :=
  endSale_agree (same.holdings ▸ agree)

theorem applyInit_agree (h : RecordHead) : (applyInit h s).2.holdings.Agree := by
  unfold applyInit
  dsimp only
  split
  · rw [State.setInit_holdings, endStartUp_holdings]
    exact agree_of_no_sales rfl rfl
  · rwa [returnFromInit_holdings, touchItem_holdings]

theorem applyRecord_agree (inService : Bool) (figures : Figures) (r : Record) :
    (applyRecord inService figures r s).2.holdings.Agree := by
  have kept {u : State} (same : u.holdings = s.holdings) : u.holdings.Agree := same ▸ agree
  obtain ⟨h, body⟩ := r
  cases body with
  | init _ => exact applyInit_agree agree h
  | sale b =>
    exact endSale_agree_of_same agree (((applyAccount_same s _ h _).trans (applyReserve_same _ _ _)).trans
      (applyTotals_same h _ _)) h
  | payment b => exact endSale_agree_of_same agree ((applyAccount_same s _ h _).trans (applyTotals_same h _ _)) h
  | reissue slot _ link => exact kept ((applyAccount_same s _ h _).trans (applyTotals_same h _ _)).holdings
  | reversal b =>
    exact kept ((((applyAccount_same s _ h _).trans (debtAfter_same _ _ _)).trans (applyReserve_same _ _ _)).trans
      (applyTotals_same h _ _)).holdings
  | grant v => exact kept (applyReserve_same _ _ s).holdings
  | shiftOpen =>
    refine kept ?_
    simp only [applyRecord, applyShiftOpen]
    split
    · rfl
    · exact (writeTerm_same _ _ s).holdings
  | shiftClose b => exact kept (writeTerm_same _ _ s).holdings
  | terminal t role => exact kept (writeTerm_same _ _ s).holdings
  | account a => exact kept (applyAccountRecord_same s h a).holdings
  | key k =>
    refine kept ?_
    simp only [applyRecord, applyKey]
    split <;> rfl
  | clock new =>
    refine kept ?_
    simp only [applyRecord, applyClock]
    split <;> rfl
  | tariff b effective => exact kept (applyTariff_holdings s h b effective)
  | settings c => exact kept (applySettings_holdings s h c)
  | void _ => exact agree
  | other _ => exact agree

end

/-! ### Completions and fault answers (R134, R135) -/

section
variable (s : State)

@[simp] theorem endHold_holdings (r : Record) : (endHold r s).holdings = s.holdings := by
  unfold endHold
  split <;> simp

@[simp] theorem answerEntry_holdings (e : QueueEntry) (spoken : Spoken) :
    (answerEntry e spoken s).holdings = s.holdings := by
  unfold answerEntry
  split <;> simp

end

section
variable {s : State} (agree : s.holdings.Agree)
include agree

theorem completeEntry_agree (e : QueueEntry) : (completeEntry e s).holdings.Agree := by
  have applied := applyRecord_agree (s := raiseHead s) (by rwa [raiseHead_holdings]) true e.figures e.record
  simpa [completeEntry] using applied

theorem writeDone_agree (w : BusWrite) : (writeDone w s).holdings.Agree := by
  unfold writeDone
  repeat' split
  · exact completeEntry_agree agree _
  · exact agree
  · have applied := applyInit_agree (s := raiseHead s) (by rwa [raiseHead_holdings]) w.record.head
    simpa [completeInit, answerInit] using applied
  · exact agree
  · simpa using agree
  · exact agree
  · exact agree

theorem faultEntry_agree (e : QueueEntry) : (faultEntry s e).holdings.Agree := by
  unfold faultEntry faultOwner
  rw [answerEntry_holdings]
  split
  · rw [endHold_holdings]
    exact endSale_agree agree
  · rw [endHold_holdings]
    exact endSale_agree agree
  · rwa [returnFromInit_holdings]
  · rwa [endHold_holdings]

theorem writeFault_agree (w : BusWrite) (cause : FaultCause) : (writeFault w cause s).holdings.Agree := by
  have marked : (freeBus (markFault w.record.head.seq w.pos cause s)).holdings.Agree := by simpa using agree
  unfold writeFault
  exact List.foldlRecOn (motive := fun u => u.holdings.Agree) _ faultEntry marked fun u held e _ =>
    faultEntry_agree held e

theorem faultWrite_agree (w : BusWrite) (cause : FaultCause) : (faultWrite w cause s).holdings.Agree := by
  unfold faultWrite
  repeat' split
  · exact writeFault_agree agree w cause
  all_goals simpa [faultInit] using agree

end

/-! ### Start-up and the supply reset (R180 to R183) -/

section
variable (s : State)

@[simp] theorem scanOn_holdings : (scanOn s).holdings = s.holdings := by
  unfold scanOn
  split <;> rfl

@[simp] theorem cutWrite_holdings (left : PageLeft) : (cutWrite left s).holdings = s.holdings := by
  unfold cutWrite
  repeat' split
  all_goals simp

theorem startJournal_holdings : (startJournal s).holdings = s.holdings := by
  unfold startJournal
  repeat' split
  · exact endStartUp_holdings s
  · rfl
  · rfl

theorem startUp_holdings : (startUp s).holdings = s.holdings := by
  have suspended (u : State) (t : Fin 8) : (suspendOpen u t).holdings = u.holdings := by
    unfold suspendOpen
    split <;> rfl
  unfold startUp
  dsimp only
  split
  · rw [startJournal_holdings, foldl_holdings _ suspended]
    exact readWords_holdings _ _
  · exact readWords_holdings _ _

theorem supplyReset_agree (r : ResetInputs) : (supplyReset r s).holdings.Agree := by
  have dark : (resetVolatile r.strap (cutWrite r.left s)).holdings.Agree := agree_of_no_sales rfl rfl
  unfold supplyReset
  dsimp only
  rw [startUp_holdings, (disturb_same _ _).holdings]
  split
  · exact dark
  · exact dark

/-! ### Ticks and the scrubber (R150, R159) -/

@[simp] theorem countTick_holdings : (countTick s).holdings = s.holdings := by
  refine mapTerms_holdings (fun w => ?_) s
  simp only [tickTerm, Option.map_map]
  rfl

@[simp] theorem secondStep_holdings (d : Disturbance) : (secondStep d s).holdings = s.holdings := by
  unfold secondStep
  dsimp only
  split
  · rw [countTick_holdings]
    rfl
  · rfl

theorem tick_holdings : (tick s).holdings = s.holdings := by
  unfold tick
  repeat' split
  · exact secondStep_holdings s _
  · rw [countTick_holdings]
    rfl
  · rfl

@[simp] theorem scrubWord_holdings : (scrubWord s).holdings = s.holdings := by
  simp only [scrubWord, apply_ite State.holdings, readWords_holdings, touchItem_holdings, ite_self]

theorem silenceWork_holdings : (silenceWork s).holdings = s.holdings :=
  mapTerms_holdings (f := fun w => { w with lookup := w.lookup.map Lookup.silence }) (fun _ => rfl) s

/-! ### The arbiter (R132) -/

theorem grantRead_holdings (t : Fin 8) : (grantRead t s).holdings = s.holdings := by
  unfold grantRead
  repeat' split
  all_goals simp

theorem grantRetry_holdings (w : RetryWork) (probeAck : Bool) : (grantRetry w probeAck s).holdings = s.holdings := by
  unfold grantRetry
  repeat' split
  all_goals simp

theorem grantInit_holdings (i : InitWork) (reads : SMap ReadGot) : (grantInit i reads s).holdings = s.holdings := by
  unfold grantInit grantInitAt
  dsimp only
  repeat' split
  all_goals simp

theorem grant_holdings (probeAck : Bool) (reads : SMap ReadGot) : (grant probeAck reads s).holdings = s.holdings := by
  have behind : (grantBehind probeAck reads s).holdings = s.holdings := by
    unfold grantBehind
    repeat' split
    · exact grantRetry_holdings s _ _
    · exact grantInit_holdings s _ _
    · rfl
    · exact grantRead_holdings (s.setReads _) _
    · rfl
  unfold grant
  repeat' split
  · rfl
  · exact behind
  · exact behind

end

/-! ### Every command -/

section
variable {s : State} (agree : s.holdings.Agree)
include agree

/-- A record rolled forward takes its effects, and start-up goes on (R183). -/
theorem scanOn_rollForward_agree (r : Record) : (scanOn (rollForward r s)).holdings.Agree := by
  rw [scanOn_holdings]
  exact applyRecord_agree agree _ _ r

theorem lastRecordRead_agree (again : Bool) (p : PageRead) : (lastRecordRead again p s).holdings.Agree := by
  unfold lastRecordRead
  repeat' split
  · exact scanOn_rollForward_agree agree _
  all_goals simpa using agree

theorem headRead_agree (again : Bool) (c : RingCopy) (p : PageRead) : (headRead again c p s).holdings.Agree := by
  unfold headRead
  repeat' split
  · exact scanOn_rollForward_agree (by rwa [raiseHead_holdings]) _
  all_goals simpa using agree

theorem exec_agree (c : Instr) : ∃ u, exec c s = .next u ∧ u.holdings.Agree := by
  cases c with
  | quote => exact ⟨_, rfl, takeRequest_agree agree (ownQuote_agrees agree)⟩
  | confirm => exact ⟨_, rfl, takeRequest_agree agree (ownConfirm_agrees agree)⟩
  | cancel => exact ⟨_, rfl, takeRequest_agree agree (ownCancel_agrees agree)⟩
  | status => exact ⟨_, rfl, takeRequest_agree_of_within within_ownStatus agree⟩
  | clockRead => exact ⟨_, rfl, takeRequest_agree_of_within within_ownClockRead agree⟩
  | clockSet => exact ⟨_, rfl, takeRequest_agree_of_within within_ownClockSet agree⟩
  | shiftOpen => exact ⟨_, rfl, takeRequest_agree_of_within within_ownShiftOpen agree⟩
  | shiftClose => exact ⟨_, rfl, takeRequest_agree_of_within within_ownShiftClose agree⟩
  | shiftResume => exact ⟨_, rfl, takeRequest_agree_of_within within_ownShiftResume agree⟩
  | shiftRead => exact ⟨_, rfl, takeRequest_agree_of_within within_ownShiftRead agree⟩
  | terminalSet => exact ⟨_, rfl, takeRequest_agree_of_within within_ownTerminalSet agree⟩
  | reissue => exact ⟨_, rfl, takeRequest_agree_of_within within_ownReissue agree⟩
  | reverse => exact ⟨_, rfl, takeRequest_agree_of_within within_ownReverse agree⟩
  | accountCreate => exact ⟨_, rfl, takeRequest_agree_of_within within_ownCreate agree⟩
  | accountEdit => exact ⟨_, rfl, takeRequest_agree_of_within within_ownEdit agree⟩
  | accountRead => exact ⟨_, rfl, takeRequest_agree_of_within within_ownAccountRead agree⟩
  | accountClose => exact ⟨_, rfl, takeRequest_agree_of_within within_ownClose agree⟩
  | meterReplace => exact ⟨_, rfl, takeRequest_agree_of_within within_ownReplace agree⟩
  | accountLoad => exact ⟨_, rfl, takeRequest_agree_of_within within_ownLoad agree⟩
  | rekey => exact ⟨_, rfl, takeRequest_agree_of_within within_ownRekey agree⟩
  | indexRebuild => exact ⟨_, rfl, takeRequest_agree_of_within within_ownRebuild agree⟩
  | keyLoad => exact ⟨_, rfl, takeRequest_agree_of_within within_ownKeyLoad agree⟩
  | keyRetire => exact ⟨_, rfl, takeRequest_agree_of_within within_ownKeyRetire agree⟩
  | keyList => exact ⟨_, rfl, takeRequest_agree_of_within within_ownKeyList agree⟩
  | tariffLoad => exact ⟨_, rfl, takeRequest_agree_of_within within_ownTariffLoad agree⟩
  | tariffRead => exact ⟨_, rfl, takeRequest_agree_of_within within_ownTariffRead agree⟩
  | grant => exact ⟨_, rfl, takeRequest_agree_of_within within_ownGrant agree⟩
  | reserveRead => exact ⟨_, rfl, takeRequest_agree_of_within within_ownReserveRead agree⟩
  | journalRead => exact ⟨_, rfl, takeRequest_agree_of_within within_ownJournalRead agree⟩
  | journalRelease => exact ⟨_, rfl, takeRequest_agree_of_within within_ownJournalRelease agree⟩
  | journalRetry => exact ⟨_, rfl, takeRequest_agree_of_within within_ownJournalRetry agree⟩
  | integrityRead => exact ⟨_, rfl, takeRequest_agree_of_within within_ownIntegrityRead agree⟩
  | integrityClear => exact ⟨_, rfl, takeRequest_agree_of_within within_ownIntegrityClear agree⟩
  | settingsSet => exact ⟨_, rfl, takeRequest_agree_of_within within_ownSettingsSet agree⟩
  | settingsRead => exact ⟨_, rfl, takeRequest_agree_of_within within_ownSettingsRead agree⟩
  | tamperClear => exact ⟨_, rfl, takeRequest_agree_of_within within_ownTamperClear agree⟩
  | initialise => exact ⟨_, rfl, takeRequest_agree_of_within within_ownInitialise agree⟩
  | unknownRequest =>
    refine ⟨_, rfl, ?_⟩
    repeat' split
    · exact agree
    · rwa [pushReply_holdings]
    · exact agree
  | frameArrival | framingError | gapTimerExpiry | replySent | characterReceived _ | lineEntersSpacing
  | lineReturnsToMarking =>
    refine ⟨_, rfl, ?_⟩
    split <;> exact agree
  | linkReset =>
    refine ⟨_, rfl, ?_⟩
    split
    · rwa [silenceWork_holdings]
    · exact agree
  | secondStep d => exact ⟨_, rfl, by rwa [secondStep_holdings]⟩
  | saleTimerExpiry t =>
    refine ⟨_, rfl, ?_⟩
    split
    · exact releaseSale_agree agree
    · exact agree
  | idleExpiry t =>
    refine ⟨_, rfl, ?_⟩
    have suspended : (suspendShift t s).holdings.Agree := (writeTerm_same t _ s).holdings ▸ agree
    split
    · rw [setIdle_holdings]
      unfold releaseQuoted
      split
      · exact releaseSale_agree suspended
      · exact suspended
    · exact agree
  | tariffEffective | scrubEvent =>
    refine ⟨_, rfl, ?_⟩
    split
    · simpa using agree
    · exact agree
  | arbiterGrant probeAck reads =>
    refine ⟨_, rfl, ?_⟩
    split
    · rwa [grant_holdings]
    · exact agree
  | busNak left =>
    refine ⟨_, rfl, ?_⟩
    dsimp only
    repeat' split
    · exact faultWrite_agree (by rwa [leavePage_holdings]) _ _
    all_goals simpa using agree
  | pollLimitExpiry =>
    refine ⟨_, rfl, ?_⟩
    repeat' split
    · exact faultWrite_agree agree _ _
    all_goals exact agree
  | readBackEnd got =>
    refine ⟨_, rfl, ?_⟩
    repeat' split
    · exact writeDone_agree agree _
    · exact faultWrite_agree agree _ _
    · exact agree
    · exact agree
  | pollAck | writeStop _ | retryVoidEnd _ | journalLookupEnd _ | journalReadEnd _ =>
    refine ⟨_, rfl, ?_⟩
    repeat' split
    all_goals simpa using agree
  | startUpVoidEnd got =>
    refine ⟨_, rfl, ?_⟩
    unfold beginScan
    repeat' split
    all_goals simpa using agree
  | rollForwardRead got =>
    refine ⟨_, rfl, ?_⟩
    repeat' split
    · exact lastRecordRead_agree agree _ _
    · exact agree
    · exact headRead_agree agree _ _ _
    · exact agree
    · exact agree
  | memoryLossInit reads =>
    refine ⟨_, rfl, ?_⟩
    repeat' split
    · simpa [journalSpent] using agree
    · exact agree
    · exact agree
  | supplyLoss left =>
    refine ⟨_, rfl, ?_⟩
    split
    · simpa using agree
    · exact agree
  | supplyReset r => exact ⟨_, rfl, supplyReset_agree s r⟩
  | tamperSwitchOpening r =>
    refine ⟨_, rfl, ?_⟩
    dsimp only
    repeat' split
    · exact agree
    · exact supplyReset_agree _ r
    · exact agree
  | enclosureSwitchClosing => exact ⟨_, rfl, agree⟩

end

/-- Settles O6: a tick leaves the set-asides, and every command keeps their law. -/
theorem stepKeepsSetAsideSum : Obligations.StepKeepsSetAsideSum := by
  intro s t sum next
  rw [← holdings_agree_iff] at sum ⊢
  unfold step at next
  cases queue : s.pending with
  | nil =>
    rw [queue] at next
    cases next
    rwa [tick_holdings]
  | cons c rest =>
    rw [queue] at next
    obtain ⟨u, run, agree⟩ := exec_agree (s := s.setPending rest) sum c
    cases run.symm.trans next
    exact agree

end Sys2Proof.Machine
end

section
/-!
SUPPORT. The law of the reserve (R92) through the effects of every record, with no word of account memory disturbed: a
SALE, a REVERSAL and a GRANT write the reserve under its guard, an INIT record writes it afresh, and no other record
reaches it.
-/
namespace Sys2Proof.Machine

/-! ### The reserve record under its guard (R92) -/

/-- The reserve record once a record of a sequence has taken its effect, `f`, under the guard. -/
def ReserveRecord.after (seq : Nat) (f : ReserveRecord → ReserveRecord) (r : ReserveRecord) : ReserveRecord :=
  if r.lastApplied < seq then { f r with lastApplied := seq } else r

theorem applyReserve_after {s : State} (hs : s.mem.ecc = []) (seq : Nat) (f : ReserveRecord → ReserveRecord) :
    applyReserve seq f s = s.setSys { s.mem.sys with reserve := s.mem.sys.reserve.after seq f } :=
  applyReserve_of_sound hs seq f

section
variable {r : ReserveRecord} {n : Nat} (balanced : r.balanced)
include balanced

theorem ReserveRecord.balanced.after_balanced {f : ReserveRecord → ReserveRecord} (effect : (f r).balanced) (seq : Nat) :
    (r.after seq f).balanced := by
  unfold ReserveRecord.after
  split_ifs
  · exact effect
  · exact balanced

theorem debit_balanced (within : n ≤ r.balance) : (debit n r).balanced := by
  unfold ReserveRecord.balanced debit at *
  simp only [dropBy_of_le within]
  omega

theorem creditBack_balanced (within : n ≤ r.totalIssued) : (creditBack n r).balanced := by
  unfold ReserveRecord.balanced creditBack at *
  simp only [dropBy_of_le within]
  omega

theorem addGrant_balanced (v : Voucher) : (addGrant v r).balanced := by
  unfold ReserveRecord.balanced addGrant at *
  simp only
  omega

end

/-! ### What leaves the reserve record -/

/-- No word is disturbed after an operation, and the reserve record stands as it did before. -/
structure ReserveStands (s u : State) : Prop where
  sound : u.mem.ecc = []
  reserve : u.mem.sys.reserve = s.mem.sys.reserve

theorem ReserveStands.trans {s u v : State} (h : ReserveStands s u) (k : ReserveStands u v) : ReserveStands s v :=
  ⟨k.sound, k.reserve.trans h.reserve⟩

/-- An operation that leaves account memory. -/
theorem ReserveStands.of_mem {s u : State} (hs : s.mem.ecc = []) (mem : u.mem = s.mem) : ReserveStands s u :=
  ⟨by rw [mem, hs], by rw [mem]⟩

theorem changeIndex_stands {s : State} (hs : s.mem.ecc = []) (f : SMap IndexEntry → SMap IndexEntry) :
    ReserveStands s (changeIndex f s) := by
  rw [changeIndex_of_sound hs]
  exact ⟨hs, rfl⟩

theorem indexWhen_stands {r : Reached × State} (hr : r.2.mem.ecc = []) (f : SMap IndexEntry → SMap IndexEntry) :
    ReserveStands r.2 (indexWhen r f) := by
  unfold indexWhen
  split
  · exact changeIndex_stands hr f
  · exact .of_mem hr rfl

section
variable {s : State} (hs : s.mem.ecc = [])
include hs

theorem applyAccount_stands (slot : Nat) (h : RecordHead) (f : Account → Account) :
    ReserveStands s (applyAccount slot h f s).2 := by
  obtain ⟨frame, sound, -⟩ := applyAccount_leaves hs slot h f
  exact ⟨sound, by rw [frame]; rfl⟩

theorem applyTotals_stands (h : RecordHead) (f : ShiftTotals → ShiftTotals) : ReserveStands s (applyTotals h f s) := by
  obtain ⟨frame, sound, -⟩ := applyTotals_leaves hs h f
  exact ⟨sound, by rw [frame]; rfl⟩

theorem applyTerm_stands (t : Fin 8) (seq : Nat) (f : TermEntry → TermEntry) : ReserveStands s (applyTerm t seq f s) := by
  obtain ⟨frame, sound, -⟩ := applyTerm_leaves hs t seq f
  exact ⟨sound, by rw [frame]; rfl⟩

theorem endSale_stands (h : RecordHead) : ReserveStands s (endSale h s) := .of_mem hs (endSale_leaves h s).1

theorem debtAfter_stands (slot : Nat) (r : Reached) : ReserveStands s (debtAfter slot r s).2 := by
  cases r <;> exact .of_mem hs rfl

theorem applyLoad_stands (slot : Nat) (image : Account) (h : RecordHead) :
    ReserveStands s (applyLoad slot image h s).2 := by
  rw [applyLoad_of_sound hs]
  dsimp only
  split
  · rw [leaveDamage_of_sound (by exact hs), changeIndex_of_sound (by exact hs)]
    exact ⟨hs, rfl⟩
  · exact .of_mem hs rfl

theorem applyAccountRecord_stands (h : RecordHead) (a : AccountRecord) :
    ReserveStands s (applyAccountRecord h a s).2 := by
  have written (slot : Nat) (f : Account → Account) (g : SMap IndexEntry → SMap IndexEntry) :
      ReserveStands s (indexWhen (applyAccount slot h f s) g) :=
    (applyAccount_stands hs slot h f).trans (indexWhen_stands (applyAccount_stands hs slot h f).sound g)
  cases a with
  | create slot n => exact written slot _ _
  | edit slot _ e => exact applyAccount_stands hs slot h _
  | close slot _ => exact written slot _ _
  | replace slot old meter area gen => exact written slot _ _
  | load slot image => exact applyLoad_stands hs slot image h
  | rekey slot _ => exact applyAccount_stands hs slot h _

theorem applyTariff_stands (h : RecordHead) (b : TariffBank) (effective : Nat) :
    ReserveStands s (applyTariff h b effective s).2 := by
  simp only [applyTariff, touchItem_of_sound hs, itemBad_of_sound hs, Bool.false_eq_true, if_false]
  split
  · have mem := installBank_mem hs h.seq b effective
    exact ⟨by rw [mem]; exact hs, by rw [mem]⟩
  · exact .of_mem hs rfl

theorem applySettings_stands (h : RecordHead) (c : SettingsChange) : ReserveStands s (applySettings h c s) := by
  have scrub (u : State) : (restartScrub c u).mem = u.mem := by
    unfold restartScrub
    repeat' split
    all_goals rfl
  simp only [applySettings, touchItem_of_sound hs, itemBad_of_sound hs, storeItems_of_sound hs, Bool.false_eq_true,
    if_false]
  split
  · exact ⟨by rw [scrub]; exact hs, by rw [scrub]; rfl⟩
  · exact .of_mem hs rfl

theorem applyShiftOpen_stands (inService : Bool) (h : RecordHead) : ReserveStands s (applyShiftOpen inService h s).2 := by
  unfold applyShiftOpen
  split
  · exact .of_mem hs rfl
  · dsimp only
    exact applyTerm_stands hs _ _ _

/-- A record that is no SALE, REVERSAL, GRANT or INIT reaches no reserve record. -/
theorem applyRecord_stands (inService : Bool) (figures : Figures) {r : Record} (sale : ∀ b, r.body ≠ .sale b)
    (reversal : ∀ b, r.body ≠ .reversal b) (grant : ∀ v, r.body ≠ .grant v) (init : ∀ k, r.body ≠ .init k) :
    ReserveStands s (applyRecord inService figures r s).2 := by
  obtain ⟨h, body⟩ := r
  cases body with
  | init k => exact absurd rfl (init k)
  | sale b => exact absurd rfl (sale b)
  | reversal b => exact absurd rfl (reversal b)
  | grant v => exact absurd rfl (grant v)
  | void _ => exact .of_mem hs rfl
  | other _ => exact .of_mem hs rfl
  | payment b =>
    have account := applyAccount_stands hs b.slot h (fun a => { a with debt := dropBy 99999999 a.debt b.recovered })
    have totals := account.trans (applyTotals_stands account.sound h (paymentTotals b))
    exact totals.trans (endSale_stands totals.sound h)
  | reissue slot _ link =>
    have account := applyAccount_stands hs slot h reissueOn
    dsimp only [applyRecord, applyReissue]
    exact account.trans (applyTotals_stands account.sound h _)
  | shiftOpen => exact applyShiftOpen_stands hs inService h
  | shiftClose b =>
    dsimp only [applyRecord, applyShiftClose]
    exact applyTerm_stands hs b.target h.seq _
  | account a => exact applyAccountRecord_stands hs h a
  | key k =>
    refine .of_mem hs ?_
    simp only [applyRecord, applyKey]
    split <;> rfl
  | tariff b effective => exact applyTariff_stands hs h b effective
  | clock new =>
    refine .of_mem hs ?_
    simp only [applyRecord, applyClock]
    split <;> rfl
  | settings c => exact applySettings_stands hs h c
  | terminal t role =>
    dsimp only [applyRecord, applyTerminal]
    exact applyTerm_stands hs t h.seq _

/-! ### The records that write it (R94, R95, R97, R187) -/

theorem applySale_reserve (h : RecordHead) (b : SaleBody) :
    (applySale h b s).2.mem.sys.reserve = s.mem.sys.reserve.after h.seq (debit (b.purchased + b.allowance)) := by
  have account := applyAccount_stands hs b.slot h (saleOn h b)
  simp only [applySale, applyReserve_after account.sound]
  rw [(endSale_leaves h _).1, (applyTotals_stands (by exact account.sound) h _).reserve, ← account.reserve]
  rfl

theorem applyReversal_reserve (h : RecordHead) (b : ReversalBody) :
    (applyReversal h b s).2.mem.sys.reserve =
      s.mem.sys.reserve.after h.seq (creditBack (b.purchased + b.allowance)) := by
  have account := applyAccount_stands hs b.slot h (reversalOn b)
  have debt := account.trans (debtAfter_stands account.sound b.slot (applyAccount b.slot h (reversalOn b) s).1)
  simp only [applyReversal, applyReserve_after debt.sound]
  rw [(applyTotals_stands (by exact debt.sound) h _).reserve, ← debt.reserve]
  rfl

/-- A GRANT record writes the reserve under its guard, raises the voucher floor and answers from what it wrote. -/
theorem applyGrant_eq (h : RecordHead) (v : Voucher) :
    let added := s.mem.sys.reserve.after h.seq (addGrant v)
    applyGrant h v s = ((.ok, .granted v.number v.amount added.balance added.totalGranted),
      raiseFloor v.number (s.setSys { s.mem.sys with reserve := added })) := by
  have written := applyReserve_after hs h.seq (addGrant v)
  dsimp only [applyGrant]
  rw [written, reserveView_of_sound (by exact hs)]
  rfl

theorem endStartUp_stands : ReserveStands s (endStartUp s) := by
  have alarmed : ReserveStands s (alarmFromMemory s) := by
    rw [alarmFromMemory_of_sound hs]
    exact .of_mem hs (alarmFromPending_mem _ _)
  have taken : ReserveStands (alarmFromMemory s) (takeTariffEffective (alarmFromMemory s)) := by
    rw [takeTariffEffective_of_sound alarmed.sound]
    split
    · exact ⟨alarmed.sound, rfl⟩
    · exact .of_mem alarmed.sound rfl
  refine (alarmed.trans taken).trans (.of_mem taken.sound ?_)
  unfold endStartUp
  rw [touchItem_of_sound taken.sound]
  rfl

/-- An INIT record that is applied leaves a reserve record of zeros, another leaves it as it stood. -/
theorem applyInit_balanced (balanced : s.mem.sys.reserve.balanced) (h : RecordHead) :
    (applyInit h s).2.mem.sys.reserve.balanced := by
  simp only [applyInit, touchItem_of_sound hs]
  split
  · rw [State.setInit_mem, (endStartUp_stands (s := initialiseAll h.seq s) rfl).reserve]
    rfl
  · rwa [(returnFromInit_leaves hs).1]

/-- The law of the reserve is kept by a record that debits no more than the balance and takes back no more than was
issued. -/
theorem applyRecord_balanced (inService : Bool) (figures : Figures) (r : Record) (balanced : s.mem.sys.reserve.balanced)
    (debits : ∀ b, r.body = .sale b → b.purchased + b.allowance ≤ s.mem.sys.reserve.balance)
    (credits : ∀ b, r.body = .reversal b → b.purchased + b.allowance ≤ s.mem.sys.reserve.totalIssued) :
    (applyRecord inService figures r s).2.mem.sys.reserve.balanced := by
  have stands := applyRecord_stands hs inService figures (r := r)
  obtain ⟨h, body⟩ := r
  cases body with
  | init _ => exact applyInit_balanced hs balanced h
  | sale b =>
    have within := debits b rfl
    exact applySale_reserve hs h b ▸ balanced.after_balanced (debit_balanced balanced within) h.seq
  | reversal b =>
    have within := credits b rfl
    exact applyReversal_reserve hs h b ▸ balanced.after_balanced (creditBack_balanced balanced within) h.seq
  | grant v =>
    dsimp only [applyRecord]
    rw [applyGrant_eq hs h v]
    exact balanced.after_balanced (addGrant_balanced balanced v) h.seq
  | _ =>
    rw [(stands nofun nofun nofun nofun).reserve]
    exact balanced

end

/-- Settles O51: each record that writes the reserve does so by an effect that keeps the law; the others leave it. -/
theorem grantsAddAndRecordsKeepReserveLaw : Obligations.GrantsAddAndRecordsKeepReserveLaw := by
  intro s inService figures hs
  refine ⟨fun h v => ?_, fun record => ⟨applyRecord_balanced hs inService figures record,
    fun sale reversal grant init => (applyRecord_stands hs inService figures sale reversal grant init).reserve⟩⟩
  have floor : max s.secure.voucherFloor v.number =
      if s.secure.voucherFloor < v.number then v.number else s.secure.voucherFloor := by
    split_ifs <;> omega
  refine (applyGrant_eq hs h v).trans ?_
  unfold raiseFloor
  rw [State.setSys_secure, floor]
  rfl

end Sys2Proof.Machine
end

section
/-!
SUPPORT. The dispatcher's own refusals (R174): a body is taken by its kind's parser exactly when its fields lie in their
ranges, and each refusal of checks 1 to 6 with no word of account memory disturbed.
-/
namespace Sys2Proof.Machine

/-! ### A parser takes a body exactly when its fields lie in their ranges (R174 check 6) -/

theorem isSome_guard {α : Type} {p : Prop} [Decidable p] (a : α) : (if p then some a else none).isSome = decide p := by
  by_cases h : p <;> simp [h]

theorem terminalOf_isSome (b : Byte) : (terminalOf b).isSome = decide (b.toNat ≤ 7) := by
  unfold terminalOf
  split <;> simp <;> omega

theorem roleOf_isSome (n : Nat) : (roleOf n).isSome = decide (n ≤ 3) := by
  match n with
  | 0 | 1 | 2 | 3 => rfl
  | n + 4 => simp [roleOf]

theorem acctStateOf_isSome (n : Nat) : (acctStateOf n).isSome = decide (n ≤ 2) := by
  match n with
  | 0 | 1 | 2 => rfl
  | n + 3 => simp [acctStateOf]

theorem modeOf_isSome (n : Nat) : (modeOf n).isSome = decide (n ≤ 1) := by
  match n with
  | 0 | 1 => rfl
  | n + 2 => simp [modeOf]

/-- A present value is judged by its range, an absent one by nothing. -/
theorem presentOk_ifBit (mask bit n lo hi : Nat) :
    presentOk (ifBit mask bit n) lo hi = (!mask.testBit bit || decide (lo ≤ n) && decide (n ≤ hi)) := by
  unfold presentOk ifBit bitAt
  cases mask.testBit bit <;> simp

/-- The state that an ACCOUNT_EDIT may name is ACTIVE or BLOCKED (R17). -/
theorem editState_ok (mask n : Nat) :
    (!bitAt mask 5 || (ifBit mask 5 (acctStateOf n)).bind id == some .active ||
      (ifBit mask 5 (acctStateOf n)).bind id == some .blocked) =
      (!mask.testBit 5 || decide (1 ≤ n) && decide (n ≤ 2)) := by
  unfold ifBit bitAt
  cases mask.testBit 5 with
  | false => rfl
  | true =>
    match n with
    | 0 | 1 | 2 => rfl
    | n + 3 => simp [acctStateOf]

/-- A field within a field. -/
theorem fieldNat_field {off len i w : Nat} (within : i + w ≤ len) (b : List Byte) :
    fieldNat i w (field off len b) = fieldNat (off + i) w b := by
  simp only [fieldNat, field]
  rw [List.drop_take, List.take_take, List.drop_drop, Nat.min_eq_left (by omega)]

section
variable (b : List Byte)

theorem parseReading_isSome : (parseReading b).isSome = fieldsInRange .clockSet b := by
  simp [parseReading, isSome_guard, fieldsInRange, lastReading]

theorem parseOperator_isSome : (parseOperator b).isSome = fieldsInRange .shiftOpen b := by
  simp [parseOperator, isSome_guard, fieldsInRange]

theorem parseTarget_isSome : (parseTarget b).isSome = fieldsInRange .shiftClose b := by
  rw [parseTarget, terminalOf_isSome]
  simp [fieldsInRange, ← byteAt_eq_fieldNat, byteAt]

theorem parseTerminalSet_isSome : (parseTerminalSet b).isSome = fieldsInRange .terminalSet b := by
  have both : (parseTerminalSet b).isSome = ((terminalOf (b.getD 0 0)).isSome && (roleOf (byteAt 1 b)).isSome) := by
    unfold parseTerminalSet
    cases terminalOf (b.getD 0 0) <;> cases roleOf (byteAt 1 b) <;> rfl
  rw [both, terminalOf_isSome, roleOf_isSome]
  simp [fieldsInRange, ← byteAt_eq_fieldNat, byteAt]

theorem parseQuote_isSome : (parseQuote b).isSome = fieldsInRange .quote b := by
  have moded := modeOf_isSome (byteAt 5 b)
  unfold parseQuote
  cases e : modeOf (byteAt 5 b) with
  | none => simp_all [fieldsInRange, ← byteAt_eq_fieldNat]
  | some m => simp_all [isSome_guard, fieldsInRange, ← byteAt_eq_fieldNat, meterOk, Bool.and_assoc]

theorem parseMeter_isSome : (parseMeter b).isSome = fieldsInRange .reissue b := by
  simp [parseMeter, isSome_guard, fieldsInRange, meterOk]

theorem parseCreate_isSome : (parseCreate b).isSome = fieldsInRange .accountCreate b := by
  simp [parseCreate, isSome_guard, fieldsInRange, meterOk, yesNoOk, byteAt_eq_fieldNat, Bool.and_assoc]

theorem parseEdit_isSome : (parseEdit b).isSome = fieldsInRange .accountEdit b := by
  unfold parseEdit
  dsimp only
  rw [editState_ok]
  simp only [presentOk_ifBit, isSome_guard, fieldsInRange, meterOk, yesNoOk, byteAt_eq_fieldNat,
    Nat.one_le_iff_ne_zero, Nat.zero_le, decide_true, Bool.true_and, Bool.decide_eq_true]
  ac_rfl

theorem parseAccountRead_isSome : (parseAccountRead b).isSome = fieldsInRange .accountRead b := by
  unfold parseAccountRead
  split
  · simp_all [isSome_guard, fieldsInRange, ← byteAt_eq_fieldNat, meterOk]
  · simp_all [isSome_guard, fieldsInRange, ← byteAt_eq_fieldNat]
  · simp_all [fieldsInRange, ← byteAt_eq_fieldNat]
    omega

theorem parseReplace_isSome : (parseReplace b).isSome = fieldsInRange .meterReplace b := by
  simp [parseReplace, isSome_guard, fieldsInRange, meterOk, byteAt_eq_fieldNat]

theorem parseLoad_isSome : (parseLoad b).isSome = fieldsInRange .accountLoad b := by
  simp only [parseLoad, imageOk, imageAccount, isSome_guard, fieldsInRange, meterOk, byteAt_eq_fieldNat,
    acctStateOf_isSome, fieldNat_field, Nat.reduceLeDiff, Nat.reduceAdd, Nat.zero_le, decide_true, Bool.true_and,
    Bool.decide_eq_true]
  ac_rfl

theorem parseKeyLoad_isSome : (parseKeyLoad b).isSome = fieldsInRange .keyLoad b := by
  simp [parseKeyLoad, isSome_guard, fieldsInRange, byteAt_eq_fieldNat]

theorem parseKeyRetire_isSome : (parseKeyRetire b).isSome = fieldsInRange .keyRetire b := by
  simp [parseKeyRetire, isSome_guard, fieldsInRange, byteAt_eq_fieldNat]

theorem parseSelector_isSome : (parseSelector b).isSome = fieldsInRange .tariffRead b := by
  unfold parseSelector
  split
  · simp_all [fieldsInRange, ← byteAt_eq_fieldNat]
  · simp_all [fieldsInRange, ← byteAt_eq_fieldNat]
  · simp_all [fieldsInRange, ← byteAt_eq_fieldNat]
    omega

theorem parseGrant_isSome : (parseGrant b).isSome = fieldsInRange .grant b := by
  simp [parseGrant, isSome_guard, fieldsInRange]

theorem parseSettings_isSome : (parseSettings b).isSome = fieldsInRange .settingsSet b := by
  simp [parseSettings, isSome_guard, fieldsInRange, byteAt_eq_fieldNat]

end

/-- Every kind's command takes its request by a parser that takes the bodies whose fields lie in their ranges. -/
theorem exec_command (k : Kind) : ∃ (α : Type) (parse : List Byte → Option α) (own : Owner → α → Judge Answer),
    (∀ b, (parse b).isSome = fieldsInRange k b) ∧ ∀ s, exec k.command s = .next (takeRequest k parse own s) := by
  cases k with
  | clockSet => exact ⟨_, _, _, parseReading_isSome, fun _ => rfl⟩
  | shiftOpen | shiftResume => exact ⟨_, _, _, parseOperator_isSome, fun _ => rfl⟩
  | shiftClose | shiftRead => exact ⟨_, _, _, parseTarget_isSome, fun _ => rfl⟩
  | terminalSet => exact ⟨_, _, _, parseTerminalSet_isSome, fun _ => rfl⟩
  | quote => exact ⟨_, _, _, parseQuote_isSome, fun _ => rfl⟩
  | reissue | reverse | accountClose | rekey => exact ⟨_, _, _, parseMeter_isSome, fun _ => rfl⟩
  | accountCreate => exact ⟨_, _, _, parseCreate_isSome, fun _ => rfl⟩
  | accountEdit => exact ⟨_, _, _, parseEdit_isSome, fun _ => rfl⟩
  | accountRead => exact ⟨_, _, _, parseAccountRead_isSome, fun _ => rfl⟩
  | meterReplace => exact ⟨_, _, _, parseReplace_isSome, fun _ => rfl⟩
  | accountLoad => exact ⟨_, _, _, parseLoad_isSome, fun _ => rfl⟩
  | keyLoad => exact ⟨_, _, _, parseKeyLoad_isSome, fun _ => rfl⟩
  | keyRetire => exact ⟨_, _, _, parseKeyRetire_isSome, fun _ => rfl⟩
  | tariffRead => exact ⟨_, _, _, parseSelector_isSome, fun _ => rfl⟩
  | grant => exact ⟨_, _, _, parseGrant_isSome, fun _ => rfl⟩
  | settingsSet => exact ⟨_, _, _, parseSettings_isSome, fun _ => rfl⟩
  | tariffLoad => exact ⟨_, parseTariffLoad, _, fun _ => rfl, fun _ => rfl⟩
  | journalRead => exact ⟨_, parseJournalRead, _, fun _ => rfl, fun _ => rfl⟩
  | journalRelease => exact ⟨_, parseRelease, _, fun _ => rfl, fun _ => rfl⟩
  | status | clockRead | confirm | cancel | indexRebuild | keyList | reserveRead | journalRetry | integrityRead
  | integrityClear | settingsRead | tamperClear | initialise => exact ⟨_, parseNothing, _, fun _ => rfl, fun _ => rfl⟩

/-! ### The refusals -/

section
variable {s : State}

/-- Taking a frame leaves all that the status flags are judged by (R175). -/
theorem statusFlags_takeFrame (s : State) : statusFlags (takeFrame s) = statusFlags s := by
  have overflow : (takeFrame s).line.overflow = s.line.overflow := by
    simp only [takeFrame, State.setLine_line, LineState.judgePause]
  unfold statusFlags
  rw [overflow]
  rfl

/-- A refusal that stands before the reads of a request enters its reply with the flags of the state as it was. -/
theorem pushReply_takeFrame (hs : s.mem.ecc = []) (kind terminal : Byte) (tag : Tag) (r : ResultCode) :
    pushReply kind terminal tag r .empty (takeFrame s) = withReply
      { kind := kind ||| 0x80, terminal := terminal, tag := tag, result := r, flags := statusFlags s, body := .empty }
      (takeFrame s) := by
  unfold pushReply
  dsimp only
  rw [touchForFlags_of_sound (by exact hs), statusFlags_takeFrame]
  rfl

section
variable {α : Type} {k : Kind} {parse : List Byte → Option α} {own : Owner → α → Judge Answer} {f : List Byte}
  {rest : List (List Byte)}

/-- The oldest frame, of this kind, is answered once it has left the buffer. -/
theorem takeRequest_of_frame (arrived : s.line.arrived = f :: rest) (room : mayTake s = true)
    (kind : frameKind f = k.byte) : takeRequest k parse own s = answerFrame k parse own f (takeFrame s) := by
  simp only [takeRequest, arrived, room, kind, beq_self_eq_true, Bool.and_self, if_true]

theorem answerFrame_of_terminal (high : 8 ≤ (frameTerminal f).toNat) : answerFrame k parse own f s =
    pushReply k.byte (frameTerminal f) (frameTag f) .badField .empty s := by
  have unknown : terminalOf (frameTerminal f) = none := dif_neg (Nat.not_lt.mpr high)
  unfold answerFrame
  rw [unknown]

variable {t : Fin 8}

theorem answerFrame_of_length (terminal : frameTerminal f = terminalByte t)
    (length : (frameBody f).length ≠ k.bodyLength) : answerFrame k parse own f s =
      pushReply k.byte (frameTerminal f) (frameTag f) .badLength .empty s := by
  unfold answerFrame
  rw [terminal, terminalOf_terminalByte]
  exact if_pos length

/-- A request of a known terminal with a body of its length is judged, and its judgement answered. -/
theorem answerFrame_of_judged (terminal : frameTerminal f = terminalByte t)
    (length : (frameBody f).length = k.bodyLength) : answerFrame k parse own f s =
      conclude k.byte (terminalByte t) (frameTag f)
        ((judge k parse own { terminal := t, tag := frameTag f } (frameBody f)).run s) := by
  unfold answerFrame
  rw [terminal, terminalOf_terminalByte]
  exact if_neg (not_not_intro length)

end

section
variable {α : Type} {k : Kind} {parse : List Byte → Option α} {own : Owner → α → Judge Answer} {o : Owner}
  {body : List Byte}

/-- The dispatcher's checks 4 to 6 of a request (R174), after the idle timer has taken its condition afresh. -/
theorem judge_eq (hs : s.mem.ecc = []) : (judge k parse own o body).run s = (do
      check (fun u => allowed k (roleFor o.terminal u) o.terminal body) .notPermitted
      check (fun u => shiftFree k || rescue k o.terminal s
        || ((u.mem.sys.terms.get o.terminal).shift == .opened && !shiftChange o.terminal u)) .terminalState
      (parse body).elim (throw (.badField, .empty)) (own o) : Judge Answer).run
        (setIdle o.terminal (idleAfresh o.terminal s) s) := by
  unfold judge
  rw [then_get, then_get, then_modify, then_need (by simp [itemBad_of_sound hs]), restartIdle_eq hs]
  cases parse body <;> rfl

theorem judge_refuses_role (hs : s.mem.ecc = [])
    (role : allowed k (roleFor o.terminal s) o.terminal body = false) :
    (judge k parse own o body).run s = .error (.notPermitted, .empty) (restartIdle o.terminal s) := by
  rw [judge_eq hs, restartIdle_eq hs, judge_bind, check_run, if_neg]
  exact fun allows => Bool.false_ne_true (role.symm.trans allows)

theorem judge_refuses_shift (hs : s.mem.ecc = []) (role : allowed k (roleFor o.terminal s) o.terminal body = true)
    (bound : shiftFree k = false) (saved : rescue k o.terminal s = false)
    (shift : (s.mem.sys.terms.get o.terminal).shift ≠ .opened ∨ shiftChange o.terminal s = true) :
    (judge k parse own o body).run s = .error (.terminalState, .empty) (restartIdle o.terminal s) := by
  have shut : ((s.mem.sys.terms.get o.terminal).shift == .opened && !shiftChange o.terminal s) = false := by
    rcases shift with shut | changing
    · simp [shut]
    · simp [changing]
  rw [judge_eq hs, restartIdle_eq hs, then_check (by exact role), judge_bind, check_run, bound, saved, if_neg]
  exact fun open_ => Bool.false_ne_true (shut.symm.trans open_)

theorem judge_refuses_field (hs : s.mem.ecc = []) (role : allowed k (roleFor o.terminal s) o.terminal body = true)
    (shift : shiftFree k = true ∨ rescue k o.terminal s = true ∨
      (s.mem.sys.terms.get o.terminal).shift = .opened ∧ shiftChange o.terminal s = false)
    (unread : parse body = none) :
    (judge k parse own o body).run s = .error (.badField, .empty) (restartIdle o.terminal s) := by
  have passed : (shiftFree k || rescue k o.terminal s ||
      ((s.mem.sys.terms.get o.terminal).shift == .opened && !shiftChange o.terminal s)) = true := by
    rcases shift with free | saved | ⟨shift, settled⟩
    · simp [free]
    · simp [saved]
    · simp [shift, settled]
  rw [judge_eq hs, restartIdle_eq hs, then_check (by exact role), then_check (by exact passed), unread]
  rfl

end

section
variable {k : Kind} {f : List Byte} {rest : List (List Byte)}

/-- A frame from a terminal byte above 7 is refused, and nothing else changes (R174 check 2). -/
theorem exec_refuses_terminal (hs : s.mem.ecc = []) (arrived : s.line.arrived = f :: rest) (room : mayTake s = true)
    (kind : frameKind f = k.byte) (high : 8 ≤ (frameTerminal f).toNat) : exec k.command s = .next (withReply
      { kind := k.byte ||| 0x80, terminal := frameTerminal f, tag := frameTag f, result := .badField,
        flags := statusFlags s, body := .empty } (takeFrame s)) := by
  obtain ⟨_, _, _, -, takes⟩ := exec_command k
  rw [takes, takeRequest_of_frame arrived room kind, answerFrame_of_terminal high, pushReply_takeFrame hs]

variable {t : Fin 8}

/-- A body of another length is refused, and nothing else changes (R174 check 3). -/
theorem exec_refuses_length (hs : s.mem.ecc = []) (arrived : s.line.arrived = f :: rest) (room : mayTake s = true)
    (kind : frameKind f = k.byte) (terminal : frameTerminal f = terminalByte t)
    (length : (frameBody f).length ≠ k.bodyLength) : exec k.command s = .next (withReply
      { kind := k.byte ||| 0x80, terminal := frameTerminal f, tag := frameTag f, result := .badLength,
        flags := statusFlags s, body := .empty } (takeFrame s)) := by
  obtain ⟨_, _, _, -, takes⟩ := exec_command k
  rw [takes, takeRequest_of_frame arrived room kind, answerFrame_of_length terminal length, pushReply_takeFrame hs]

/-- A request refused by its judgement is answered from the state handed over. -/
theorem takeRequest_refuses {α : Type} {parse : List Byte → Option α} {own : Owner → α → Judge Answer} {r : ResultCode}
    (hs : s.mem.ecc = []) (arrived : s.line.arrived = f :: rest) (room : mayTake s = true) (kind : frameKind f = k.byte)
    (terminal : frameTerminal f = terminalByte t) (length : (frameBody f).length = k.bodyLength)
    (refused : (judge k parse own { terminal := t, tag := frameTag f } (frameBody f)).run (takeFrame s) =
      .error (r, .empty) (handed t s)) :
    takeRequest k parse own s = answered k t (frameTag f) r .empty (handed t s) := by
  rw [takeRequest_of_frame arrived room kind, answerFrame_of_judged terminal length, refused]
  exact pushReply_answered (handed_sound hs t) ..

end

end

/-- Settles O18: each check in its turn, the earlier ones passed, for the parser and the owner of any kind. -/
theorem dispatcherRefusesInOrder : Obligations.DispatcherRefusesInOrder := by
  refine ⟨fun s f rest hs arrived room unknown => ?_, fun k s f rest hs arrived room kind => ⟨fun high => ?_,
    fun t terminal => ⟨fun length => ?_, fun length role => ?_, fun length role bound saved shift => ?_,
      fun length role shift fields => ?_⟩⟩⟩
  · show execUnknownRequest s = _
    simp only [execUnknownRequest, arrived, room, unknown, Bool.not_false, Bool.and_self, if_true]
    rw [pushReply_takeFrame hs]
  · exact exec_refuses_terminal hs arrived room kind high
  · exact exec_refuses_length hs arrived room kind terminal length
  all_goals
    obtain ⟨_, parse, own, takes_body, takes⟩ := exec_command k
    refine (takes s).trans (congrArg _ (takeRequest_refuses hs arrived room kind terminal length ?_))
  · exact judge_refuses_role (s := takeFrame s) hs role
  · exact judge_refuses_shift (s := takeFrame s) hs role bound saved shift
  · refine judge_refuses_field (s := takeFrame s) hs role shift ?_
    rw [← Option.not_isSome_iff_eq_none, takes_body, fields]
    exact Bool.false_ne_true

end Sys2Proof.Machine
end

section
/-!
SUPPORT. The role access table by role (R104, R105).
-/
namespace Sys2Proof.Machine

/-- The table's grant decides, and for a request of the own terminal alone its target. -/
theorem allowed_iff {k : Kind} {r : Role} {t : Fin 8} {body : List Byte} :
    allowed k r t body = true ↔ access k r = .yes ∨ access k r = .own ∧ targetByte k t body = t.val := by
  unfold allowed
  cases access k r <;> simp

theorem access_disabled (k : Kind) : access k .disabled = if k = .status then .yes else .no := by
  cases k <;> rfl

theorem access_supervisor (k : Kind) : access k .supervisor = .yes := by
  cases k <;> rfl

/-- The requests that a CLERK and an AUDITOR have for their own terminal. -/
theorem access_eq_own_iff {k : Kind} {r : Role} (bound : r = .clerk ∨ r = .auditor) :
    access k r = .own ↔ k ∈ [Kind.shiftOpen, .shiftResume, .shiftClose, .shiftRead] := by
  rcases bound with rfl | rfl
  · cases k <;> decide
  · cases k <;> decide

theorem access_clerk_eq_yes_iff (k : Kind) : access k .clerk = .yes ↔
    k ∈ [Kind.status, .clockRead, .accountRead, .quote, .confirm, .cancel, .reissue] := by
  cases k <;> decide

theorem access_auditor_eq_yes_iff (k : Kind) : access k .auditor = .yes ↔
    k ∈ [Kind.status, .clockRead, .accountRead, .tariffRead, .keyList, .reserveRead, .settingsRead, .integrityRead,
      .journalRead, .journalRelease] := by
  cases k <;> decide

/-- SHIFT_OPEN and SHIFT_RESUME act on the sending terminal; SHIFT_CLOSE and SHIFT_READ name their target. -/
theorem own_and_target_iff (k : Kind) (t : Fin 8) (body : List Byte) :
    k ∈ [Kind.shiftOpen, .shiftResume, .shiftClose, .shiftRead] ∧ targetByte k t body = t.val ↔
      k ∈ [Kind.shiftOpen, .shiftResume] ∨ k ∈ [Kind.shiftClose, .shiftRead] ∧ byteAt 0 body = t.val := by
  cases k <;> simp [targetByte]

/-- Settles O19: the table's grants by role, and what the requests for the own terminal act on. -/
theorem rolesHaveTheirAccess : Obligations.RolesHaveTheirAccess := by
  refine ⟨fun k t body => ?_, fun k t body => ?_, fun k t body => ?_, fun k t body => ?_⟩
  · rw [allowed_iff, access_disabled]
    split <;> simp_all
  · exact allowed_iff.mpr (.inl (access_supervisor k))
  · rw [allowed_iff, access_clerk_eq_yes_iff, access_eq_own_iff (.inl rfl), own_and_target_iff]
    simp only [List.mem_cons, List.not_mem_nil, or_false]
    tauto
  · rw [allowed_iff, access_auditor_eq_yes_iff, access_eq_own_iff (.inr rfl), own_and_target_iff]
    simp only [List.mem_cons, List.not_mem_nil, or_false]
    tauto

end Sys2Proof.Machine
end

section
/-!
SUPPORT. CLOCK_SET, TERMINAL_SET and SETTINGS_SET, and the shift requests, with no word of account memory disturbed
(R107 to R114, R161, R178).
-/
namespace Sys2Proof.Machine

section
variable {t : Fin 8} {tag : Tag} {body : List Byte} {s : State}

/-! ### What the office's owners look at, through the hand-over -/

theorem handed_clockQueued (hs : s.mem.ecc = []) (t : Fin 8) : clockQueued (handed t s) = clockQueued s := by
  unfold clockQueued
  rw [handed_queue hs]

theorem handed_vendQueued (hs : s.mem.ecc = []) (t u : Fin 8) : vendQueued u (handed t s) = vendQueued u s := by
  unfold vendQueued
  rw [handed_queue hs]

theorem handed_shiftIs (hs : s.mem.ecc = []) (t u : Fin 8) (st : ShiftState) :
    shiftIs u st (handed t s) = shiftIs u st s := by
  obtain ⟨-, -, -, change, -⟩ := handed_facts hs t
  simp only [shiftIs, handed_mem hs, change]

theorem shiftIs_of {u : Fin 8} {st : ShiftState} (shift : (s.mem.sys.terms.get u).shift = st)
    (settled : shiftChange u s = false) : shiftIs u st s = true := by
  simp [shiftIs, shift, settled]

/-! ### CLOCK_SET, TERMINAL_SET, SETTINGS_SET (R114, R161, R178) -/

theorem clockSet_queues {n : Nat} (service : s.mode = .inService) (admits : Admits s)
    (asks : Asks .clockSet t tag body s) (parsed : parseReading body = some n) (free : clockQueued s = false)
    (month : s.month ≤ monthOf n) : exec .clockSet s = .next (withRecord t tag (.clock n) .none (handed t s)) := by
  have hs := asks.sound
  refine congrArg _ (exec_queues (parse := parseReading) (own := ownClockSet) asks parsed admits ?_)
  unfold ownClockSet
  rw [then_service ((handed_mode hs t).trans service), then_check (by rw [handed_clockQueued hs, free]; rfl), then_get,
    then_needWith (by rw [handed_month hs]; exact decide_eq_true month)]

theorem terminalSet_queues {u : Fin 8} {role : Role} (service : s.mode = .inService) (admits : Admits s)
    (asks : Asks .terminalSet t tag body s) (parsed : parseTerminalSet body = some (u, role)) (other : u ≠ 0)
    (closed : (s.mem.sys.terms.get u).shift = .closed) (settled : shiftChange u s = false) :
    exec .terminalSet s = .next (withRecord t tag (.terminal u role) .none (handed t s)) := by
  have hs := asks.sound
  refine congrArg _ (exec_queues (parse := parseTerminalSet) (own := ownTerminalSet) asks parsed admits ?_)
  unfold ownTerminalSet
  rw [then_need (by simpa using other), then_service ((handed_mode hs t).trans service), then_item (handed_sound hs t),
    then_check (by rw [handed_shiftIs hs]; exact shiftIs_of closed settled)]

theorem settingsSet_queues {c : SettingsChange} (service : s.mode = .inService) (admits : Admits s)
    (asks : Asks .settingsSet t tag body s) (parsed : parseSettings body = some c) (present : c.any = true) :
    exec .settingsSet s = .next (withRecord t tag (.settings c.clamped) (.settings c) (handed t s)) := by
  have hs := asks.sound
  show Host.Outcome.next (takeRequest .settingsSet parseSettings ownSettingsSet s) = _
  rw [takeRequest_of_asks asks parsed]
  unfold ownSettingsSet
  rw [then_need present, then_service ((handed_mode hs t).trans service),
    journaled_of_sound (handed_sound hs t) ((handed_admission hs t).trans admits)]
  rfl

end

/-- A lower bound of 0 bounds nothing (R177). -/
theorem clamp_zero (hi n : Nat) : clamp 0 hi n = min hi n := Nat.zero_max _

theorem SettingsChange.clamped_eq (c : SettingsChange) : c.clamped =
    { holdTime := c.holdTime.map (fun n => max 30 (min 900 n))
      idleLimit := c.idleLimit.map (fun n => max 1 (min 120 n))
      reversalWindow := c.reversalWindow.map (fun n => min 60 n)
      reissueLimit := c.reissueLimit.map (fun n => min 9 n)
      scrubInterval := c.scrubInterval.map (fun n => min 1000 n)
      reserveLow := c.reserveLow.map (fun n => min 2000000000 n)
      journalNearFull := c.journalNearFull.map (fun n => max 1 (min 4096 n)) } := by
  simp only [SettingsChange.clamped, funext (clamp_zero _)]
  rfl

/-- Settles O24: each owner's conditions hold of the state handed over, and its record is queued. -/
theorem officeRequestsQueueTheirRecords : Obligations.OfficeRequestsQueueTheirRecords := by
  intro t tag body s service admits
  refine ⟨fun n => clockSet_queues service admits, fun u role => terminalSet_queues service admits,
    fun c asks parsed present => ?_⟩
  rw [settingsSet_queues service admits asks parsed present, c.clamped_eq]

/-! ### SHIFT_OPEN, SHIFT_CLOSE, SHIFT_RESUME (R107, R109, R110, R112) -/

section
variable {t : Fin 8} {tag : Tag} {body : List Byte} {s : State}

/-- In service, with a record admitted, no shift is opened without its record (R109). -/
theorem unrecordedOpen_of_service {u : State} (service : u.mode = .inService) (admits : admission u = none)
    (t : Fin 8) : unrecordedOpen t u = false := by
  simp [unrecordedOpen, service, admits]

theorem ownShiftOpen_queues {u : State} (service : u.mode = .inService)
    (admits : admission u = none) (closed : shiftIs t .closed u = true) (op : Nat) :
    (ownShiftOpen { terminal := t, tag := tag } op).run u =
      .ok .later (withRecordAs t tag (nextShiftNo (u.mem.sys.terms.get t).shiftNo) op .shiftOpen .none u) := by
  unfold ownShiftOpen
  rw [then_check closed, then_get]
  dsimp only
  rw [if_neg (by simp [unrecordedOpen_of_service service admits]), then_service service, then_admitted admits,
    then_modify]
  rfl

/-- Terminal 0 opens its shift at once where no record can be had (R109). -/
theorem ownShiftOpen_unrecorded {u : State} (hu : u.mem.ecc = []) (closed : shiftIs t .closed u = true)
    (unrecorded : unrecordedOpen t u = true) (op : Nat) :
    let no := nextShiftNo (u.mem.sys.terms.get t).shiftNo
    (ownShiftOpen { terminal := t, tag := tag } op).run u = .ok (.now (.shiftOpenedUnrecorded no))
      (restartIdle t (u.setSys { u.mem.sys with
        terms := u.mem.sys.terms.put t ((u.mem.sys.terms.get t).opened no op) })) := by
  unfold ownShiftOpen
  rw [then_check closed, then_get]
  dsimp only
  rw [if_pos unrecorded, then_modify, then_modify, writeTerm, writeItem_of_sound hu]
  rfl

/-- A shift that may be closed by the sender: its own that is OPEN, another's that is OPEN or SUSPENDED (R110). -/
theorem closable_of {u : Fin 8} (shift : (s.mem.sys.terms.get u).shift = .opened ∨
      u ≠ t ∧ (s.mem.sys.terms.get u).shift = .suspended) (settled : shiftChange u s = false) :
    closable t u s = true := by
  rcases shift with opened | ⟨other, suspended⟩
  · simp [closable, shiftIs_of opened settled]
  · simp [closable, shiftIs_of suspended settled, other]

theorem handed_closable (hs : s.mem.ecc = []) (t u : Fin 8) : closable t u (handed t s) = closable t u s := by
  simp only [closable, handed_shiftIs hs]

theorem ownShiftClose_queues {u : State} {target : Fin 8} (hu : u.mem.ecc = []) (service : u.mode = .inService)
    (admits : admission u = none) (open_ : closable t target u = true) (sale : (u.term target).sale = none)
    (lookup : (u.term target).lookup = none) (queued : vendQueued target u = false) :
    (ownShiftClose { terminal := t, tag := tag } target).run u = .ok .later (holdIdle target (withRecord t tag
      (.shiftClose (closeBody target (u.mem.sys.terms.get target))) .none u)) := by
  unfold ownShiftClose
  rw [then_service service, then_item hu, then_check open_, then_check (by simp [sale, lookup, queued]),
    then_admitted admits, then_get, then_modify, then_modify]
  unfold queueRecord headNow withRecord withRecordAs
  rw [termView_of_sound hu]
  rfl

theorem ownShiftResume_opens {u : State} {op : Nat} (hu : u.mem.ecc = []) (suspended : shiftIs t .suspended u = true)
    (operator : (u.mem.sys.terms.get t).operator = op) :
    (ownShiftResume { terminal := t, tag := tag } op).run u =
      .ok (.now (.shiftResumed (u.mem.sys.terms.get t).shiftNo op)) (restartIdle t (u.setSys { u.mem.sys with
        terms := u.mem.sys.terms.put t { u.mem.sys.terms.get t with shift := .opened } })) := by
  unfold ownShiftResume
  rw [then_check suspended, then_check (by simp [operator]), then_modify, then_modify, then_get, writeTerm,
    writeItem_of_sound hu, restartIdle_eq (by exact hu)]
  simp [setIdle, State.setTerm, operator]

/-- An answer of an owner that then starts the sender's idle timer is judged as the state then stands (R172, R175). -/
theorem conclude_restarted {u : State} (hu : u.mem.ecc = []) (k : Kind) (reply : ReplyBody) :
    conclude k.byte (terminalByte t) tag (.ok (.now reply) (restartIdle t u)) =
      answered k t tag .ok reply (restartIdle t u) :=
  pushReply_answered (by rw [restartIdle_eq hu]; exact hu) ..

end

/-- Settles O25: each owner's conditions hold of the state handed over. -/
theorem shiftRequestsAreTaken : Obligations.ShiftRequestsAreTaken := by
  refine ⟨fun t tag body s op hs presents role parsed closed settled => ?_, fun t tag body s =>
    ⟨fun u asks service admits parsed settled shift sale lookup queued => ?_,
      fun op hs presents role parsed suspended settled operator => ?_⟩⟩
  · have hu := handed_sound hs t
    have closed_ : shiftIs t .closed (handed t s) = true := by rw [handed_shiftIs hs]; exact shiftIs_of closed settled
    have taken : exec .shiftOpen s = .next (conclude Kind.shiftOpen.byte (terminalByte t) tag
        ((ownShiftOpen { terminal := t, tag := tag } op).run (handed t s))) :=
      congrArg _ (takeRequest_of_presents hs presents role (.inl rfl) parsed)
    refine ⟨fun service admits => ?_, fun zero unrecorded => ?_⟩
    · rw [taken, ownShiftOpen_queues ((handed_mode hs t).trans service) ((handed_admission hs t).trans admits) closed_,
        handed_mem hs]
      rfl
    · have at_once : unrecordedOpen t (handed t s) = true := by
        simpa [unrecordedOpen, zero, handed_mode hs, handed_admission hs, or_assoc] using unrecorded
      rw [taken, ownShiftOpen_unrecorded hu closed_ at_once, conclude_restarted (by exact hu), handed_mem hs]
      rfl
  · have hs := asks.sound
    refine congrArg _ ((takeRequest_of_asks (own := ownShiftClose) asks parsed).trans ?_)
    rw [ownShiftClose_queues (handed_sound hs t) ((handed_mode hs t).trans service)
      ((handed_admission hs t).trans admits) ((handed_closable hs t u).trans (closable_of shift settled))
      ((handed_sale hs t u).trans sale) ((handed_lookup hs t u).trans lookup)
      ((handed_vendQueued hs t u).trans queued), handed_mem hs]
    rfl
  · have hu := handed_sound hs t
    refine congrArg _ ((takeRequest_of_presents (own := ownShiftResume) hs presents role (.inl rfl) parsed).trans ?_)
    rw [ownShiftResume_opens hu (by rw [handed_shiftIs hs]; exact shiftIs_of suspended settled)
      (by rw [handed_mem hs]; exact operator), conclude_restarted (by exact hu), handed_mem hs]

end Sys2Proof.Machine
end

section
/-!
SUPPORT. The effects of the office's records: SHIFT_OPEN, SHIFT_CLOSE, TERMINAL, SETTINGS and INIT (R108, R111, R114,
R178, R187), with no word of account memory disturbed.
-/
namespace Sys2Proof.Machine

/-! ### Terminal entries (R103) -/

/-- A terminal's entry is written past its last applied, and else nothing is. -/
theorem applyTerm_eq {s : State} (hs : s.mem.ecc = []) (u : Fin 8) (seq : Nat) (f : TermEntry → TermEntry) :
    applyTerm u seq f s =
      if (s.mem.sys.terms.get u).lastApplied < seq then
        s.setSys { s.mem.sys with terms := s.mem.sys.terms.put u { f (s.mem.sys.terms.get u) with lastApplied := seq } }
      else s := by
  split
  · rename_i past
    rw [applyTerm_of_sound hs, if_pos past]
  · exact applyTerm_past hs (Nat.not_lt.mp ‹_›) f

/-! ### SETTINGS records (R151, R178) -/

/-- Past the settings last applied, a SETTINGS record replaces what it carries and restarts the scrub timer by it. -/
theorem applySettings_written {s : State} (hs : s.mem.ecc = []) {h : RecordHead} (c : SettingsChange)
    (past : s.mem.sys.settingsApplied < h.seq) : applySettings h c s = restartScrub c (s.setSys
      { s.mem.sys with settings := c.on s.mem.sys.settings, settingsApplied := h.seq }) := by
  simp [applySettings, touchItem_of_sound hs, itemBad_of_sound hs, past, storeItems_of_sound hs]

theorem applySettings_past {s : State} (hs : s.mem.ecc = []) {h : RecordHead} (c : SettingsChange)
    (past : h.seq ≤ s.mem.sys.settingsApplied) : applySettings h c s = s := by
  simp [applySettings, touchItem_of_sound hs, itemBad_of_sound hs, Nat.not_lt.mpr past]

/-- What a SETTINGS record leaves of the scrub (R151; log 27). -/
def scrubAfter (c : SettingsChange) (s : State) : Scrubber :=
  match c.scrubInterval with
  | some n => if starting s then s.scrub else { s.scrub with timer := scrubTimer n }
  | none => s.scrub

theorem restartScrub_eq (c : SettingsChange) (s : State) : restartScrub c s = s.setScrub (scrubAfter c s) := by
  unfold restartScrub scrubAfter
  cases c.scrubInterval with
  | none => rfl
  | some n =>
    dsimp only
    split <;> rfl

/-- A setting is answered when it was requested and applied. -/
theorem settingAnswer_eq (requested applied : Option Nat) : settingAnswer requested applied =
    requested.bind (fun n => applied.map (fun m => { requested := n, applied := m, clamped := n != m })) := by
  cases requested with
  | none => rfl
  | some n =>
    cases applied with
    | none => rfl
    | some m => simp [settingAnswer, bne, beq_eq_decide]

/-! ### INIT records (R187) -/

theorem initApplies_of_sound {s : State} (hs : s.mem.ecc = []) {n : Nat} (signature : s.mem.sys.signature = some n)
    (seq : Nat) : initApplies seq s = decide (n < seq) := by
  simp [initApplies, itemBad_of_sound hs, signature]

/-- The end of start-up over account memory just written: no bank is PENDING, no fault is held, and the scrub interval
is that of the default settings (R177, R184). -/
theorem endStartUp_initialiseAll (seq : Nat) (s : State) : endStartUp (initialiseAll seq s) =
    (freeBus ((initialiseAll seq s).setScrub { pos := 0, timer := some 10 })).setMode .inService := by
  have hs : (initialiseAll seq s).mem.ecc = [] := rfl
  have alarmed : alarmFromMemory (initialiseAll seq s) = initialiseAll seq s := by
    rw [alarmFromMemory_of_sound hs]
    rfl
  have taken : takeTariffEffective (initialiseAll seq s) = initialiseAll seq s := by
    rw [takeTariffEffective_of_sound hs]
    rfl
  unfold endStartUp
  rw [alarmed, taken, touchItem_of_sound hs]
  dsimp only
  rw [settingsView_of_sound hs]
  rfl

/-- An initialisation's writes, item by item, with the pointers as they stand (R187). -/
theorem initialiseAll_of_copy {s : State} {c : RingCopy} (copy : s.copy = some c) (seq : Nat) : initialiseAll seq s =
    { s with
      mem := .initial seq s.secure.voucherFloor c.head c.tail
      copy := some { head := c.head, tail := c.tail, mark := none }
      queue := [], terms := .all8 .idleNone, setAsides := 0, reads := [], sysFault := none
      clock := { s.clock with lastApplied := seq, alarm := none, tariffRaised := false }
      secure := { s.secure with keyLastApplied := seq } } := by
  unfold initialiseAll
  rw [copy]
  rfl


/-- The end of start-up over account memory just written: no bank is PENDING, and the scrub interval is that of the
default settings (R177, R184). -/
theorem endStartUp_of_initial {s : State} {seq floor head tail : Nat} (mem : s.mem = .initial seq floor head tail)
    (fault : s.sysFault = none) :
    endStartUp s = { s with scrub := { pos := 0, timer := some 10 }, bus := none, mode := .inService } := by
  have hs : s.mem.ecc = [] := by rw [mem]; rfl
  have alarmed : alarmFromMemory s = s := by
    rw [alarmFromMemory_of_sound hs, mem]
    rfl
  have taken : takeTariffEffective s = s := by
    rw [takeTariffEffective_of_sound hs, mem]
    rfl
  have interval : s.mem.sys.settings.scrubInterval = 10 := by rw [mem]; rfl
  unfold endStartUp
  rw [alarmed, taken, touchItem_of_sound hs]
  dsimp only
  rw [settingsView_of_sound hs, interval, if_neg (by simp [fault])]
  rfl

/-- What an INIT record past the init sequence leaves (R184, R187). -/
theorem applyInit_written {s : State} (hs : s.mem.ecc = []) {h : RecordHead} {c : RingCopy} {n : Nat}
    (copy : s.copy = some c) (signature : s.mem.sys.signature = some n) (past : n < h.seq) : (applyInit h s).2 =
      { s with
        mode := .inService
        mem := .initial h.seq s.secure.voucherFloor c.head c.tail
        copy := some { head := c.head, tail := c.tail, mark := none }
        queue := [], terms := .all8 .idleNone, setAsides := 0, reads := [], init := none, bus := none, sysFault := none
        scrub := { pos := 0, timer := some 10 }
        clock := { s.clock with lastApplied := h.seq, alarm := none, tariffRaised := false }
        secure := { s.secure with keyLastApplied := h.seq } } := by
  have applies : initApplies h.seq s = true := by rw [initApplies_of_sound hs signature]; exact decide_eq_true past
  unfold applyInit
  dsimp only
  rw [touchItem_of_sound hs, if_pos applies, initialiseAll_of_copy copy, endStartUp_of_initial rfl rfl]
  rfl

/-- Settles O53: each record by its own guard. -/
theorem officeRecordsTakeEffect : Obligations.OfficeRecordsTakeEffect := by
  intro s h inService figures hs after entry
  have written (spoken : Spoken) (u : Fin 8) (f : TermEntry → TermEntry) :
      (spoken, applyTerm u h.seq f s) = (spoken, entry u f) := congrArg _ (applyTerm_eq hs u h.seq f)
  refine ⟨fun t from_ => ?_, fun b => written _ _ _, fun u role => written _ _ _,
    fun c => ⟨fun past => ?_, applySettings_past hs c, fun req req_eq => ?_⟩, fun k c n copy signature =>
      ⟨rfl, applyInit_written hs copy signature, fun past waiting => applyInit_past hs ?_ waiting⟩⟩
  · show applyShiftOpen inService h s = _
    rw [applyShiftOpen, headTerminal_of_eq from_]
    exact written _ _ _
  · show applySettings h c s = _
    rw [applySettings_written hs c past, restartScrub_eq]
    unfold scrubAfter SettingsChange.on
    cases c.scrubInterval with
    | none => rfl
    | some n => rfl
  · show settingsSpoken figures c = _
    simp only [req_eq, settingsSpoken, settingAnswer_eq]
    rfl
  · rw [initApplies_of_sound hs signature]
    exact decide_eq_false (Nat.not_lt.mpr past)

end Sys2Proof.Machine
end

section
/-!
SUPPORT. What the judging of a request can do (R173, R174), said once for every law of the state: each judgement is a
run of the operations of `JudgeStep`, so a law that each of them keeps holds of the state that the request leaves.
-/
namespace Sys2Proof.Machine

/-- One operation of a judgement on the state. A record is queued only where the write queue has a free entry (R124). -/
inductive JudgeStep : State → State → Prop
  | touch (i : SysItem) (s : State) : JudgeStep s (touchItem i s)
  | words (p : Nat → Bool) (s : State) : JudgeStep s (readWords p s)
  | damage (slot : Nat) (s : State) : JudgeStep s (enterDamage slot s)
  | emptied (s : State) : JudgeStep s (emptyIndex s)
  | live (meter slot : Nat) (s : State) : JudgeStep s (addLive meter slot s)
  | entry (t : Fin 8) (f : TermEntry → TermEntry) (s : State) : JudgeStep s (writeTerm t f s)
  | cleared (s : State) : JudgeStep s (storeItems [.damageList, .errorLog] (fun a =>
      { a with errorLog := .clear, damage := { a.damage with overflow := false } }) s)
  | idle (t : Fin 8) (v : IdleTimer) (s : State) : JudgeStep s (setIdle t v s)
  | lookup (t : Fin 8) (l : Lookup) (s : State) : JudgeStep s ((setLookup t (some l) s).setReads (s.reads ++ [t]))
  | released (t : Fin 8) (s : State) : JudgeStep s (releaseSale t s)
  | quoted (t : Fin 8) (p : PendingSale) (s : State) : JudgeStep s (acceptQuote t p s)
  | sale (t : Fin 8) (p : PendingSale) (s : State) : JudgeStep s (setSale t (some p) s)
  | pointers (head tail : Nat) (s : State) : JudgeStep s (setPointers head tail s)
  | retry (w : RetryWork) (s : State) : JudgeStep s (s.setRetry (some w))
  | latch (s : State) : JudgeStep s (s.setSecure { s.secure with tamperLatch := false })
  | record (o : Owner) (head : RecordHead) (body : RecordBody) (figures : Figures) (due : Bool) (s : State)
      (room : s.queue.length < 8) : JudgeStep s (queueRecord o head body figures due s)
  | initialise (w : InitWork) (s : State) : JudgeStep s (acceptInit w s)

/-- A run of such operations. -/
abbrev Judges : State → State → Prop := Relation.ReflTransGen JudgeStep

/-- A law that every operation keeps is kept by a run of them. -/
theorem Judges.keeps {P : State → Prop} (step : ∀ s t, JudgeStep s t → P s → P t) {s t : State} (run : Judges s t)
    (h : P s) : P t := by
  induction run with
  | refl => exact h
  | tail _ last ih => exact step _ _ last ih

/-! ### The shared operations -/

theorem JudgeStep.run {s t : State} (h : JudgeStep s t) : Judges s t := .single h

theorem readSlot_judges (slot : Nat) (s : State) : Judges s (readSlot slot s) := (JudgeStep.words _ s).run

theorem restartIdle_judges (t : Fin 8) (s : State) : Judges s (restartIdle t s) := by
  have read (i : SysItem) (u : State) : Judges u (touchItem i u) := (JudgeStep.touch i u).run
  have set (v : IdleTimer) (u : State) : Judges u (setIdle t v u) := (JudgeStep.idle t v u).run
  unfold restartIdle
  dsimp only
  split_ifs
  · exact (read _ _).trans (set _ _)
  · exact (read _ _).trans (set _ _)
  · exact ((read _ _).trans (read _ _)).trans (set _ _)
  · exact (read _ _).trans (set _ _)

theorem holdIdle_judges (t : Fin 8) (s : State) : Judges s (holdIdle t s) := by
  unfold holdIdle
  split
  · exact (JudgeStep.idle t _ s).run
  · exact .refl

theorem foldl_touchItem_judges (is : List SysItem) (s : State) : Judges s (is.foldl (fun u i => touchItem i u) s) := by
  induction is generalizing s with
  | nil => exact .refl
  | cons i is ih => exact (JudgeStep.touch i s).run.trans (ih _)

theorem searchFree_judges (fuel slot : Nat) (s : State) : Judges s (searchFree fuel slot s).2 := by
  induction fuel generalizing slot s with
  | zero => exact .refl
  | succ fuel ih =>
    unfold searchFree
    split
    · exact ih _ s
    · split
      · exact (readSlot_judges slot s).trans (ih _ _)
      · split
        · exact readSlot_judges slot s
        · exact (readSlot_judges slot s).trans (ih _ _)

theorem rebuildSlot_judges (slot : Nat) (r : Rebuild) : Judges r.state (rebuildSlot slot r).state := by
  have read := readSlot_judges slot r.state
  unfold rebuildSlot
  split
  · exact .refl
  · split
    · exact read
    · dsimp only
      split_ifs
      · exact read
      · exact read.tail (.damage slot _)
      · exact read.tail (.live _ slot _)

theorem rebuildFrom_judges (fuel slot : Nat) (r : Rebuild) : Judges r.state (rebuildFrom fuel slot r).state := by
  induction fuel generalizing slot r with
  | zero => exact .refl
  | succ fuel ih => exact (rebuildSlot_judges slot r).trans (ih _ _)

theorem releaseOldest_judges (s : State) : Judges s (releaseOldest s).2 := by
  unfold releaseOldest
  repeat' split
  · exact (JudgeStep.pointers _ _ s).run
  · exact .refl
  · exact .refl

theorem releaseOldest_queue (s : State) : (releaseOldest s).2.queue = s.queue := by
  have pointers (head tail : Nat) : (setPointers head tail s).queue = s.queue := by
    have same := writeItem_same .ring (fun a => { a with ring := { head := head, tail := tail } })
      (s.setCopy (s.copy.map (fun c => { c with head := head, tail := tail })))
    unfold setPointers
    dsimp only
    rw [same]
    rfl
  unfold releaseOldest
  repeat' split
  · exact pointers _ _
  · rfl
  · rfl

/-! ### The steps of a judgement -/

/-- A judgement is a run of operations, whether it goes on or refuses the request. -/
def Judge.Moves {α : Type} (x : Judge α) : Prop := ∀ s, Judges s (x.leaves s)

section
variable {α β : Type}

theorem Judge.Moves.bind {x : Judge α} {f : α → Judge β} (hx : x.Moves) (hf : ∀ a, (f a).Moves) :
    (x >>= f).Moves := by
  intro s
  have first := hx s
  rw [Judge.leaves_bind]
  unfold Judge.leaves at first
  cases e : x.run s with
  | ok a t =>
    rw [e] at first
    exact first.trans (hf a t)
  | error r t =>
    rw [e] at first
    exact first

theorem moves_pure (a : α) : Judge.Moves (pure a) := fun _ => .refl

theorem moves_throw (e : ResultCode × ReplyBody) : Judge.Moves (throw e : Judge α) := fun _ => .refl

theorem moves_get : Judge.Moves get := fun _ => .refl

theorem moves_modify {f : State → State} (hf : ∀ s, Judges s (f s)) : Judge.Moves (modify f) := hf

theorem moves_step {f : State → State} (hf : ∀ s, JudgeStep s (f s)) : Judge.Moves (modify f) := fun s => (hf s).run

/-- The state seen is replaced by one made from it. -/
theorem moves_replace {f : State → State} {g : State → Judge β} (hf : ∀ s, Judges s (f s)) (hg : ∀ s, (g s).Moves) :
    (get >>= fun s => set (f s) >>= fun _ => g s).Moves := fun s => (hf s).trans (hg s (f s))

theorem moves_needWith (b : Bool) (r : ResultCode) (body : ReplyBody) : (needWith b r body).Moves := by
  cases b
  · exact moves_throw _
  · exact moves_pure _

theorem moves_need (b : Bool) (r : ResultCode) : (need b r).Moves := moves_needWith b r .empty

theorem moves_check (p : State → Bool) (r : ResultCode) : (check p r).Moves := moves_get.bind fun _ => moves_need _ _

/-- What follows a check on the state may use that it was passed. -/
theorem judges_after_need {b : Bool} {r : ResultCode} {f : Unit → Judge α} {s : State}
    (goes : b = true → Judges s ((f ()).leaves s)) : Judges s ((need b r >>= f).leaves s) := by
  rw [Judge.leaves_bind, need_run]
  cases b
  · exact .refl
  · exact goes rfl

theorem moves_readItem (i : SysItem) : (readItem i).Moves :=
  moves_get.bind fun _ => (moves_step (.touch i)).bind fun _ => moves_need _ _

theorem moves_readAccount (slot : Nat) : (readAccount slot).Moves := by
  refine (moves_readItem _).bind fun _ => (moves_check _ _).bind fun _ => moves_get.bind fun _ =>
    (moves_modify (readSlot_judges slot)).bind fun _ => ?_
  split
  · exact moves_pure _
  · exact moves_throw _

theorem moves_lookupMeter (meter : Nat) : (lookupMeter meter).Moves := by
  refine (moves_step (.words _)).bind fun _ => (moves_check _ _).bind fun _ =>
    (moves_step fun s => .words _ s).bind fun _ => (moves_check _ _).bind fun _ => moves_get.bind fun _ => ?_
  split
  · exact moves_throw _
  · split
    · exact moves_pure _
    · exact (moves_readAccount _).bind fun _ => moves_throw _

/-- A record that admission lets through finds the write queue with a free entry (R124 check 3). -/
theorem admission_room {s : State} (admits : admission s = none) : s.queue.length < 8 := by
  unfold admission admitEntry at admits
  split_ifs at admits with ready room entry
  simpa using entry

/-- What follows admission may use the free entry. -/
theorem moves_admitted {f : Unit → Judge α} (hf : ∀ s, s.queue.length < 8 → Judges s ((f ()).leaves s)) :
    (needAdmission >>= f).Moves := by
  intro s
  rw [Judge.leaves_bind, needAdmission_run]
  cases admits : admission s with
  | some r => exact .refl
  | none => exact hf s (admission_room admits)

theorem moves_journaled (o : Owner) (body : RecordBody) (figures : Figures) : (journaled o body figures).Moves :=
  moves_admitted fun s room => (JudgeStep.record o (headNow o.terminal s) body figures true s room).run

end

/-! ### The accounts and the meter index -/

theorem moves_needIndex : needIndex.Moves := (moves_step (.words _)).bind fun _ => moves_check _ _

theorem moves_searchIndex (meter : Nat) : (searchIndex meter).Moves :=
  (moves_step fun s => .words _ s).bind fun _ => moves_check _ _

theorem moves_needNewNumber (meter : Nat) : (needNewNumber meter).Moves :=
  (moves_searchIndex _).bind fun _ => (moves_check _ _).bind fun _ => moves_check _ _

theorem moves_namedAccount (meter : Nat) : (namedAccount meter).Moves :=
  (moves_check _ _).bind fun _ => (moves_check _ _).bind fun _ => (moves_lookupMeter _).bind fun _ =>
    (moves_readAccount _).bind fun _ => (moves_check _ _).bind fun _ => moves_pure _

theorem moves_takeFreeSlot : takeFreeSlot.Moves := by
  refine (moves_readItem _).bind fun _ => moves_replace (searchFree_judges _ _) fun s => ?_
  split
  · exact moves_pure _
  · exact moves_throw _

theorem moves_ownCreate (o : Owner) (a : NewAccount) : (ownCreate o a).Moves :=
  (moves_check _ _).bind fun _ => (moves_check _ _).bind fun _ => moves_needIndex.bind fun _ =>
    (moves_needNewNumber _).bind fun _ => moves_takeFreeSlot.bind fun _ => (moves_check _ _).bind fun _ =>
      moves_journaled _ _ _

theorem moves_ownEdit (o : Owner) (r : Nat × AccountEdit) : (ownEdit o r).Moves :=
  (moves_namedAccount _).bind fun _ => moves_journaled _ _ _

theorem moves_ownClose (o : Owner) (meter : Nat) : (ownClose o meter).Moves :=
  (moves_namedAccount _).bind fun _ => (moves_needWith _ _ _).bind fun _ => moves_journaled _ _ _

theorem moves_ownReplace (o : Owner) (r : ReplaceReq) : (ownReplace o r).Moves :=
  (moves_namedAccount _).bind fun _ => (moves_needNewNumber _).bind fun _ => (moves_check _ _).bind fun _ =>
    moves_journaled _ _ _

theorem moves_ownRekey (o : Owner) (meter : Nat) : (ownRekey o meter).Moves :=
  (moves_namedAccount _).bind fun _ => moves_journaled _ _ _

theorem moves_ownAccountRead (o : Owner) (n : AccountName) : (ownAccountRead o n).Moves := by
  have named : (nameSlot n).Moves := by
    cases n with
    | meter n => exact moves_lookupMeter n
    | slot n => exact moves_pure n
  refine (moves_check _ _).bind fun _ => named.bind fun _ => (moves_readAccount _).bind fun _ =>
    moves_get.bind fun _ => ?_
  split <;> exact moves_pure _

theorem moves_needLoadIndex (slot meter : Nat) : (needLoadIndex slot meter).Moves :=
  moves_needIndex.bind fun _ => (moves_searchIndex _).bind fun _ => (moves_check _ _).bind fun _ =>
    (moves_check _ _).bind fun _ =>
      ((moves_step fun s => .words _ s).bind fun _ => moves_check _ _).bind fun _ => moves_check _ _

theorem moves_ownLoad (o : Owner) (r : LoadReq) : (ownLoad o r).Moves := by
  refine (moves_check _ _).bind fun _ => (moves_check _ _).bind fun _ => (moves_check _ _).bind fun _ =>
    (moves_check _ _).bind fun _ => ?_
  dsimp only
  split
  · exact (moves_needLoadIndex _ _).bind fun _ => moves_journaled _ _ _
  · exact moves_journaled _ _ _

theorem moves_ownRebuild (o : Owner) (x : Unit) : (ownRebuild o x).Moves :=
  (moves_check _ _).bind fun _ => (moves_readItem _).bind fun _ =>
    moves_replace (fun s => (JudgeStep.emptied s).run.trans
      (rebuildFrom_judges 16384 0 { passed := 0, state := emptyIndex s })) fun _ => moves_pure _

/-! ### Tariffs, keys, the clock and the settings -/

theorem moves_ownTariffLoad (o : Owner) (r : TariffLoadReq) : (ownTariffLoad o r).Moves := by
  refine (moves_check _ _).bind fun _ => (moves_check _ _).bind fun _ => ?_
  split
  · exact moves_throw _
  · exact (moves_readItem _).bind fun _ => moves_get.bind fun _ => (moves_check _ _).bind fun _ =>
      moves_journaled _ _ _

theorem moves_ownTariffRead (o : Owner) (pending : Bool) : (ownTariffRead o pending).Moves :=
  moves_get.bind fun _ => (moves_modify (foldl_touchItem_judges _)).bind fun _ =>
    (moves_need _ _).bind fun _ => moves_get.bind fun _ => (moves_needWith _ _ _).bind fun _ =>
      (moves_needWith _ _ _).bind fun _ => moves_pure _

theorem moves_ownKeyLoad (o : Owner) (r : KeyLoadReq) : (ownKeyLoad o r).Moves := by
  refine (moves_check _ _).bind fun _ => (moves_check _ _).bind fun _ => (moves_check _ _).bind fun _ =>
    (moves_check _ _).bind fun _ => (moves_check _ _).bind fun _ => (moves_check _ _).bind fun _ =>
      moves_get.bind fun _ => ?_
  split
  · exact moves_throw _
  · exact moves_journaled _ _ _

theorem moves_ownKeyRetire (o : Owner) (r : Nat × Nat) : (ownKeyRetire o r).Moves := by
  refine (moves_check _ _).bind fun _ => (moves_check _ _).bind fun _ => moves_get.bind fun _ => ?_
  split
  · exact moves_throw _
  · exact (moves_check _ _).bind fun _ => moves_journaled _ _ _

theorem moves_ownKeyList (o : Owner) (x : Unit) : (ownKeyList o x).Moves :=
  (moves_check _ _).bind fun _ => moves_get.bind fun _ => moves_pure _

theorem moves_ownTamperClear (o : Owner) (x : Unit) : (ownTamperClear o x).Moves :=
  (moves_check _ _).bind fun _ => (moves_step .latch).bind fun _ => moves_pure _

theorem moves_ownClockRead (o : Owner) (x : Unit) : (ownClockRead o x).Moves :=
  moves_get.bind fun _ => moves_pure _

theorem moves_ownClockSet (o : Owner) (reading : Nat) : (ownClockSet o reading).Moves :=
  (moves_check _ _).bind fun _ => (moves_check _ _).bind fun _ => moves_get.bind fun _ =>
    (moves_needWith _ _ _).bind fun _ => moves_journaled _ _ _

theorem moves_ownStatus (o : Owner) (x : Unit) : (ownStatus o x).Moves :=
  (moves_step (.words _)).bind fun _ => moves_get.bind fun _ => moves_pure _

theorem moves_ownSettingsRead (o : Owner) (x : Unit) : (ownSettingsRead o x).Moves :=
  (moves_readItem _).bind fun _ => moves_get.bind fun _ => moves_pure _

theorem moves_ownSettingsSet (o : Owner) (c : SettingsChange) : (ownSettingsSet o c).Moves :=
  (moves_need _ _).bind fun _ => (moves_check _ _).bind fun _ => moves_journaled _ _ _

theorem moves_ownIntegrityRead (o : Owner) (x : Unit) : (ownIntegrityRead o x).Moves :=
  (moves_modify fun s => (foldl_touchItem_judges [.errorLog, .damageList, .settings] s).tail
    (.words headerWord _)).bind fun _ => moves_get.bind fun _ => moves_pure _

theorem moves_ownIntegrityClear (o : Owner) (x : Unit) : (ownIntegrityClear o x).Moves :=
  (moves_check _ _).bind fun _ => (moves_readItem _).bind fun _ => (moves_readItem _).bind fun _ =>
    (moves_step .cleared).bind fun _ => moves_pure _

/-! ### Shifts, the reserve and the journal -/

theorem moves_ownShiftOpen (o : Owner) (operator : Nat) : (ownShiftOpen o operator).Moves := by
  refine (moves_check _ _).bind fun _ => moves_get.bind fun _ => ?_
  dsimp only
  split
  · exact (moves_step (.entry _ _)).bind fun _ => (moves_modify (restartIdle_judges _)).bind fun _ => moves_pure _
  · exact (moves_check _ _).bind fun _ => moves_admitted fun s room => (JudgeStep.record _ _ _ _ _ s room).run

theorem moves_ownShiftClose (o : Owner) (target : Fin 8) : (ownShiftClose o target).Moves :=
  (moves_check _ _).bind fun _ => (moves_readItem _).bind fun _ => (moves_check _ _).bind fun _ =>
    (moves_check _ _).bind fun _ => moves_admitted fun s room =>
      (JudgeStep.record _ _ _ _ _ s room).run.trans (holdIdle_judges target _)

theorem moves_ownShiftResume (o : Owner) (operator : Nat) : (ownShiftResume o operator).Moves :=
  (moves_check _ _).bind fun _ => (moves_check _ _).bind fun _ => (moves_step (.entry _ _)).bind fun _ =>
    (moves_modify (restartIdle_judges _)).bind fun _ => moves_get.bind fun _ => moves_pure _

theorem moves_ownShiftRead (o : Owner) (target : Fin 8) : (ownShiftRead o target).Moves :=
  (moves_check _ _).bind fun _ => (moves_readItem _).bind fun _ => moves_get.bind fun _ => moves_pure _

theorem moves_ownTerminalSet (o : Owner) (r : Fin 8 × Role) : (ownTerminalSet o r).Moves :=
  (moves_need _ _).bind fun _ => (moves_check _ _).bind fun _ => (moves_readItem _).bind fun _ =>
    (moves_check _ _).bind fun _ => moves_journaled _ _ _

theorem moves_ownGrant (o : Owner) (v : Voucher) : (ownGrant o v).Moves :=
  (moves_check _ _).bind fun _ => (moves_check _ _).bind fun _ => (moves_check _ _).bind fun _ =>
    (moves_check _ _).bind fun _ => (moves_readItem _).bind fun _ => moves_get.bind fun _ =>
      (moves_needWith _ _ _).bind fun _ => (moves_needWith _ _ _).bind fun _ => moves_journaled _ _ _

theorem moves_ownReserveRead (o : Owner) (x : Unit) : (ownReserveRead o x).Moves :=
  (moves_check _ _).bind fun _ => (moves_readItem _).bind fun _ => (moves_readItem _).bind fun _ =>
    moves_get.bind fun _ => moves_pure _

theorem moves_ownJournalRead (o : Owner) (r : Nat × Nat) : (ownJournalRead o r).Moves := by
  have info (p : State → Bool) (c : ResultCode) : (needInfo p c).Moves :=
    moves_get.bind fun _ => moves_needWith _ _ _
  exact (moves_modify (foldl_touchItem_judges [.cause, .settings])).bind fun _ => (info _ _).bind fun _ =>
    (info _ _).bind fun _ => (info _ _).bind fun _ => (info _ _).bind fun _ =>
      (moves_step fun s => .lookup _ _ s).bind fun _ => moves_pure _

theorem moves_ownJournalRelease (o : Owner) (m : Nat) : (ownJournalRelease o m).Moves :=
  (moves_check _ _).bind fun _ => (moves_check _ _).bind fun _ =>
    (moves_step fun s => .pointers _ _ s).bind fun _ => moves_get.bind fun _ => moves_pure _

theorem moves_ownJournalRetry (o : Owner) (x : Unit) : (ownJournalRetry o x).Moves :=
  (moves_check _ _).bind fun _ => (moves_check _ _).bind fun _ => (moves_check _ _).bind fun _ =>
    (moves_modify fun s => (JudgeStep.retry _ s).run.trans (holdIdle_judges _ _)).bind fun _ => moves_pure _

theorem moves_ownInitialise (o : Owner) (x : Unit) : (ownInitialise o x).Moves := by
  intro s
  unfold ownInitialise
  rw [Judge.leaves_bind, judge_get]
  dsimp only
  split
  · exact judges_after_need fun _ => (JudgeStep.initialise _ s).run
  · refine judges_after_need (b := admitEntry s) fun entry => judges_after_need fun _ => ?_
    have room : (releaseOldest s).2.queue.length < 8 := by
      rw [releaseOldest_queue]
      exact of_decide_eq_true entry
    exact ((releaseOldest_judges s).tail (.record _ _ _ _ _ _ room)).tail (.initialise _ _)

/-! ### The sale, REISSUE and REVERSE, and the ends of their lookups (R68 to R88) -/

theorem moves_needLastSale (a : Account) : (needLastSale a).Moves := by
  unfold needLastSale
  split
  · exact moves_throw _
  · exact (moves_need _ _).bind fun _ => moves_pure _

theorem moves_needReissue (l : LastSale) : (needReissue l).Moves :=
  (moves_readItem _).bind fun _ => moves_check _ _

theorem moves_lookupAccount (t : Fin 8) (meter : Nat) : (lookupAccount t meter).Moves :=
  (moves_check _ _).bind fun _ => (moves_check _ _).bind fun _ => (moves_check _ _).bind fun _ =>
    (moves_lookupMeter _).bind fun _ => (moves_readAccount _).bind fun _ => moves_pure _

theorem moves_ownReissue (o : Owner) (meter : Nat) : (ownReissue o meter).Moves :=
  (moves_lookupAccount _ _).bind fun _ => (moves_needLastSale _).bind fun _ => (moves_needReissue _).bind fun _ =>
    (moves_check _ _).bind fun _ => (moves_check _ _).bind fun _ =>
      (moves_step fun s => .lookup _ _ s).bind fun _ => moves_pure _

theorem moves_ownReverse (o : Owner) (meter : Nat) : (ownReverse o meter).Moves :=
  (moves_lookupAccount _ _).bind fun _ => (moves_needLastSale _).bind fun _ =>
    ((moves_readItem _).bind fun _ => moves_check _ _).bind fun _ => (moves_need _ _).bind fun _ =>
      (moves_check _ _).bind fun _ => (moves_check _ _).bind fun _ => (moves_check _ _).bind fun _ =>
        (moves_step fun s => .lookup _ _ s).bind fun _ => moves_pure _

theorem moves_queueVend (t : Fin 8) (v : VendLookup) (body : RecordBody) (figures : Figures) :
    (queueVend t v body figures).Moves :=
  (moves_readItem _).bind fun _ => moves_admitted fun s room => (JudgeStep.record _ _ _ _ _ s room).run

theorem moves_vendEnd (t : Fin 8) (v : VendLookup) (found : Option SaleBody) : (vendEnd t v found).Moves := by
  unfold vendEnd
  split
  · exact moves_throw _
  · split
    · exact (moves_readAccount _).bind fun _ => (moves_needLastSale _).bind fun _ => (moves_needReissue _).bind fun _ =>
        (moves_check _ _).bind fun _ => (moves_need _ _).bind fun _ => moves_queueVend _ _ _ _
    · exact (moves_readAccount _).bind fun _ => (moves_needLastSale _).bind fun _ => (moves_need _ _).bind fun _ =>
        (moves_check _ _).bind fun _ => (moves_need _ _).bind fun _ => (moves_need _ _).bind fun _ =>
          (moves_readItem _).bind fun _ => (moves_check _ _).bind fun _ => moves_queueVend _ _ _ _

theorem moves_ownQuote (o : Owner) (r : QuoteReq) : (ownQuote o r).Moves := by
  have account (t : Fin 8) (meter : Nat) : (quoteAccount t meter).Moves :=
    (moves_lookupMeter _).bind fun _ => (moves_readAccount _).bind fun _ => (moves_need _ _).bind fun _ =>
      (moves_check _ _).bind fun _ => moves_pure _
  have bank (n : Nat) : (quoteBank n).Moves := by
    refine (moves_readItem _).bind fun _ => moves_get.bind fun _ => ?_
    split
    · exact moves_throw _
    · exact (moves_need _ _).bind fun _ => moves_pure _
  have plan (mode : SaleMode) (a : Account) : (quotePlan mode a).Moves := by
    refine moves_get.bind fun _ => ?_
    split
    · exact moves_throw _
    · exact moves_pure _
  have credit (t : Fin 8) (a : Account) (b : TariffBank) : (quoteCredit t r a b).Moves := by
    refine (moves_readItem _).bind fun _ => moves_get.bind fun _ => ?_
    dsimp only
    split
    · exact moves_throw _
    · exact moves_pure _
  exact (moves_check _ _).bind fun _ => (moves_check _ _).bind fun _ => (moves_check _ _).bind fun _ =>
    (account _ _).bind fun _ => (bank _).bind fun _ => (plan _ _).bind fun _ => (credit _ _ _).bind fun _ =>
      (moves_check _ _).bind fun _ => (moves_readItem _).bind fun _ => moves_get.bind fun _ =>
        (moves_step (.quoted _ _)).bind fun _ => moves_pure _

theorem acceptConfirm_judges (o : Owner) (p : PendingSale) {s : State} (room : s.queue.length < 8) :
    Judges s (acceptConfirm o p s) :=
  ((JudgeStep.record _ _ _ _ _ s room).run.tail (.sale _ _ _)).trans (holdIdle_judges _ _)

theorem moves_ownConfirm (o : Owner) (x : Unit) : (ownConfirm o x).Moves := by
  have release (r : ResultCode) (body : ReplyBody) : (releaseRefuse o.terminal r body).Moves :=
    (moves_step (.released _)).bind fun _ => moves_throw _
  have admitted (p : PendingSale) :
      (do needAdmission; modify (acceptConfirm o p); pure Answer.later : Judge Answer).Moves :=
    moves_admitted fun _ room => acceptConfirm_judges o p room
  have whole (p : PendingSale) : (do
      readItem .damageList
      if p.slot ∈ (← get).mem.sys.damage.slots then releaseRefuse o.terminal .accountDamaged .empty
      needAdmission
      modify (acceptConfirm o p)
      pure Answer.later : Judge Answer).Moves := by
    refine (moves_readItem _).bind fun _ => moves_get.bind fun _ => ?_
    dsimp only
    split
    · exact (release _ _).bind fun _ => admitted p
    · exact admitted p
  unfold ownConfirm
  refine moves_get.bind fun _ => ?_
  split
  · exact moves_throw _
  · refine (moves_need _ _).bind fun _ => (moves_check _ _).bind fun _ => (moves_readItem _).bind fun _ =>
      moves_get.bind fun _ => ?_
    dsimp only
    split
    · exact (release _ _).bind fun _ => whole _
    · exact whole _

theorem moves_ownCancel (o : Owner) (x : Unit) : (ownCancel o x).Moves := by
  unfold ownCancel
  refine moves_get.bind fun _ => ?_
  split
  · exact moves_throw _
  · exact (moves_need _ _).bind fun _ => (moves_step (.released _)).bind fun _ => moves_pure _

/-! ### The dispatcher (R173, R174) -/

/-- A law of the state that the operations of a judgement keep, and the taking of a frame and the entry of a reply. -/
structure RequestLaw (P : State → Prop) : Prop where
  frame : ∀ s, P s → P (takeFrame s)
  judged : ∀ s t, JudgeStep s t → P s → P t
  reply : ∀ k t tag r body s, P s → P (pushReply k t tag r body s)

section
variable {P : State → Prop} (law : RequestLaw P) {s : State}
include law

theorem RequestLaw.judges {t : State} (run : Judges s t) (h : P s) : P t := run.keeps law.judged h

theorem RequestLaw.takeRequest {α : Type} {k : Kind} {parse : List Byte → Option α} {own : Owner → α → Judge Answer}
    (owner : ∀ o a, (own o a).Moves) (h : P s) : P (takeRequest k parse own s) := by
  have judged (o : Owner) (body : List Byte) : (judge k parse own o body).Moves := by
    refine moves_get.bind fun _ => moves_get.bind fun _ => (moves_modify (restartIdle_judges _)).bind fun _ =>
      (moves_need _ _).bind fun _ => (moves_check _ _).bind fun _ => (moves_check _ _).bind fun _ => ?_
    split
    · exact moves_throw _
    · exact owner _ _
  have concluded (t tag) (x : Judge Answer) (u : State) (left : P (x.leaves u)) :
      P (conclude k.byte t tag (x.run u)) := by
    unfold Judge.leaves at left
    unfold conclude
    split
    all_goals
      rename_i e
      rw [e] at left
    · exact law.reply _ _ _ _ _ _ left
    · exact left
    · exact law.reply _ _ _ _ _ _ left
  have taken := law.frame s h
  unfold Machine.takeRequest answerFrame
  split
  · exact h
  · split
    · split
      · exact law.reply _ _ _ _ _ _ taken
      · split
        · exact law.reply _ _ _ _ _ _ taken
        · exact concluded _ _ _ _ (law.judges (judged _ _ _) taken)
    · exact h

/-- The end of a lookup too (R84, R86, R88). -/
theorem RequestLaw.endLookup {t : Fin 8} (freed : P (setLookup t none s)) (v : VendLookup) (found : Option SaleBody) :
    P (endLookup t v found s) := by
  have owed (due : Bool) (k : Byte) (r : ResultCode) (body : ReplyBody) (u : State) (h : P u) :
      P (replyIf due k t v.tag r body u) := by
    cases due
    · exact h
    · exact law.reply _ _ _ _ _ _ h
  have left : P ((vendEnd t v found).leaves (setLookup t none s)) := law.judges (moves_vendEnd t v found _) freed
  unfold Judge.leaves at left
  unfold Machine.endLookup concludeVend
  split
  all_goals
    rename_i e
    rw [e] at left
  · exact owed _ _ _ _ _ left
  · exact left
  · exact owed _ _ _ _ _ left

end

end Sys2Proof.Machine
end

section
/-!
SUPPORT. The canonical form of account memory, of the journal device and of the key store, and the bounds of the write
queue, the reading and the scrub position (R123, R150, R156), through every operation. Reading and writing account
memory keep the form by Laws/Memory.lean and leave the rest (`SameBut`).
-/
namespace Sys2Proof.Machine

/-- The law of the statement, as one proposition about a state. -/
structure State.Fit (s : State) : Prop where
  mem : s.mem.wf = true
  device : SMap.rising s.device = true
  keys : SMap.rising s.secure.slots = true
  queued : s.queue.length ≤ 8
  reading : s.clock.reading ≤ lastReading
  scrub : s.scrub.pos < 262144

theorem fit_iff {s : State} : s.Fit ↔ s.mem.wf = true ∧ storesWf s = true ∧ CountsFit s := by
  simp only [storesWf, CountsFit, Bool.and_eq_true]
  exact ⟨fun h => ⟨h.mem, ⟨h.device, h.keys⟩, h.queued, h.reading, h.scrub⟩,
    fun ⟨mem, ⟨device, keys⟩, queued, reading, scrub⟩ => ⟨mem, device, keys, queued, reading, scrub⟩⟩

section
variable {s : State} (h : s.Fit)
include h

/-! ### What the law does not speak of -/

theorem State.Fit.setPending (v : List Instr) : (s.setPending v).Fit := { h with }
theorem State.Fit.setPowered (v : Bool) : (s.setPowered v).Fit := { h with }
theorem State.Fit.setMode (v : ModuleMode) : (s.setMode v).Fit := { h with }
theorem State.Fit.setLine (v : LineState) : (s.setLine v).Fit := { h with }
theorem State.Fit.setTx (v : List Reply) : (s.setTx v).Fit := { h with }
theorem State.Fit.setTerms (v : Eight TermWork) : (s.setTerms v).Fit := { h with }
theorem State.Fit.setSetAsides (v : Nat) : (s.setSetAsides v).Fit := { h with }
theorem State.Fit.setCopy (v : Option RingCopy) : (s.setCopy v).Fit := { h with }
theorem State.Fit.setBus (v : Option BusOp) : (s.setBus v).Fit := { h with }
theorem State.Fit.setReads (v : List (Fin 8)) : (s.setReads v).Fit := { h with }
theorem State.Fit.setRetry (v : Option RetryWork) : (s.setRetry v).Fit := { h with }
theorem State.Fit.setInit (v : Option InitWork) : (s.setInit v).Fit := { h with }
theorem State.Fit.setSysFault (v : Option Nat) : (s.setSysFault v).Fit := { h with }
theorem State.Fit.setEnclosureOpen (v : Bool) : (s.setEnclosureOpen v).Fit := { h with }
theorem State.Fit.setDraws (v : Nat) : (s.setDraws v).Fit := { h with }

/-! ### Account memory -/

/-- What reaches account memory, the mode and the fault address alone, and keeps the form of memory. -/
theorem State.Fit.ofSame {t : State} (same : SameBut s t) (wf : t.mem.wf = true) : t.Fit := by
  refine ⟨wf, ?_, ?_, ?_, ?_, ?_⟩
  all_goals rw [same]
  · exact h.device
  · exact h.keys
  · exact h.queued
  · exact h.reading
  · exact h.scrub

theorem touchItem_fit (i : SysItem) : (touchItem i s).Fit := h.ofSame (touchItem_same i s) (touchItem_wf h.mem i)

theorem readWords_fit (p : Nat → Bool) : (readWords p s).Fit := h.ofSame (readWords_same p s) (readWords_wf h.mem p)

theorem readSlot_fit (slot : Nat) : (readSlot slot s).Fit := readWords_fit h _

theorem freshWords_fit (p : Nat → Bool) : (freshWords p s).Fit := h.ofSame (freshWords_same p s) (freshWords_wf h.mem p)

theorem storeItems_fit (is : List SysItem) (f : SystemArea → SystemArea) : (storeItems is f s).Fit :=
  h.ofSame (storeItems_same is f s) (storeItems_wf h.mem is f)

theorem writeItems_fit (is : List SysItem) (f : SystemArea → SystemArea) : (writeItems is f s).Fit :=
  h.ofSame (writeItems_same is f s) (writeItems_wf h.mem is f)

theorem writeItem_fit (i : SysItem) (f : SystemArea → SystemArea) : (writeItem i f s).Fit := writeItems_fit h _ _

theorem writeSlot_fit (slot : Nat) (a : Account) : (writeSlot slot a s).Fit :=
  h.ofSame (writeSlot_same slot a s) (writeSlot_wf h.mem slot a)

theorem disturb_fit (d : Disturbance) : (disturb d s).Fit := h.ofSame (disturb_same d s) (disturb_wf h.mem d)

theorem setSale_fit (t : Fin 8) (v : Option PendingSale) : (setSale t v s).Fit := h.setTerms _
theorem setLookup_fit (t : Fin 8) (v : Option Lookup) : (setLookup t v s).Fit := h.setTerms _
theorem setIdle_fit (t : Fin 8) (v : IdleTimer) : (setIdle t v s).Fit := h.setTerms _

theorem releaseSale_fit (t : Fin 8) : (releaseSale t s).Fit := by
  unfold releaseSale
  split
  · exact setSale_fit (h.setSetAsides _) t none
  · exact h

theorem acceptQuote_fit (t : Fin 8) (p : PendingSale) : (acceptQuote t p s).Fit :=
  setSale_fit ((releaseSale_fit h t).setSetAsides _) t (some p)

theorem setPointers_fit (head tail : Nat) : (setPointers head tail s).Fit := writeItem_fit (h.setCopy _) _ _

theorem setMark_fit (m : Option FaultMark) : (setMark m s).Fit := writeItem_fit (h.setCopy _) _ _

theorem setIndex_fit {v : MeterIndex} (rising : SMap.rising v.entries = true) : (s.setIndex v).Fit :=
  h.ofSame (SameBut.setMem s _) (setIndex_wf h.mem rising)

theorem changeIndex_fit {f : SMap IndexEntry → SMap IndexEntry}
    (rising : ∀ m, SMap.rising m = true → SMap.rising (f m) = true) : (changeIndex f s).Fit :=
  h.ofSame (changeIndex_same s f) (changeIndex_wf h.mem rising)

/-- Account memory written afresh, and everything else as it stands. -/
theorem setMem_initial_fit (seq floor head tail : Nat) : (s.setMem (.initial seq floor head tail)).Fit :=
  h.ofSame (SameBut.setMem s _) (AccountMemory.initial_wf _ _ _ _)

theorem loseMemory_fit : (loseMemory s).Fit := h.ofSame rfl (loseMemory_wf s)

/-! ### The other stores and items -/

theorem setDevice_put_fit (pos : Nat) (p : Page) : (s.setDevice (SMap.put pos p s.device)).Fit :=
  { h with device := SMap.put_rising pos p h.device }

theorem leavePage_fit (pos : Nat) (r : Record) (left : PageLeft) : (leavePage pos r left s).Fit := by
  cases left with
  | unchanged => exact h
  | asSent => exact setDevice_put_fit h _ _
  | bytes b => exact setDevice_put_fit h _ _

theorem setSecure_fit {v : SecureMemory} (rising : SMap.rising v.slots = true) : (s.setSecure v).Fit :=
  { h with keys := rising }

theorem setQueue_fit {q : List QueueEntry} (short : q.length ≤ 8) : (s.setQueue q).Fit := { h with queued := short }

/-- The entry at the front of the queue leaves it. -/
theorem setQueue_tail_fit : (s.setQueue s.queue.tail).Fit :=
  setQueue_fit h ((List.length_tail (l := s.queue)).trans_le ((Nat.sub_le _ _).trans h.queued))

theorem setClock_fit {c : Clock} (bound : c.reading ≤ lastReading) : (s.setClock c).Fit := { h with reading := bound }

theorem setScrub_fit {r : Scrubber} (bound : r.pos < 262144) : (s.setScrub r).Fit := { h with scrub := bound }

theorem setScrubTimer_fit (timer : Option Nat) : (s.setScrub { s.scrub with timer := timer }).Fit :=
  setScrub_fit h h.scrub

end

/-! ### The requests (R173, R174) -/

theorem judgeStep_fit {s t : State} (step : JudgeStep s t) (h : s.Fit) : t.Fit := by
  cases step with
  | touch i => exact touchItem_fit h i
  | words p => exact readWords_fit h p
  | damage slot => exact writeItem_fit h _ _
  | emptied => exact setIndex_fit (freshWords_fit h _) rfl
  | live meter slot => exact setIndex_fit h (SMap.put_rising _ _ (wf_parts.1 h.mem).2.1)
  | entry u f => exact writeItem_fit h _ _
  | cleared => exact storeItems_fit h _ _
  | released u => exact releaseSale_fit h u
  | quoted u p => exact acceptQuote_fit h u p
  | pointers head tail => exact setPointers_fit h head tail
  | latch => exact setSecure_fit h h.keys
  | record o head body figures due =>
    rename_i room
    exact setQueue_fit h ((List.length_append).trans_le room)
  | idle u v => exact setIdle_fit h u v
  | lookup u l => exact (setLookup_fit h u _).setReads _
  | sale u p => exact setSale_fit h u _
  | retry w => exact h.setRetry _
  | initialise w => exact ((h.setTerms _).setInit _).setMode _

theorem pushReply_fit {s : State} (h : s.Fit) (k t : Byte) (tag : Tag) (r : ResultCode) (body : ReplyBody) :
    (pushReply k t tag r body s).Fit := by
  have judged : (touchForFlags s).Fit := readWords_fit (touchItem_fit (touchItem_fit (touchItem_fit h _) _) _) _
  exact (judged.setTx _).setLine _

theorem requestLaw_fit : RequestLaw State.Fit :=
  ⟨fun _ h => h.setLine _, fun _ _ step h => judgeStep_fit step h, fun _ _ _ _ _ _ h => pushReply_fit h _ _ _ _ _⟩

/-! ### Replies, idle timers and the journal's pointers -/

section
variable {s : State} (h : s.Fit)
include h

theorem replyIf_fit (due : Bool) (k : Byte) (t : Fin 8) (tag : Tag) (r : ResultCode) (body : ReplyBody) :
    (replyIf due k t tag r body s).Fit := by
  cases due
  · exact h
  · exact pushReply_fit h _ _ _ _ _

theorem restartIdle_fit (t : Fin 8) : (restartIdle t s).Fit := requestLaw_fit.judges (restartIdle_judges t s) h

theorem raiseHead_fit : (raiseHead s).Fit := by
  unfold raiseHead
  split
  · exact setPointers_fit h _ _
  · exact h

theorem releaseOldest_fit : (releaseOldest s).2.Fit := requestLaw_fit.judges (releaseOldest_judges s) h

theorem closeMark_fit : (closeMark s).Fit := setMark_fit (raiseHead_fit h) _

theorem markFault_fit (seq pos : Nat) (cause : FaultCause) : (markFault seq pos cause s).Fit :=
  writeItem_fit (setMark_fit h _) _ _

/-! ### The tariff alarm, and the end of start-up or of an INITIALISE -/

theorem alarmFromMemory_fit : (alarmFromMemory s).Fit := by
  have read := touchItem_fit h .pendingBank
  unfold alarmFromMemory alarmFromPending
  dsimp only
  repeat' split
  · exact read
  · exact setClock_fit read read.reading
  · exact read

theorem takeTariffEffective_fit : (takeTariffEffective s).Fit := by
  have read := touchItem_fit h .pendingBank
  unfold takeTariffEffective
  dsimp only
  split_ifs
  · exact read
  · exact writeItems_fit read _ _
  · exact setClock_fit (writeItems_fit read _ _) (writeItems_fit read _ _).reading
  · exact read

theorem endStartUp_fit : (endStartUp s).Fit :=
  ((setScrub_fit (touchItem_fit (takeTariffEffective_fit (alarmFromMemory_fit h)) .settings)
    (Nat.zero_lt_succ _)).setBus none).setMode _

theorem foldl_fit {α : Type} {f : State → α → State} (each : ∀ u a, u.Fit → (f u a).Fit) (l : List α) :
    (l.foldl f s).Fit := List.foldlRecOn l f h fun u held a _ => each u a held

theorem returnFromInit_fit : (returnFromInit s).Fit := by
  unfold returnFromInit
  split
  · exact h
  · have idle (back : ModuleMode) := foldl_fit ((h.setMode back).setInit none)
      (f := fun acc t => restartIdle t acc) (fun u t held => restartIdle_fit held t) allTerminals
    exact setScrubTimer_fit (touchItem_fit (idle _) .settings) _

theorem abandonInit_fit (i : InitWork) (r : ResultCode) : (abandonInit i r s).Fit :=
  replyIf_fit (returnFromInit_fit (h.setBus none)) _ _ _ _ _ _

theorem endRetry_fit (w : RetryWork) (r : ResultCode) (body : ReplyBody) : (endRetry w r body s).Fit :=
  replyIf_fit (restartIdle_fit ((h.setBus none).setRetry none) _) _ _ _ _ _ _

theorem endJournalRead_fit (t : Fin 8) (w : JournalReadWork) (r : ResultCode) (reads : List PositionView) :
    (endJournalRead t w r reads s).Fit :=
  replyIf_fit (touchItem_fit (touchItem_fit (setLookup_fit h t none) _) _) _ _ _ _ _ _

theorem endLookup_fit (t : Fin 8) (v : VendLookup) (found : Option SaleBody) : (endLookup t v found s).Fit :=
  requestLaw_fit.endLookup (setLookup_fit h t none) v found

/-! ### The effects of a record (R121) -/

theorem applyAccount_fit (slot : Nat) (head : RecordHead) (f : Account → Account) :
    (applyAccount slot head f s).2.Fit := by
  have listed := touchItem_fit h .damageList
  have read := readSlot_fit listed slot
  unfold applyAccount
  dsimp only
  split_ifs
  · exact listed
  · split
    · exact read
    · split_ifs
      · exact writeSlot_fit read _ _
      · exact read

theorem applyLoad_fit (slot : Nat) (image : Account) (head : RecordHead) : (applyLoad slot image head s).2.Fit := by
  have read := readSlot_fit (touchItem_fit h .damageList) slot
  unfold applyLoad
  dsimp only
  split_ifs
  · exact changeIndex_fit (writeItem_fit (writeSlot_fit read _ _) _ _) fun _ => loadEntries_rising slot image
  · exact read

omit h in
/-- An index change that keeps the entries rising, made only when the account was written (R10). -/
theorem indexWhen_fit {r : Reached × State} (held : r.2.Fit) {f : SMap IndexEntry → SMap IndexEntry}
    (rising : ∀ m, SMap.rising m = true → SMap.rising (f m) = true) : (indexWhen r f).Fit := by
  unfold indexWhen
  split
  · exact changeIndex_fit held rising
  · exact held

theorem applyAccountRecord_fit (head : RecordHead) (a : AccountRecord) : (applyAccountRecord head a s).2.Fit := by
  cases a with
  | create slot n => exact indexWhen_fit (applyAccount_fit h slot head _) fun _ => SMap.put_rising _ _
  | edit slot _ e => exact applyAccount_fit h slot head _
  | close slot _ => exact indexWhen_fit (applyAccount_fit h slot head _) fun _ => dropEntries_rising _ _
  | replace slot old meter area gen =>
    exact indexWhen_fit (applyAccount_fit h slot head _) fun _ held => SMap.put_rising _ _ (SMap.put_rising _ _ held)
  | load slot image => exact applyLoad_fit h slot image head
  | rekey slot _ => exact applyAccount_fit h slot head _

theorem applyTotals_fit (head : RecordHead) (f : ShiftTotals → ShiftTotals) : (applyTotals head f s).Fit := by
  unfold applyTotals
  split
  · exact h
  · exact writeItem_fit h _ _

theorem applyReserve_fit (seq : Nat) (f : ReserveRecord → ReserveRecord) : (applyReserve seq f s).Fit :=
  writeItem_fit h _ _

theorem endSale_fit (head : RecordHead) : (endSale head s).Fit := by
  unfold endSale
  split
  · exact releaseSale_fit h _
  · exact h

theorem debtAfter_fit (slot : Nat) (r : Reached) : (debtAfter slot r s).2.Fit := by
  cases r with
  | withheld => exact h.setDraws _
  | written => exact h
  | passedOver => exact h

theorem applyTariff_fit (head : RecordHead) (b : TariffBank) (effective : Nat) :
    (applyTariff head b effective s).2.Fit := by
  have read := touchItem_fit h .bankIds
  unfold applyTariff installBank
  dsimp only
  split_ifs
  · exact read
  · exact writeItems_fit read _ _
  · exact alarmFromMemory_fit (writeItems_fit read _ _)
  · exact writeItems_fit read _ _
  · exact alarmFromMemory_fit (writeItems_fit read _ _)
  · exact read

theorem applyClock_fit (head : RecordHead) (new : Nat) : (applyClock head new s).2.Fit := by
  unfold applyClock
  dsimp only
  split_ifs
  · exact setClock_fit h (min_le_left _ _)
  · exact h

theorem applySettings_fit (head : RecordHead) (c : SettingsChange) : (applySettings head c s).Fit := by
  have read := touchItem_fit h .settings
  unfold applySettings
  dsimp only
  split_ifs
  · exact read
  · have stored := storeItems_fit read [.settings] fun a =>
      { a with settings := c.on a.settings, settingsApplied := head.seq }
    unfold restartScrub
    split
    · split_ifs
      · exact stored
      · exact setScrubTimer_fit stored _
    · exact stored
  · exact read

omit h in
theorem keyOn_rising (seq : Nat) (k : KeyBody) {m : SecureMemory} (rising : SMap.rising m.slots = true) :
    SMap.rising (keyOn seq k m).slots = true := by
  unfold keyOn
  dsimp only
  repeat' split
  · exact rising
  · exact SMap.put_rising _ _ rising
  · exact SMap.put_rising _ _ rising
  · exact rising
  · exact rising
  · exact SMap.erase_rising _ rising
  · exact rising
  · exact rising

theorem initialiseAll_fit (seq : Nat) : (initialiseAll seq s).Fit := by
  have memory := setMem_initial_fit h seq s.secure.voucherFloor ((s.copy.map (·.head)).getD (seq + 1))
    ((s.copy.map (·.tail)).getD (seq + 1))
  have emptied := setQueue_fit memory (q := []) (Nat.zero_le 8)
  have dropped := ((emptied.setTerms (.all8 .idleNone)).setSetAsides 0).setReads []
  have clocked := setClock_fit (dropped.setCopy (some
    { head := (s.copy.map (·.head)).getD (seq + 1), tail := (s.copy.map (·.tail)).getD (seq + 1), mark := none }))
    (c := { s.clock with lastApplied := seq, alarm := none, tariffRaised := false }) h.reading
  exact (setSecure_fit clocked (v := { s.secure with keyLastApplied := seq }) h.keys).setSysFault none

theorem applyInit_fit (head : RecordHead) : (applyInit head s).2.Fit := by
  have read := touchItem_fit h .signature
  unfold applyInit
  dsimp only
  split_ifs
  · exact (endStartUp_fit (initialiseAll_fit read head.seq)).setInit none
  · exact returnFromInit_fit read

theorem applyRecord_fit (inService : Bool) (figures : Figures) (r : Record) :
    (applyRecord inService figures r s).2.Fit := by
  obtain ⟨head, body⟩ := r
  cases body with
  | init _ => exact applyInit_fit h head
  | void _ => exact h
  | sale b => exact endSale_fit (applyTotals_fit (applyReserve_fit (applyAccount_fit h _ _ _) _ _) _ _) _
  | payment b => exact endSale_fit (applyTotals_fit (applyAccount_fit h _ _ _) _ _) _
  | reissue slot _ link =>
    simp only [applyRecord, applyReissue]
    exact applyTotals_fit (applyAccount_fit h _ _ _) _ _
  | reversal b => exact applyTotals_fit (applyReserve_fit (debtAfter_fit (applyAccount_fit h _ _ _) _ _) _ _) _ _
  | grant v => exact setSecure_fit (applyReserve_fit h _ _) (applyReserve_fit h _ _).keys
  | shiftOpen =>
    simp only [applyRecord, applyShiftOpen]
    split
    · exact h
    · exact writeItem_fit h _ _
  | shiftClose b => exact writeItem_fit h _ _
  | account a => exact applyAccountRecord_fit h head a
  | key k =>
    simp only [applyRecord, applyKey]
    split_ifs
    · exact setSecure_fit h (keyOn_rising _ _ h.keys)
    · exact h
  | tariff b effective => exact applyTariff_fit h head b effective
  | clock new => exact applyClock_fit h head new
  | settings c => exact applySettings_fit h head c
  | terminal t role => exact writeItem_fit h _ _
  | other _ => exact h

/-! ### Completions and fault answers (R134, R135) -/

theorem endHold_fit (r : Record) : (endHold r s).Fit := by
  unfold endHold
  split
  · exact restartIdle_fit h _
  · exact h

theorem answerEntry_fit (e : QueueEntry) (spoken : Spoken) : (answerEntry e spoken s).Fit := by
  unfold answerEntry
  split
  · exact replyIf_fit h _ _ _ _ _ _
  · exact h

theorem completeEntry_fit (e : QueueEntry) : (completeEntry e s).Fit := by
  have applied := applyRecord_fit (raiseHead_fit h) true e.figures e.record
  exact answerEntry_fit (endHold_fit ((setQueue_tail_fit applied).setBus none) _) _ _

theorem completeInit_fit (w : BusWrite) (i : InitWork) : (completeInit w i s).Fit :=
  replyIf_fit ((applyInit_fit (raiseHead_fit h) w.record.head).setBus none) _ _ _ _ _ _

theorem writeDone_fit (w : BusWrite) : (writeDone w s).Fit := by
  unfold writeDone
  repeat' split
  · exact completeEntry_fit h _
  · exact h.setBus none
  · exact completeInit_fit h _ _
  · exact h.setBus none
  · exact endStartUp_fit (raiseHead_fit h)
  · exact h
  · exact h

theorem faultEntry_fit (e : QueueEntry) : (faultEntry s e).Fit := by
  have left := setQueue_tail_fit h
  unfold faultEntry faultOwner
  refine answerEntry_fit ?_ _ _
  split
  · exact endHold_fit (endSale_fit left _) _
  · exact endHold_fit (endSale_fit left _) _
  · exact returnFromInit_fit left
  · exact endHold_fit left _

theorem faultWrite_fit (w : BusWrite) (cause : FaultCause) : (faultWrite w cause s).Fit := by
  have marked := markFault_fit h w.record.head.seq w.pos cause
  unfold faultWrite
  repeat' split
  · exact foldl_fit (marked.setBus none) (fun u e held => faultEntry_fit held e) _
  · exact endRetry_fit h _ _ _
  · exact h.setBus none
  · exact endStartUp_fit h
  · exact abandonInit_fit marked _ _
  · exact marked.setBus none
  · exact endStartUp_fit marked

/-! ### Start-up and the supply reset (R180 to R185) -/

theorem cutWrite_fit (left : PageLeft) : (cutWrite left s).Fit := by
  unfold cutWrite
  repeat' split
  · exact h
  · exact leavePage_fit h _ _ _
  · exact leavePage_fit h _ _ _
  · exact h
  · exact h

theorem resetVolatile_fit (strap : LineSpeed) : (resetVolatile strap s).Fit :=
  { mem := h.mem
    device := h.device
    keys := h.keys
    queued := Nat.zero_le 8
    reading := h.reading
    scrub := Nat.zero_lt_succ _ }

theorem startUp_fit : (startUp s).Fit := by
  have read : (readWords inSystem (s.setMode (.starting .memoryLoss))).Fit := readWords_fit (h.setMode _) _
  have suspended (u : State) (t : Fin 8) (held : u.Fit) : (suspendOpen u t).Fit := by
    unfold suspendOpen
    split_ifs
    · exact storeItems_fit held _ _
    · exact held
  have journal (u : State) (held : u.Fit) : (startJournal u).Fit := by
    unfold startJournal
    repeat' split
    · exact endStartUp_fit held
    · exact (held.setBus _).setMode _
    · exact (held.setBus _).setMode _
  unfold startUp
  dsimp only
  split_ifs
  · exact journal _ (foldl_fit (read.setCopy _) suspended _)
  · exact (read.setSysFault none).setBus _

theorem supplyReset_fit (r : ResetInputs) : (supplyReset r s).Fit := by
  have cut := cutWrite_fit h r.left
  have dark : (resetVolatile r.strap (cutWrite r.left s)).Fit :=
    resetVolatile_fit cut r.strap
  refine startUp_fit (disturb_fit ?_ _)
  split_ifs
  · exact loseMemory_fit dark
  · exact dark

theorem scanOn_fit : (scanOn s).Fit := by
  unfold scanOn
  split_ifs
  · exact h.setMode _
  · exact h

theorem lastRecordRead_fit (again : Bool) (p : PageRead) : (lastRecordRead again p s).Fit := by
  unfold lastRecordRead
  repeat' split
  · exact scanOn_fit (applyRecord_fit h _ _ _)
  · exact scanOn_fit h
  · exact h.setMode _
  · exact scanOn_fit h

theorem headRead_fit (again : Bool) (c : RingCopy) (p : PageRead) : (headRead again c p s).Fit := by
  unfold headRead
  repeat' split
  · exact scanOn_fit (applyRecord_fit (raiseHead_fit h) _ _ _)
  · exact endStartUp_fit (setMark_fit h _)
  · exact h.setMode _
  · exact endStartUp_fit h

theorem journalSpent_fit : (journalSpent s).Fit :=
  (((setScrub_fit (touchItem_fit h .settings) (Nat.zero_lt_succ _)).setBus none).setCopy none).setMode _

theorem memoryLossAt_fit (head : Nat) : (memoryLossAt head s).Fit :=
  { mem := AccountMemory.initial_wf _ _ _ _
    device := h.device
    keys := h.keys
    queued := h.queued
    reading := Nat.zero_le _
    scrub := h.scrub }

/-! ### Ticks and the scrubber (R150, R156, R159) -/

theorem countTick_fit : (countTick s).Fit := by
  have pos : (tickScrub (!starting s) s.scrub).pos = s.scrub.pos := by
    unfold tickScrub
    split_ifs <;> rfl
  exact setScrub_fit (((h.setTerms _).setBus _).setLine _) (pos.trans_lt h.scrub)

theorem secondStep_fit (d : Disturbance) : (secondStep d s).Fit := by
  have bound : nextReading s.clock.reading ≤ lastReading := by
    unfold nextReading
    split_ifs
    · omega
    · exact h.reading
  have stepped : (disturb d (s.setClock (stepClock s.powered s.clock))).Fit := disturb_fit (setClock_fit h bound) d
  unfold secondStep
  dsimp only
  split_ifs
  · exact countTick_fit stepped
  · exact stepped

theorem tick_fit : (tick s).Fit := by
  unfold tick
  split_ifs
  · exact secondStep_fit h _
  · exact countTick_fit (setClock_fit (c := { s.clock with ticks := _ }) h h.reading)
  · exact h

theorem scrubWord_fit : (scrubWord s).Fit := by
  have read : (if s.scrub.pos < 131072 then touchItem .damageList s else s).Fit := by
    split_ifs
    · exact touchItem_fit h _
    · exact h
  unfold scrubWord
  dsimp only
  split_ifs at read ⊢
  · exact read
  · exact readWords_fit read _
  · exact read
  · exact readWords_fit read _

theorem scrubEvent_fit : (let s1 := touchItem .settings (scrubWord s)
    s1.setScrub { pos := nextScrub s.scrub.pos, timer := scrubTimer (settingsView s1).scrubInterval }).Fit :=
  setScrub_fit (touchItem_fit (scrubWord_fit h) _) (Nat.mod_lt _ (Nat.zero_lt_succ _))

/-! ### The arbiter (R132) -/

theorem grantRead_fit (t : Fin 8) : (grantRead t s).Fit := by
  unfold grantRead
  repeat' split
  · exact h.setBus _
  · exact endLookup_fit h _ _ _
  · exact h.setBus _
  · exact endJournalRead_fit h _ _ _ _
  · exact h

theorem grantRetry_fit (w : RetryWork) (probeAck : Bool) : (grantRetry w probeAck s).Fit := by
  unfold grantRetry
  repeat' split
  · exact h.setBus _
  · exact endRetry_fit h _ _ _
  · exact endRetry_fit h _ _ _

theorem grantInit_fit (i : InitWork) (reads : SMap ReadGot) : (grantInit i reads s).Fit := by
  unfold grantInit grantInitAt
  dsimp only
  repeat' split
  · exact h.setBus _
  · exact abandonInit_fit h _ _
  · exact ((releaseOldest_fit h).setInit _).setBus _
  · exact abandonInit_fit h _ _
  · exact (h.setCopy _).setBus _

theorem grant_fit (probeAck : Bool) (reads : SMap ReadGot) : (grant probeAck reads s).Fit := by
  have behind : (grantBehind probeAck reads s).Fit := by
    unfold grantBehind
    repeat' split
    · exact grantRetry_fit h _ _
    · exact grantInit_fit h _ _
    · exact h
    · exact grantRead_fit (h.setReads _) _
    · exact h
  unfold grant
  repeat' split
  · exact h.setBus _
  · exact behind
  · exact behind

/-! ### The commands -/

theorem execUnknownRequest_fit : ∃ u, exec .unknownRequest s = .next u ∧ u.Fit := by
  refine ⟨_, rfl, ?_⟩
  repeat' split
  · exact h
  · exact pushReply_fit (h.setLine _) _ _ _ _ _
  · exact h

theorem execLinkReset_fit : ∃ u, exec .linkReset s = .next u ∧ u.Fit := by
  refine ⟨_, rfl, ?_⟩
  split_ifs
  · have silent := setQueue_fit ((h.setTx []).setLine s.line.linkReset)
      (q := s.queue.map fun e => { e with replyDue := false }) ((List.length_map _).trans_le h.queued)
    exact ((silent.setTerms _).setRetry _).setInit _
  · exact h

theorem execIdleExpiry_fit (t : Fin 8) : ∃ u, exec (.idleExpiry t) s = .next u ∧ u.Fit := by
  have suspended : (suspendShift t s).Fit := writeItem_fit h _ _
  have released : (releaseQuoted t (suspendShift t s)).Fit := by
    unfold releaseQuoted
    split_ifs
    · exact releaseSale_fit suspended t
    · exact suspended
  refine ⟨_, rfl, ?_⟩
  split_ifs
  · exact setIdle_fit released t _
  · exact h

theorem execBusNak_fit (left : PageLeft) : ∃ u, exec (.busNak left) s = .next u ∧ u.Fit := by
  refine ⟨_, rfl, ?_⟩
  dsimp only
  repeat' split
  · exact faultWrite_fit (leavePage_fit h _ _ _) _ _
  · exact (leavePage_fit h _ _ _).setBus _
  · exact h
  · exact h

theorem execWriteStop_fit (left : PageLeft) : ∃ u, exec (.writeStop left) s = .next u ∧ u.Fit := by
  refine ⟨_, rfl, ?_⟩
  repeat' split
  · exact (leavePage_fit h _ _ _).setBus _
  · exact h
  · exact h

theorem execPollAck_fit : ∃ u, exec .pollAck s = .next u ∧ u.Fit := by
  refine ⟨_, rfl, ?_⟩
  repeat' split
  · exact h.setBus _
  · exact h.setBus _
  · exact h
  · exact h
  · exact h

theorem execPollLimitExpiry_fit : ∃ u, exec .pollLimitExpiry s = .next u ∧ u.Fit := by
  refine ⟨_, rfl, ?_⟩
  repeat' split
  · exact faultWrite_fit h _ _
  · exact h
  · exact h

theorem execReadBackEnd_fit (got : ReadGot) : ∃ u, exec (.readBackEnd got) s = .next u ∧ u.Fit := by
  refine ⟨_, rfl, ?_⟩
  repeat' split
  · exact writeDone_fit h _
  · exact faultWrite_fit h _ _
  · exact h
  · exact h

theorem execRetryVoidEnd_fit (got : ReadGot) : ∃ u, exec (.retryVoidEnd got) s = .next u ∧ u.Fit := by
  refine ⟨_, rfl, ?_⟩
  repeat' split
  · exact endRetry_fit (closeMark_fit h) _ _ _
  · exact endRetry_fit h _ _ _
  · exact h
  · exact h

theorem execJournalLookupEnd_fit (got : ReadGot) : ∃ u, exec (.journalLookupEnd got) s = .next u ∧ u.Fit := by
  refine ⟨_, rfl, ?_⟩
  repeat' split
  · exact endLookup_fit (h.setBus none) _ _ _
  · exact h
  · exact h
  · exact h

theorem execJournalReadEnd_fit (got : List ReadGot) : ∃ u, exec (.journalReadEnd got) s = .next u ∧ u.Fit := by
  refine ⟨_, rfl, ?_⟩
  repeat' split
  · exact endJournalRead_fit (h.setBus none) _ _ _ _
  · exact h
  · exact h
  · exact h

theorem execStartUpVoidEnd_fit (got : ReadGot) : ∃ u, exec (.startUpVoidEnd got) s = .next u ∧ u.Fit := by
  refine ⟨_, rfl, ?_⟩
  repeat' split
  · exact endStartUp_fit h
  · exact h
  · exact ((closeMark_fit h).setBus _).setMode _
  · exact endStartUp_fit h
  · exact h
  · exact h
  · exact h

theorem execRollForwardRead_fit (got : ReadGot) : ∃ u, exec (.rollForwardRead got) s = .next u ∧ u.Fit := by
  refine ⟨_, rfl, ?_⟩
  repeat' split
  · exact lastRecordRead_fit h _ _
  · exact h
  · exact headRead_fit h _ _ _
  · exact h
  · exact h

theorem execMemoryLossInit_fit (reads : SMap ReadGot) : ∃ u, exec (.memoryLossInit reads) s = .next u ∧ u.Fit := by
  refine ⟨_, rfl, ?_⟩
  repeat' split
  · exact journalSpent_fit h
  · exact memoryLossAt_fit h _
  · exact h

theorem execTamperSwitchOpening_fit (r : ResetInputs) : ∃ u, exec (.tamperSwitchOpening r) s = .next u ∧ u.Fit := by
  have zeroised : ((s.setEnclosureOpen true).setSecure { zeroise s.secure with tamperLatch := true }).Fit :=
    setSecure_fit (h.setEnclosureOpen true) rfl
  refine ⟨_, rfl, ?_⟩
  dsimp only
  repeat' split
  · exact h
  · exact supplyReset_fit zeroised r
  · exact zeroised

/-- A command that takes its event only where the event can occur, and leaves the state as it stands elsewhere. -/
theorem whenItCan_fit {b : Bool} {u : State} (taken : u.Fit) : (if b then u else s).Fit := by
  split_ifs
  · exact taken
  · exact h

theorem exec_fit (c : Instr) : ∃ u, exec c s = .next u ∧ u.Fit := by
  have taken {α : Type} {k : Kind} {parse : List Byte → Option α} {own : Owner → α → Judge Answer}
      (owner : ∀ o a, (own o a).Moves) : (takeRequest k parse own s).Fit := requestLaw_fit.takeRequest owner h
  cases c with
  | status => exact ⟨_, rfl, taken moves_ownStatus⟩
  | clockRead => exact ⟨_, rfl, taken moves_ownClockRead⟩
  | clockSet => exact ⟨_, rfl, taken moves_ownClockSet⟩
  | shiftOpen => exact ⟨_, rfl, taken moves_ownShiftOpen⟩
  | shiftClose => exact ⟨_, rfl, taken moves_ownShiftClose⟩
  | shiftResume => exact ⟨_, rfl, taken moves_ownShiftResume⟩
  | shiftRead => exact ⟨_, rfl, taken moves_ownShiftRead⟩
  | terminalSet => exact ⟨_, rfl, taken moves_ownTerminalSet⟩
  | quote => exact ⟨_, rfl, taken moves_ownQuote⟩
  | confirm => exact ⟨_, rfl, taken moves_ownConfirm⟩
  | cancel => exact ⟨_, rfl, taken moves_ownCancel⟩
  | reissue => exact ⟨_, rfl, taken moves_ownReissue⟩
  | reverse => exact ⟨_, rfl, taken moves_ownReverse⟩
  | accountCreate => exact ⟨_, rfl, taken moves_ownCreate⟩
  | accountEdit => exact ⟨_, rfl, taken moves_ownEdit⟩
  | accountRead => exact ⟨_, rfl, taken moves_ownAccountRead⟩
  | accountClose => exact ⟨_, rfl, taken moves_ownClose⟩
  | meterReplace => exact ⟨_, rfl, taken moves_ownReplace⟩
  | accountLoad => exact ⟨_, rfl, taken moves_ownLoad⟩
  | rekey => exact ⟨_, rfl, taken moves_ownRekey⟩
  | indexRebuild => exact ⟨_, rfl, taken moves_ownRebuild⟩
  | keyLoad => exact ⟨_, rfl, taken moves_ownKeyLoad⟩
  | keyRetire => exact ⟨_, rfl, taken moves_ownKeyRetire⟩
  | keyList => exact ⟨_, rfl, taken moves_ownKeyList⟩
  | tariffLoad => exact ⟨_, rfl, taken moves_ownTariffLoad⟩
  | tariffRead => exact ⟨_, rfl, taken moves_ownTariffRead⟩
  | grant => exact ⟨_, rfl, taken moves_ownGrant⟩
  | reserveRead => exact ⟨_, rfl, taken moves_ownReserveRead⟩
  | journalRead => exact ⟨_, rfl, taken moves_ownJournalRead⟩
  | journalRelease => exact ⟨_, rfl, taken moves_ownJournalRelease⟩
  | journalRetry => exact ⟨_, rfl, taken moves_ownJournalRetry⟩
  | integrityRead => exact ⟨_, rfl, taken moves_ownIntegrityRead⟩
  | integrityClear => exact ⟨_, rfl, taken moves_ownIntegrityClear⟩
  | settingsSet => exact ⟨_, rfl, taken moves_ownSettingsSet⟩
  | settingsRead => exact ⟨_, rfl, taken moves_ownSettingsRead⟩
  | tamperClear => exact ⟨_, rfl, taken moves_ownTamperClear⟩
  | initialise => exact ⟨_, rfl, taken moves_ownInitialise⟩
  | unknownRequest => exact execUnknownRequest_fit h
  | frameArrival => exact ⟨_, rfl, whenItCan_fit h (h.setLine _)⟩
  | framingError => exact ⟨_, rfl, whenItCan_fit h (h.setLine _)⟩
  | gapTimerExpiry => exact ⟨_, rfl, whenItCan_fit h (h.setLine _)⟩
  | replySent => exact ⟨_, rfl, whenItCan_fit h (h.setTx _)⟩
  | characterReceived b => exact ⟨_, rfl, whenItCan_fit h (h.setLine _)⟩
  | lineEntersSpacing => exact ⟨_, rfl, whenItCan_fit h (h.setLine _)⟩
  | lineReturnsToMarking => exact ⟨_, rfl, whenItCan_fit h (h.setLine _)⟩
  | linkReset => exact execLinkReset_fit h
  | secondStep d => exact ⟨_, rfl, secondStep_fit h d⟩
  | tariffEffective =>
    exact ⟨_, rfl, whenItCan_fit h
      (takeTariffEffective_fit (setClock_fit h (c := { s.clock with tariffRaised := false }) h.reading))⟩
  | saleTimerExpiry t => exact ⟨_, rfl, whenItCan_fit h (releaseSale_fit h t)⟩
  | idleExpiry t => exact execIdleExpiry_fit h t
  | scrubEvent => exact ⟨_, rfl, whenItCan_fit h (scrubEvent_fit h)⟩
  | arbiterGrant probeAck reads => exact ⟨_, rfl, whenItCan_fit h (grant_fit h probeAck reads)⟩
  | busNak left => exact execBusNak_fit h left
  | pollAck => exact execPollAck_fit h
  | pollLimitExpiry => exact execPollLimitExpiry_fit h
  | readBackEnd got => exact execReadBackEnd_fit h got
  | retryVoidEnd got => exact execRetryVoidEnd_fit h got
  | journalLookupEnd got => exact execJournalLookupEnd_fit h got
  | journalReadEnd got => exact execJournalReadEnd_fit h got
  | supplyReset r => exact ⟨_, rfl, supplyReset_fit h r⟩
  | startUpVoidEnd got => exact execStartUpVoidEnd_fit h got
  | rollForwardRead got => exact execRollForwardRead_fit h got
  | memoryLossInit reads => exact execMemoryLossInit_fit h reads
  | tamperSwitchOpening r => exact execTamperSwitchOpening_fit h r
  | supplyLoss left => exact ⟨_, rfl, whenItCan_fit h (((cutWrite_fit h left).setBus none).setPowered false)⟩
  | enclosureSwitchClosing => exact ⟨_, rfl, h.setEnclosureOpen false⟩
  | writeStop left => exact execWriteStop_fit h left

end

/-- Settles O4: the law `State.Fit` is kept by a tick and by every command. -/
theorem stepKeepsStoresAndBounds : Obligations.StepKeepsStoresAndBounds := by
  intro s t mem stores counts next
  rw [← fit_iff]
  have h : s.Fit := fit_iff.mpr ⟨mem, stores, counts⟩
  unfold step at next
  cases queue : s.pending with
  | nil =>
    rw [queue] at next
    cases next
    exact tick_fit h
  | cons c rest =>
    rw [queue] at next
    obtain ⟨u, run, kept⟩ := exec_fit (h.setPending rest) c
    cases run.symm.trans next
    exact kept

end Sys2Proof.Machine
end

section
/-!
SUPPORT. The steps of a record write (R128, R129, R131) and the link reset (R171).
-/
namespace Sys2Proof.Machine

/-! ### The steps of a record write (R128, R129, R131) -/

section
variable {s : State} {w : BusWrite} (powered : s.powered = true) (bus : s.bus = some (.write w))
include powered bus

theorem exec_writeStop_of_sending (phase : w.phase = .sending) (left : PageLeft) :
    exec (.writeStop left) s = .next (setPhase w (.programming 20) (leavePage w.pos w.record left s)) := by
  show execWriteStop left s = _
  simp [execWriteStop, powered, bus, phase]

theorem exec_busNak_of_firstAttempt (phase : w.phase = .sending) (first : w.secondAttempt = false) (left : PageLeft) :
    exec (.busNak left) s = .next (setPhase w (.recovering 20) (leavePage w.pos w.record left s)) := by
  show execBusNak left s = _
  simp [execBusNak, powered, bus, phase, first]

theorem exec_pollAck_of_programming {n : Nat} (phase : w.phase = .programming n) :
    exec .pollAck s = .next (setPhase w .readBack s) := by
  show execPollAck s = _
  simp [execPollAck, powered, bus, phase]

theorem exec_pollAck_of_recovering {n : Nat} (phase : w.phase = .recovering n) :
    exec .pollAck s = .next (setPhase { w with secondAttempt := true } .sending s) := by
  show execPollAck s = _
  simp [execPollAck, powered, bus, phase]

end

/-- Settles O41: a step for each phase of the write. -/
theorem recordWriteTakesItsSteps : Obligations.RecordWriteTakesItsSteps := by
  intro s w left powered bus
  refine ⟨fun phase => ?_, fun phase first => ?_, fun n phase => exec_pollAck_of_programming powered bus phase,
    fun n phase => exec_pollAck_of_recovering powered bus phase⟩
  · rw [exec_writeStop_of_sending powered bus phase]
    cases left <;> rfl
  · rw [exec_busNak_of_firstAttempt powered bus phase first]
    cases left <;> rfl

/-! ### The link reset (R171) -/

theorem owes_silence (l : Lookup) : l.silence.owes = false := by
  cases l <;> rfl

theorem repliesOwed_eq_zero {s : State} (queue : ∀ e ∈ s.queue, e.replyDue = false)
    (lookups : ∀ w ∈ s.terms.toList, w.lookup.any Lookup.owes = false) (retry : s.retry.any (·.replyDue) = false)
    (init : s.init.any (fun i => i.outside && i.replyDue) = false) : repliesOwed s = 0 := by
  have noEntry : s.queue.filter (fun e => e.replyDue) = [] := List.filter_eq_nil_iff.mpr fun e h => by simp [queue e h]
  have noLookup : s.terms.toList.filter (fun w => w.lookup.any Lookup.owes) = [] :=
    List.filter_eq_nil_iff.mpr fun w h => by simp [lookups w h]
  unfold repliesOwed
  rw [noEntry, noLookup, retry, init]
  rfl

/-- A work item whose reply indication is cleared owes no reply (R126, R171). -/
theorem repliesOwed_silenceWork (s : State) : repliesOwed (silenceWork s) = 0 := by
  refine repliesOwed_eq_zero (fun e h => ?_) (fun w h => ?_) ?_ ?_
  · obtain ⟨x, -, rfl⟩ := List.mem_map.mp h
    rfl
  · have silenced : w ∈ s.terms.toList.map fun w => { w with lookup := w.lookup.map Lookup.silence } := h
    obtain ⟨x, -, rfl⟩ := List.mem_map.mp silenced
    show (x.lookup.map Lookup.silence).any Lookup.owes = false
    cases x.lookup with
    | none => rfl
    | some l => exact owes_silence l
  · show (s.retry.map fun r => { r with replyDue := false }).any (·.replyDue) = false
    cases s.retry <;> rfl
  · show (s.init.map fun i => { i with replyDue := false }).any (fun i => i.outside && i.replyDue) = false
    cases s.init with
    | none => rfl
    | some i => exact Bool.and_false _

theorem silenceWork_eq (s : State) : silenceWork s = { s with
    queue := s.queue.map (fun e => { e with replyDue := false })
    terms := s.terms.map (fun w => { w with lookup := w.lookup.map Lookup.silence })
    retry := s.retry.map (fun r => { r with replyDue := false })
    init := s.init.map (fun i => { i with replyDue := false }) } := rfl

@[simp] theorem silenceWork_line (s : State) : (silenceWork s).line = s.line := rfl

theorem exec_linkReset_of_break {s : State} (powered : s.powered = true) (ran : s.line.breakTimer = some 0) :
    exec .linkReset s = .next (silenceWork ((s.setTx []).setLine s.line.linkReset)) := by
  show execLinkReset s = _
  simp [execLinkReset, powered, ran]

theorem exec_linkReset_of_stopped {s : State} (stopped : s.line.breakTimer = none) :
    exec .linkReset s = .next s := by
  show execLinkReset s = _
  simp [execLinkReset, stopped]

/-- Settles O17: the break timer is left stopped, so the reset is not repeated before a further break. -/
theorem linkResetDropsRepliesNotWork : Obligations.LinkResetDropsRepliesNotWork := by
  intro s powered ran
  have stopped : (silenceWork ((s.setTx []).setLine s.line.linkReset)).line.breakTimer = none := by
    rw [silenceWork_line]
    rfl
  refine ⟨_, exec_linkReset_of_break powered ran, ?_, ?_, ?_⟩
  · rw [silenceWork_eq]
    rfl
  · exact repliesOwed_silenceWork _
  · exact exec_linkReset_of_stopped stopped

end Sys2Proof.Machine
end

section
/-!
SUPPORT. JOURNAL_READ, JOURNAL_RELEASE, JOURNAL_RETRY, INTEGRITY_CLEAR, TAMPER_CLEAR and INITIALISE, with no word of
account memory disturbed (R137, R139, R140, R155, R186, R189).
-/
namespace Sys2Proof.Machine

theorem setPointers_of_sound {u : State} (hu : u.mem.ecc = []) {c : RingCopy} (copy : u.copy = some c)
    (head tail : Nat) : setPointers head tail u = (u.setCopy (some { c with head := head, tail := tail })).setSys
      { u.mem.sys with ring := { head := head, tail := tail } } := by
  unfold setPointers
  rw [copy, writeItem_of_sound (by exact hu)]
  rfl

/-! ### The owners of the journal's requests (R137, R139, R140, R155) -/

section
variable {t : Fin 8} {tag : Tag} {u : State} {c : RingCopy}

theorem ownIntegrityClear_of_sound (hu : u.mem.ecc = []) (service : u.mode = .inService) (o : Owner) :
    (ownIntegrityClear o ()).run u = .ok (.now .empty) (u.setSys { u.mem.sys with
      errorLog := .clear, damage := { u.mem.sys.damage with overflow := false } }) := by
  unfold ownIntegrityClear
  rw [then_service service, then_item hu, then_item hu, then_modify, storeItems_of_sound hu, judge_pure]

theorem then_needInfo {β : Type} {p : State → Bool} (passed : p u = true) (r : ResultCode) (f : Unit → Judge β) :
    (needInfo p r >>= f).run u = (f ()).run u := by
  have goes : (needInfo p r).run u = .ok () u := by
    unfold needInfo
    rw [then_get, needWith_run, if_pos passed]
  rw [judge_bind, goes]

theorem ownJournalRead_waits (hu : u.mem.ecc = []) {m n : Nat} (least : 1 ≤ n) (most : n ≤ 3)
    (free : (u.term t).lookup = none) (copy : u.copy = some c) (above : c.tail ≤ m) (below : m < c.head) :
    (ownJournalRead { terminal := t, tag := tag } (m, n)).run u = .ok .later ((setLookup t
      (some (.journalRead { tag := tag, start := m, count := n, replyDue := true })) u).setReads (u.reads ++ [t])) := by
  have untouched : touchInfo u = u := by
    unfold touchInfo
    rw [touchItem_of_sound hu, touchItem_of_sound hu]
  unfold ownJournalRead
  rw [then_modify, untouched, then_needInfo (by simp [least, most]), then_needInfo (by simp [free]),
    then_needInfo (by simp [copy]), then_needInfo ((inRange_iff copy m).mpr ⟨above, below⟩), then_modify, judge_pure]
  rfl

theorem ownJournalRelease_of_sound (hu : u.mem.ecc = []) (service : u.mode = .inService) (o : Owner) {m : Nat}
    (copy : u.copy = some c) (above : c.tail ≤ m) (below : m < c.head) :
    (ownJournalRelease o m).run u = .ok (.now (.released (m + 1) (c.head - (m + 1))))
      ((u.setCopy (some { c with tail := m + 1 })).setSys
        { u.mem.sys with ring := { head := c.head, tail := m + 1 } }) := by
  unfold ownJournalRelease
  rw [then_service service, then_check ((inRange_iff copy m).mpr ⟨above, below⟩), then_modify,
    setPointers_of_sound hu copy, copy, then_get, judge_pure]
  rfl

theorem ownJournalRetry_waits (hu : u.mem.ecc = []) (service : u.mode = .inService) {k : FaultMark}
    (copy : u.copy = some c) (mark : c.mark = some k) (free : u.retry = none) :
    (ownJournalRetry { terminal := t, tag := tag } ()).run u = .ok .later (holdIdle t (u.setRetry (some
      { terminal := t, tag := tag, time := u.clock.reading, shiftNo := (u.mem.sys.terms.get t).shiftNo
        operator := (u.mem.sys.terms.get t).operator, replyDue := true }))) := by
  unfold ownJournalRetry
  rw [then_service service, then_check (by simp [faulted, copy, mark]), then_check (by simp [free]), then_modify,
    termView_of_sound hu, judge_pure]

/-! ### TAMPER_CLEAR (R189) -/

theorem ownTamperClear_of_open (switch : u.enclosureOpen = true) (o : Owner) :
    (ownTamperClear o ()).run u = .error (.tamperOpen, .empty) u := by
  unfold ownTamperClear
  rw [judge_bind, check_run, switch]
  rfl

theorem ownTamperClear_of_closed (switch : u.enclosureOpen = false) (o : Owner) :
    (ownTamperClear o ()).run u =
      .ok (.now .empty) (u.setSecure { u.secure with tamperLatch := false }) := by
  unfold ownTamperClear
  rw [then_check (by simp [switch]), then_modify, judge_pure]

end

section
variable {t : Fin 8} {tag : Tag} {body : List Byte} {s : State}

theorem exec_tamperClear_of_asks (asks : Asks .tamperClear t tag [] s) :
    exec .tamperClear s = .next (conclude Kind.tamperClear.byte (terminalByte t) tag
      ((ownTamperClear { terminal := t, tag := tag } ()).run (handed t s))) :=
  congrArg _ (takeRequest_of_asks (parse := parseNothing) (own := ownTamperClear) asks rfl)

theorem tamperClear_clears (asks : Asks .tamperClear t tag [] s) (switch : s.enclosureOpen = false) :
    exec .tamperClear s = .next (answered .tamperClear t tag .ok .empty
      ((handed t s).setSecure { s.secure with tamperLatch := false })) := by
  rw [exec_tamperClear_of_asks asks, ownTamperClear_of_closed ((handed_enclosureOpen asks.sound t).trans switch),
    conclude_now, pushReply_answered (by exact handed_sound asks.sound t), handed_secure asks.sound]

end

/-- Settles O34: each owner's conditions hold of the state handed over. -/
theorem journalIntegrityTamperRequestsAreTaken : Obligations.JournalIntegrityTamperRequestsAreTaken := by
  refine ⟨fun t tag body s c copy => ⟨fun asks service => ?_, fun m n asks parsed least most free above below => ?_,
    fun m asks parsed service above below => ?_, fun k asks service mark free => ?_⟩, fun t tag s asks =>
    ⟨fun switch => ?_, tamperClear_clears asks, fun switch latch => ?_⟩⟩
  · have hu := handed_sound asks.sound t
    refine congrArg _ ((takeRequest_of_asks (parse := parseNothing) (own := ownIntegrityClear) asks rfl).trans ?_)
    rw [ownIntegrityClear_of_sound hu ((handed_mode asks.sound t).trans service), conclude_now,
      pushReply_answered (by exact hu), handed_mem asks.sound]
    rfl
  · have hs := asks.sound
    refine congrArg _ ((takeRequest_of_asks (own := ownJournalRead) asks parsed).trans ?_)
    rw [ownJournalRead_waits (handed_sound hs t) least most ((handed_lookup hs t t).trans free)
      ((handed_copy hs t).trans copy) above below, handed_reads hs]
    rfl
  · have hu := handed_sound asks.sound t
    refine congrArg _ ((takeRequest_of_asks (own := ownJournalRelease) asks parsed).trans ?_)
    rw [ownJournalRelease_of_sound hu ((handed_mode asks.sound t).trans service) _
      ((handed_copy asks.sound t).trans copy) above below, conclude_now,
      pushReply_answered (by exact hu), handed_mem asks.sound]
  · have hs := asks.sound
    refine congrArg _ ((takeRequest_of_asks (parse := parseNothing) (own := ownJournalRetry) asks rfl).trans ?_)
    rw [ownJournalRetry_waits (handed_sound hs t) ((handed_mode hs t).trans service) ((handed_copy hs t).trans copy)
      mark ((handed_retry hs t).trans free), handed_clock hs, handed_mem hs]
    rfl
  · rw [exec_tamperClear_of_asks asks, ownTamperClear_of_open ((handed_enclosureOpen asks.sound t).trans switch)]
    exact congrArg _ (pushReply_answered (handed_sound asks.sound t) ..)
  · have stands : { s.secure with tamperLatch := false } = s.secure := by rw [← latch]
    rw [tamperClear_clears asks switch, stands, ← handed_secure asks.sound t]
    rfl

/-! ### INITIALISE (R179, R186) -/

section
variable {t : Fin 8} {tag : Tag} {u : State} {c : RingCopy}

theorem initWork_of_sound (hu : u.mem.ecc = []) (outside : Bool) (released : Option Nat) :
    initWork { terminal := t, tag := tag } outside released u =
      { terminal := t, tag := tag, time := u.clock.reading, shiftNo := (u.mem.sys.terms.get t).shiftNo
        operator := (u.mem.sys.terms.get t).operator, replyDue := true, wasInService := u.mode == .inService
        outside := outside, released := released } := by
  unfold initWork
  rw [termView_of_sound hu]

/-- Without ring pointers, or at a fault mark, the INIT record waits to be written outside the queue (R186). -/
theorem ownInitialise_outside (outside : initOutside u = true) (fits : initSeqOk u = true) (o : Owner) :
    (ownInitialise o ()).run u = .ok .later (acceptInit (initWork o true none u) u) := by
  unfold ownInitialise
  rw [then_get, if_pos outside, then_need fits, then_modify, judge_pure]

/-- Otherwise it is queued, the oldest unreleased record released first when every position is taken (R186). -/
theorem ownInitialise_queues (inside : initOutside u = false) (room : u.queue.length < 8)
    (fits : nextSeq u ≤ 4294967295) {released : Option Nat} {v : State} (oldest : releaseOldest u = (released, v))
    (o : Owner) : (ownInitialise o ()).run u = .ok .later (acceptInit (initWork o false released u)
      (queueRecord o (headNow o.terminal u) (.init .initialise) .none true v)) := by
  unfold ownInitialise
  rw [then_get, if_neg (by simp [inside]), then_check (by simp [admitEntry, room]), then_need (by simpa using fits),
    oldest, then_set, judge_pure]

theorem releaseOldest_with_room (copy : u.copy = some c) (room : c.head - c.tail + u.queue.length < 4096) :
    releaseOldest u = (none, u) := by
  unfold releaseOldest
  rw [copy]
  dsimp only
  rw [if_neg (Nat.not_le.mpr room)]

theorem releaseOldest_when_full (hu : u.mem.ecc = []) (copy : u.copy = some c)
    (full : 4096 ≤ c.head - c.tail + u.queue.length) :
    releaseOldest u = (some c.tail, (u.setCopy (some { c with tail := c.tail + 1 })).setSys
      { u.mem.sys with ring := { head := c.head, tail := c.tail + 1 } }) := by
  unfold releaseOldest
  rw [copy]
  dsimp only
  rw [if_pos full, setPointers_of_sound hu copy]

/-- A record queued under the head of an earlier state that gives the same sequence, reading and entry (R119, R122). -/
theorem queueRecord_eq_withRecord {v : State} (hu : u.mem.ecc = []) (body : RecordBody) (figures : Figures)
    (seq : nextSeq v = nextSeq u) (clock : v.clock = u.clock)
    (entries : v.mem.sys.terms = u.mem.sys.terms) :
    queueRecord { terminal := t, tag := tag } (headNow t u) body figures true v = withRecord t tag body figures v := by
  unfold queueRecord headNow withRecord withRecordAs
  rw [termView_of_sound hu, ← seq, ← clock, ← entries]
  rfl

theorem acceptInit_eq (w : InitWork) (u : State) : acceptInit w u =
    { u with terms := u.terms.map stopIdle, init := some w, mode := .starting .initialising } := rfl

end

/-- Settles O35: INITIALISE passes the dispatcher, and its owner's conditions hold of the state handed over. -/
theorem initialiseIsAccepted : Obligations.InitialiseIsAccepted := by
  intro t tag s hs presents role shift e work starts
  have hu := handed_sound hs t
  have allows : allowed .initialise (roleFor t s) t [] = true := by rw [role]; rfl
  have passes : shiftFree .initialise = true ∨ rescue .initialise t s = true ∨
      ((s.mem.sys.terms.get t).shift = .opened ∧ shiftChange t s = false) := by
    refine .inr (shift.imp_left ?_)
    rintro ⟨zero, out⟩
    simp [rescue, zero, out]
  have taken : exec .initialise s = .next (conclude Kind.initialise.byte (terminalByte t) tag
      ((ownInitialise { terminal := t, tag := tag } ()).run (handed t s))) :=
    congrArg _ (takeRequest_of_presents (parse := parseNothing) hs presents allows passes rfl)
  have item (outside : Bool) (released : Option Nat) :
      initWork { terminal := t, tag := tag } outside released (handed t s) = work outside released := by
    rw [initWork_of_sound hu, handed_clock hs, handed_mem hs, handed_mode hs]
  refine ⟨fun faulty => ?_, fun c copy mark room fits => ⟨fun free => ?_, fun full => ?_⟩⟩
  · have outside : initOutside (handed t s) = true ∧ initSeqOk (handed t s) = true := by
      rcases faulty with copy | ⟨c, k, copy, mark, fits⟩
      · simp [initOutside, initSeqOk, handed_copy hs, copy]
      · simp [initOutside, initSeqOk, faulted, handed_copy hs, copy, mark, fits]
    obtain ⟨waits, fits⟩ := outside
    rw [taken, ownInitialise_outside waits fits, item]
    rfl
  all_goals
    have copied : (handed t s).copy = some c := (handed_copy hs t).trans copy
    have next : nextSeq (handed t s) ≤ 4294967295 := by simpa [nextSeq, copied, handed_queue hs] using fits
    have queues {released : Option Nat} {v : State} (oldest : releaseOldest (handed t s) = (released, v)) :=
      ownInitialise_queues (by simp [initOutside, faulted, copied, mark]) (by rwa [handed_queue hs]) next oldest
        { terminal := t, tag := tag }
  · rw [taken, queues (releaseOldest_with_room copied (by rwa [handed_queue hs])), item,
      queueRecord_eq_withRecord hu _ _ rfl rfl rfl, acceptInit_eq]
    rfl
  · rw [taken, queues (releaseOldest_when_full hu copied (by rwa [handed_queue hs])), item, handed_mem hs,
      queueRecord_eq_withRecord hu _ _ ?seq ?clock ?entries, acceptInit_eq]
    · rfl
    case seq => simp [nextSeq, copied]
    case clock => rfl
    case entries =>
      rw [handed_mem hs]
      rfl

end Sys2Proof.Machine
end

section
/-!
SUPPORT. The ring pointers, the fault mark and the ends of a retry and of start-up, with no word of account memory
disturbed (R120, R137, R184), and what the effects of a record leave of the journal's items (R121).
-/
namespace Sys2Proof.Machine

section
variable {s : State} (hs : s.mem.ecc = [])
include hs

/-! ### The pointers and the mark (R120, R135) -/

section
variable {c : RingCopy} (copy : s.copy = some c)
include copy

/-- The head raised by one, in the copy and in account memory. -/
theorem raiseHead_of_sound : raiseHead s =
    { s with copy := some { c with head := c.head + 1 }
             mem := { s.mem with sys := { s.mem.sys with ring := { head := c.head + 1, tail := c.tail } } } } := by
  unfold raiseHead
  rw [copy]
  exact setPointers_of_sound hs copy _ _

theorem setMark_of_sound (m : Option FaultMark) : setMark m s =
    { s with copy := some { c with mark := m }, mem := { s.mem with sys := { s.mem.sys with mark := m } } } := by
  unfold setMark
  dsimp only
  rw [copy, writeItem_of_sound (by exact hs)]
  rfl

theorem closeMark_of_sound : closeMark s =
    { s with copy := some { head := c.head + 1, tail := c.tail, mark := none }
             mem := { s.mem with sys := { s.mem.sys with
               ring := { head := c.head + 1, tail := c.tail }, mark := none } } } := by
  unfold closeMark
  rw [raiseHead_of_sound hs copy, setMark_of_sound (c := { c with head := c.head + 1 }) (by exact hs) rfl]

theorem markFault_of_sound (seq pos : Nat) (cause : FaultCause) : markFault seq pos cause s =
    { s with copy := some { c with mark := some { seq := seq, pos := pos } }
             mem := { s.mem with sys := { s.mem.sys with
               mark := some { seq := seq, pos := pos }, cause := cause } } } := by
  unfold markFault setCause
  rw [setMark_of_sound hs copy, writeItem_of_sound (by exact hs)]
  rfl

end

/-! ### The end of a retry (R137) -/

theorem endRetry_of_sound (w : RetryWork) (r : ResultCode) (body : ReplyBody) :
    let ended := restartIdle w.terminal { s with bus := none, retry := none }
    endRetry w r body s = if w.replyDue then answered .journalRetry w.terminal w.tag r body ended else ended :=
  endRetry_of_free (s := freeBus s) hs rfl w r body

/-! ### The end of start-up (R184) -/

/-- The alarm is set from a PENDING bank, and one already due is made ACTIVE (R28, R31). -/
theorem tariffs_at_endStartUp : ∃ (alarm : Option Nat) (raised : Bool) (tariffs : TariffStore),
    takeTariffEffective (alarmFromMemory s) =
      { s with clock := { s.clock with alarm := alarm, tariffRaised := raised }
               mem := { s.mem with sys := { s.mem.sys with tariffs := tariffs } } } ∧
    (s.mem.sys.tariffs.pending = none → alarm = s.clock.alarm ∧ raised = s.clock.tariffRaised ∧
      tariffs = s.mem.sys.tariffs) ∧
    ∀ b eff, s.mem.sys.tariffs.pending = some (b, eff) →
      (s.clock.reading < eff → alarm = some eff ∧ raised = s.clock.tariffRaised ∧ tariffs = s.mem.sys.tariffs) ∧
      (eff ≤ s.clock.reading → alarm = none ∧ raised = true ∧
        tariffs = { s.mem.sys.tariffs with active := some b, pending := none }) := by
  rw [alarmFromMemory_of_sound hs]
  cases pending : s.mem.sys.tariffs.pending with
  | none =>
    refine ⟨s.clock.alarm, s.clock.tariffRaised, s.mem.sys.tariffs, ?_, fun _ => ⟨rfl, rfl, rfl⟩, nofun⟩
    have alarmed : alarmFromPending s.mem.sys.tariffs s = s := by simp [alarmFromPending, pending]
    rw [alarmed, takeTariffEffective_of_sound hs, if_neg (by simp [TariffStore.due, pending])]
  | some x =>
    obtain ⟨b, eff⟩ := x
    have alarmed : alarmFromPending s.mem.sys.tariffs s = setAlarm eff s := by simp [alarmFromPending, pending]
    have sound : (setAlarm eff s).mem.ecc = [] := hs
    have tariffs : (setAlarm eff s).mem.sys.tariffs = s.mem.sys.tariffs := rfl
    have reading : (setAlarm eff s).clock.reading = s.clock.reading := rfl
    rw [alarmed, takeTariffEffective_of_sound sound, tariffs, reading]
    rcases Nat.lt_or_ge s.clock.reading eff with early | due
    · refine ⟨some eff, s.clock.tariffRaised, s.mem.sys.tariffs, ?_, nofun, fun b' eff' same => ?_⟩
      · rw [if_neg (by simpa [TariffStore.due, pending] using early)]
        simp [setAlarm, Nat.not_le.mpr early, State.setClock]
      · obtain ⟨rfl, rfl⟩ := Prod.mk.inj (Option.some.inj same)
        exact ⟨fun _ => ⟨rfl, rfl, rfl⟩, fun late => absurd late (Nat.not_le.mpr early)⟩
    · refine ⟨none, true, { s.mem.sys.tariffs with active := some b, pending := none }, ?_, nofun,
        fun b' eff' same => ?_⟩
      · rw [if_pos (by simpa [TariffStore.due, pending] using due)]
        simp [setAlarm, due, State.setClock, TariffStore.switchAt, pending, State.setSys, State.setMem]
      · obtain ⟨rfl, rfl⟩ := Prod.mk.inj (Option.some.inj same)
        exact ⟨fun early => absurd early (Nat.not_lt.mpr due), fun _ => ⟨rfl, rfl, rfl⟩⟩

theorem endStartUp_of_tariffs {alarm : Option Nat} {raised : Bool} {tariffs : TariffStore}
    (taken : takeTariffEffective (alarmFromMemory s) =
      { s with clock := { s.clock with alarm := alarm, tariffRaised := raised }
               mem := { s.mem with sys := { s.mem.sys with tariffs := tariffs } } }) :
    endStartUp s =
      { s with clock := { s.clock with alarm := alarm, tariffRaised := raised }
               mem := { s.mem with sys := { s.mem.sys with tariffs := tariffs } }
               scrub := { pos := 0, timer := scrubTimer s.mem.sys.settings.scrubInterval }
               bus := none, mode := if s.sysFault.isSome then .outOfService else .inService } := by
  unfold endStartUp
  rw [taken, touchItem_of_sound (by exact hs)]
  dsimp only
  rw [settingsView_of_sound (by exact hs)]
  rfl

end

/-! ### What the effects of a record leave (R121) -/

/-- What the record effects leave of the journal: the write queue, the copy and the pointers of account memory, the
device, the transmit reply queue, the mode, and that no word is disturbed. -/
def State.journalItems (s : State) :
    List QueueEntry × Option RingCopy × RingPointers × SMap Page × List Reply × ModuleMode × SMap Disturb :=
  (s.queue, s.copy, s.mem.sys.ring, s.device, s.tx, s.mode, s.mem.ecc)

theorem journalItems_iff {s t : State} : t.journalItems = s.journalItems ↔
    t.queue = s.queue ∧ t.copy = s.copy ∧ t.mem.sys.ring = s.mem.sys.ring ∧ t.device = s.device ∧ t.tx = s.tx ∧
      t.mode = s.mode ∧ t.mem.ecc = s.mem.ecc := by
  simp only [State.journalItems, Prod.mk.injEq]

theorem sound_of_journalItems {s t : State} (hs : s.mem.ecc = []) (same : t.journalItems = s.journalItems) :
    t.mem.ecc = [] := by
  obtain ⟨-, -, -, -, -, -, words⟩ := journalItems_iff.mp same
  exact words.trans hs

theorem endSale_journalItems (h : RecordHead) (s : State) : (endSale h s).journalItems = s.journalItems := by
  unfold endSale releaseSale
  repeat' split
  all_goals rfl

theorem debtAfter_journalItems (slot : Nat) (r : Reached) (s : State) :
    (debtAfter slot r s).2.journalItems = s.journalItems := by
  cases r <;> rfl

theorem alarmFromPending_journalItems (t : TariffStore) (s : State) :
    (alarmFromPending t s).journalItems = s.journalItems := by
  unfold alarmFromPending
  split <;> rfl

theorem restartScrub_journalItems (c : SettingsChange) (s : State) :
    (restartScrub c s).journalItems = s.journalItems := by
  unfold restartScrub
  repeat' split
  all_goals rfl

section
variable {s : State} (hs : s.mem.ecc = [])
include hs

theorem changeIndex_journalItems (f : SMap IndexEntry → SMap IndexEntry) :
    (changeIndex f s).journalItems = s.journalItems := by
  rw [changeIndex_of_sound hs]
  rfl

theorem applyAccount_journalItems (slot : Nat) (h : RecordHead) (f : Account → Account) :
    (applyAccount slot h f s).2.journalItems = s.journalItems := by
  rw [applyAccount_of_sound hs]
  split_ifs <;> rfl

omit hs in
theorem indexWhen_journalItems {r : Reached × State} (hr : r.2.mem.ecc = []) (f : SMap IndexEntry → SMap IndexEntry) :
    (indexWhen r f).journalItems = r.2.journalItems := by
  unfold indexWhen
  split
  · exact changeIndex_journalItems hr f
  · rfl

theorem applyTerm_journalItems (t : Fin 8) (seq : Nat) (f : TermEntry → TermEntry) :
    (applyTerm t seq f s).journalItems = s.journalItems := by
  rw [applyTerm_of_sound hs]
  rfl

theorem applyTotals_journalItems (h : RecordHead) (f : ShiftTotals → ShiftTotals) :
    (applyTotals h f s).journalItems = s.journalItems := by
  unfold applyTotals
  split
  · rfl
  · exact applyTerm_journalItems hs _ _ _

theorem applyReserve_journalItems (seq : Nat) (f : ReserveRecord → ReserveRecord) :
    (applyReserve seq f s).journalItems = s.journalItems := by
  rw [applyReserve_of_sound hs]
  rfl

theorem applyLoad_journalItems (slot : Nat) (image : Account) (h : RecordHead) :
    (applyLoad slot image h s).2.journalItems = s.journalItems := by
  rw [applyLoad_of_sound hs]
  dsimp only
  split
  · rw [leaveDamage_of_sound (by exact hs)]
    exact changeIndex_journalItems (by exact hs) _
  · rfl

theorem applyAccountRecord_journalItems (h : RecordHead) (a : AccountRecord) :
    (applyAccountRecord h a s).2.journalItems = s.journalItems := by
  have indexed (slot : Nat) (f : Account → Account) (g : SMap IndexEntry → SMap IndexEntry) :
      (indexWhen (applyAccount slot h f s) g).journalItems = s.journalItems := by
    have account := applyAccount_journalItems hs slot h f
    exact (indexWhen_journalItems (sound_of_journalItems hs account) g).trans account
  cases a with
  | create slot n => exact indexed slot _ _
  | edit slot _ e => exact applyAccount_journalItems hs slot h _
  | close slot _ => exact indexed slot _ _
  | replace slot old meter area gen => exact indexed slot _ _
  | load slot image => exact applyLoad_journalItems hs slot image h
  | rekey slot _ => exact applyAccount_journalItems hs slot h _

theorem applyTariff_journalItems (h : RecordHead) (b : TariffBank) (effective : Nat) :
    (applyTariff h b effective s).2.journalItems = s.journalItems := by
  simp only [applyTariff, touchItem_of_sound hs, itemBad_of_sound hs, Bool.false_eq_true, if_false]
  split_ifs
  · unfold installBank
    dsimp only
    rw [itemBad_of_sound hs, writeItems_of_sound hs, alarmFromMemory_of_sound (by exact hs)]
    exact alarmFromPending_journalItems _ _
  · rfl

theorem applySettings_journalItems (h : RecordHead) (c : SettingsChange) :
    (applySettings h c s).journalItems = s.journalItems := by
  rcases Nat.lt_or_ge s.mem.sys.settingsApplied h.seq with past | passed
  · rw [applySettings_written hs c past]
    exact restartScrub_journalItems _ _
  · rw [applySettings_past hs c passed]

/-- The effects of a record that is no INIT leave the journal as it stands. -/
theorem applyRecord_journalItems (inService : Bool) (figures : Figures) {r : Record} (other : ∀ k, r.body ≠ .init k) :
    (applyRecord inService figures r s).2.journalItems = s.journalItems := by
  obtain ⟨h, body⟩ := r
  have account (slot : Nat) (f : Account → Account) := applyAccount_journalItems hs slot h f
  have reserved {u : State} (seq : Nat) (f : ReserveRecord → ReserveRecord) (same : u.journalItems = s.journalItems) :=
    (applyReserve_journalItems (sound_of_journalItems hs same) seq f).trans same
  have totalled {u : State} (f : ShiftTotals → ShiftTotals) (same : u.journalItems = s.journalItems) :=
    (applyTotals_journalItems (sound_of_journalItems hs same) h f).trans same
  cases body with
  | init k => exact absurd rfl (other k)
  | void _ => rfl
  | sale b =>
    exact (endSale_journalItems h _).trans (totalled _ (reserved h.seq _ (account b.slot _)))
  | payment b => exact (endSale_journalItems h _).trans (totalled _ (account b.slot _))
  | reissue slot _ link =>
    dsimp only [applyRecord, applyReissue]
    exact totalled _ (account slot _)
  | reversal b =>
    dsimp only [applyRecord, applyReversal]
    exact totalled _ (reserved h.seq _ ((debtAfter_journalItems _ _ _).trans (account b.slot _)))
  | grant v => exact applyReserve_journalItems hs h.seq (addGrant v)
  | shiftOpen =>
    simp only [applyRecord, applyShiftOpen]
    split
    · rfl
    · exact applyTerm_journalItems hs _ _ _
  | shiftClose b => exact applyTerm_journalItems hs b.target h.seq _
  | account a => exact applyAccountRecord_journalItems hs h a
  | key k =>
    simp only [applyRecord, applyKey]
    split_ifs <;> rfl
  | tariff b effective => exact applyTariff_journalItems hs h b effective
  | clock new =>
    simp only [applyRecord, applyClock]
    split_ifs <;> rfl
  | settings c => exact applySettings_journalItems hs h c
  | terminal t role => exact applyTerm_journalItems hs t h.seq _
  | other _ => rfl

theorem applyInit_sound (h : RecordHead) : (applyInit h s).2.mem.ecc = [] := by
  unfold applyInit
  dsimp only
  rw [touchItem_of_sound hs]
  split_ifs
  · obtain ⟨sound, -⟩ := endStartUp_leaves (s := initialiseAll h.seq s) rfl
    exact sound
  · obtain ⟨mem, -⟩ := returnFromInit_leaves hs
    rw [mem, hs]

/-- The effects of every record leave no word disturbed. -/
theorem applyRecord_sound (inService : Bool) (figures : Figures) (r : Record) :
    (applyRecord inService figures r s).2.mem.ecc = [] := by
  by_cases isInit : ∃ k, r.body = .init k
  · obtain ⟨k, body⟩ := isInit
    have asInit : applyRecord inService figures r s = applyInit r.head s := by simp [applyRecord, body]
    rw [asInit]
    exact applyInit_sound hs r.head
  · exact sound_of_journalItems hs (applyRecord_journalItems hs inService figures (not_exists.mp isInit))

theorem endHold_journalItems (r : Record) : (endHold r s).journalItems = s.journalItems := by
  unfold endHold
  split
  · rw [restartIdle_eq hs]
    rfl
  · rfl

end

end Sys2Proof.Machine
end

section
/-!
SUPPORT. The ends of a record write: its completion (R134, R137, R187) and the faults of the writes made outside the
write queue (R135, R137, R148, R182, R185).
-/
namespace Sys2Proof.Machine

/-! ### The end of a read-back that passes (R130, R134) -/

section
variable {s : State} {w : BusWrite} {got : ReadGot} (powered : s.powered = true) (bus : s.bus = some (.write w))
  (phase : w.phase = .readBack)
include powered bus phase

theorem exec_readBackEnd_of_passes (plain : plainJob w.job = true)
    (passes : readBackPasses w.record w.pos got s.device = true) :
    exec (.readBackEnd got) s = .next (writeDone w s) := by
  show execReadBackEnd got s = _
  simp [execReadBackEnd, bus, powered, phase, plain, passes]

theorem exec_readBackEnd_of_fails (plain : plainJob w.job = true)
    (fails : readBackPasses w.record w.pos got s.device = false) :
    exec (.readBackEnd got) s = .next (faultWrite w .failedReadBack s) := by
  show execReadBackEnd got s = _
  simp [execReadBackEnd, bus, powered, phase, plain, fails]

theorem exec_retryVoidEnd (job : w.job = .retryVoid) {r : RetryWork} (retry : s.retry = some r) :
    exec (.retryVoidEnd got) s = .next (if readBackPasses w.record w.pos got s.device
      then endRetry r .ok (.retried w.record.head.seq) (closeMark s) else endRetry r .journalFault .empty s) := by
  show execRetryVoidEnd got s = _
  simp [execRetryVoidEnd, bus, powered, phase, job, retry]

theorem exec_startUpVoidEnd_of_readBack (job : w.job = .startUpVoid) :
    exec (.startUpVoidEnd got) s = .next (if readBackPasses w.record w.pos got s.device
      then beginScan true (closeMark s) else endStartUp s) := by
  show execStartUpVoidEnd got s = _
  simp [execStartUpVoidEnd, bus, powered, phase, job]

end

/-- Settles O44: the completion of each kind of write, its reply judged as the state then stands. -/
theorem readBackCompletes : Obligations.ReadBackCompletes := by
  intro s w c got hs powered bus phase copy passes raised
  have raises : raiseHead s = raised := raiseHead_of_sound hs copy
  have whole : raised.mem.ecc = [] := hs
  refine ⟨fun e rest job queue => ?_, fun i job init => ?_, fun job => ?_, fun r job retry => ?_⟩
  · intro r done
    have popped : ({ r.2 with queue := r.2.queue.tail, bus := none } : State).mem.ecc = [] :=
      applyRecord_sound whole true e.figures e.record
    have held : done.journalItems = State.journalItems { r.2 with queue := r.2.queue.tail, bus := none } :=
      endHold_journalItems popped e.record
    have completes : writeDone w s = answerEntry e r.1 done := by
      simp only [writeDone, job, queue, completeEntry, raises]
      rfl
    refine ⟨?_, fun other => ?_⟩
    · rw [exec_readBackEnd_of_passes powered bus phase (by rw [job]; rfl) passes, completes]
      unfold answerEntry
      cases e.owner with
      | none => rfl
      | some o => exact congrArg _ (replyIf_of_sound (sound_of_journalItems popped held) ..)
    · have applied := applyRecord_journalItems whole true e.figures other
      obtain ⟨queued, copied, ring, device, tx, -⟩ := journalItems_iff.mp applied
      obtain ⟨queued', copied', ring', device', tx', -⟩ := journalItems_iff.mp held
      refine ⟨queued'.trans ?_, copied'.trans copied, ring'.trans ring, device'.trans device, tx'.trans tx⟩
      exact (congrArg List.tail queued).trans (congrArg List.tail queue)
  · intro r done
    have completes : writeDone w s = replyIf (i.outside && i.replyDue) Kind.initialise.byte i.terminal i.tag r.1.1 r.1.2
        done := by
      simp only [writeDone, job, init, completeInit, raises]
      rfl
    rw [exec_readBackEnd_of_passes powered bus phase (by rw [job]; rfl) passes, completes]
    exact congrArg _ (replyIf_of_sound (by exact applyInit_sound whole w.record.head) ..)
  · rw [exec_readBackEnd_of_passes powered bus phase (by rw [job]; rfl) passes]
    simp only [writeDone, job, raises]
  · rw [exec_retryVoidEnd powered bus phase job retry, if_pos passes, closeMark_of_sound hs copy,
      endRetry_of_sound (by exact hs)]

/-! ### The faults of the writes outside the queue (R135) -/

section
variable {s : State} {w : BusWrite} (powered : s.powered = true) (bus : s.bus = some (.write w))
include powered bus

theorem exec_pollLimitExpiry_of_out (phase : w.phase = .programming 0 ∨ w.phase = .recovering 0) :
    exec .pollLimitExpiry s = .next (faultWrite w .pollLimit s) := by
  have out : pollOut w = true := by
    unfold pollOut
    rcases phase with phase | phase <;> rw [phase] <;> rfl
  show execPollLimitExpiry s = _
  simp [execPollLimitExpiry, bus, powered, out]

theorem exec_busNak_of_second (phase : w.phase = .sending) (second : w.secondAttempt = true) :
    exec (.busNak .unchanged) s = .next (faultWrite w .secondRefusal s) := by
  show execBusNak .unchanged s = _
  simp [execBusNak, bus, powered, phase, leavePage, second]

/-- A read-back that fails is a fault of the write, whatever operation it belongs to (R130, R135). -/
theorem exec_failedReadBack (phase : w.phase = .readBack) {got : ReadGot}
    (fails : readBackPasses w.record w.pos got s.device = false)
    (retrying : w.job = .retryVoid → ∃ r, s.retry = some r) :
    (plainJob w.job = true → exec (.readBackEnd got) s = .next (faultWrite w .failedReadBack s)) ∧
    (w.job = .retryVoid → exec (.retryVoidEnd got) s = .next (faultWrite w .failedReadBack s)) ∧
    (w.job = .startUpVoid → exec (.startUpVoidEnd got) s = .next (faultWrite w .failedReadBack s)) := by
  refine ⟨fun plain => exec_readBackEnd_of_fails powered bus phase plain fails, fun job => ?_, fun job => ?_⟩
  · obtain ⟨r, retry⟩ := retrying job
    rw [exec_retryVoidEnd powered bus phase job retry]
    simp [fails, faultWrite, job, retry]
  · rw [exec_startUpVoidEnd_of_readBack powered bus phase job]
    simp [fails, faultWrite, job]

end

/-- The INITIALISE returns the module to the state it held, with every idle timer and the scrub timer started afresh
(R179, R186). -/
theorem returnFromInit_restores {s : State} (hs : s.mem.ecc = []) {i : InitWork} (init : s.init = some i) :
    ∃ terms, returnFromInit s = { s with
        init := none, terms := terms
        mode := if i.wasInService && s.sysFault.isNone then .inService else .outOfService
        scrub := { s.scrub with timer := scrubTimer s.mem.sys.settings.scrubInterval } } ∧
      ∀ x, terms.get x = { s.term x with
        idle :=
          if (s.mem.sys.terms.get x).shift = .opened then
            if idleHeld x s then .held else .running (s.mem.sys.settings.idleLimit * 60000)
          else .stopped } := by
  obtain ⟨terms, returned, each⟩ := returnFromInit_of_init hs init
  refine ⟨terms, returned, fun x => ?_⟩
  have held : idleHeld x (restored i s) = idleHeld x s := rfl
  have memory : (restored i s).mem = s.mem := rfl
  rw [each x, idleAfresh, starting_restored, held, memory]
  rfl

/-- Settles O43: each write's fault by the operation it belongs to. -/
theorem writeFaultsOutsideQueue : Obligations.WriteFaultsOutsideQueue := by
  intro s w c cmd cause hs powered bus copy fault mark marked idleLimit interval
  have faults (retrying : w.job = .retryVoid → ∃ r, s.retry = some r) :
      exec cmd s = .next (faultWrite w cause s) := by
    rcases fault with ⟨rfl, rfl, phase⟩ | ⟨got, rfl, phase, fails, rfl⟩ | ⟨rfl, rfl, phase, second⟩
    · exact exec_pollLimitExpiry_of_out powered bus phase
    · obtain ⟨plain, retry, startUp⟩ := exec_failedReadBack powered bus phase fails retrying
      cases job : w.job with
      | retryVoid => exact retry job
      | startUpVoid => exact startUp job
      | entry => exact plain (by rw [job]; rfl)
      | initOutside => exact plain (by rw [job]; rfl)
      | memoryLossInit => exact plain (by rw [job]; rfl)
    · exact exec_busNak_of_second powered bus phase second
  have marks : markFault w.record.head.seq w.pos cause s = marked := markFault_of_sound hs copy _ _ _
  refine ⟨fun i job init outside => ?_, fun job => ?_, fun r job retry => ?_, fun job => ?_⟩
  · obtain ⟨terms, returned, each⟩ := returnFromInit_restores (s := freeBus marked) hs init
    have sound : (returnFromInit (freeBus marked)).mem.ecc = [] := by
      obtain ⟨mem, -⟩ := returnFromInit_leaves (s := freeBus marked) hs
      rw [mem]
      exact hs
    refine ⟨returnFromInit (freeBus marked), ?_, ?_, fun x => ?_⟩
    · have abandons : faultWrite w cause s = replyIf (i.outside && i.replyDue) Kind.initialise.byte i.terminal i.tag
          .journalFault .empty (returnFromInit (freeBus marked)) := by
        simp only [faultWrite, job, init, faultInit, marks]
        rfl
      rw [faults (by simp [job]), abandons, outside, Bool.true_and, replyIf_of_sound sound]
    · rw [returned]
      rfl
    · rw [returned]
      exact each x
  · rw [faults (by simp [job])]
    simp only [faultWrite, job, marks]
  · rw [faults fun _ => ⟨r, retry⟩]
    simp only [faultWrite, job, retry, endRetry_of_sound hs]
  · rw [faults (by simp [job])]
    simp only [faultWrite, job]

end Sys2Proof.Machine
end

section
/-!
SUPPORT. Start-up: the scan of the roll-forward (R183), the memory-loss initialisation (R185), the VOID at a fault mark
(R182) and the end of start-up (R184), with no word of account memory disturbed.
-/
namespace Sys2Proof.Machine

/-! ### What a read of the scan brings (R119, R133) -/

theorem bytesRead_outcome_ne_noAck (seq : Nat) (b : List Byte) : (bytesRead seq b).outcome ≠ .noAck := by
  unfold bytesRead goodRead
  split_ifs <;> exact nofun

section
variable {pos seq : Nat} {got : ReadGot} {device : SMap Page}

/-- A read is without an acknowledge exactly when none came (R133). -/
theorem readPage_noAck_iff : (readPage pos seq got device).outcome = .noAck ↔ got = .noAck := by
  unfold readPage
  cases got with
  | noAck => simp
  | bytes b => simp [bytesRead_outcome_ne_noAck]
  | held =>
    cases SMap.find pos device with
    | none => simp
    | some page =>
      cases page with
      | record r =>
        unfold goodRead
        dsimp only
        split_ifs <;> simp
      | bytes b => simp [bytesRead_outcome_ne_noAck]

theorem readPage_good_of_reads {r : Record} (reads : ReadsAs got pos device r) (same : r.head.seq = seq) :
    (readPage pos seq got device).outcome = .good ∧ (readPage pos seq got device).record = some r := by
  have brings := (readPage_record_eq_some_iff pos seq got device r).mpr reads
  exact ⟨(readPage_outcome brings).trans (if_pos same), brings⟩

/-- A read brings no record of a sequence when the position does not read as one. -/
theorem readPage_not_good (other : ∀ r, ReadsAs got pos device r → r.head.seq ≠ seq) (r : Record)
    (brings : (readPage pos seq got device).record = some r) : (readPage pos seq got device).outcome ≠ .good := by
  rw [readPage_outcome brings, if_neg (other r ((readPage_record_eq_some_iff pos seq got device r).mp brings))]
  exact nofun

end

/-! ### The reads of the scan (R183) -/

section
variable {s : State} {p : PageRead} {again : Bool} {c : RingCopy}

theorem lastRecordRead_of_good {r : Record} (good : p.outcome = .good ∧ p.record = some r) :
    lastRecordRead again p s = scanOn (applyRecord false .none r s).2 := by
  obtain ⟨outcome, record⟩ := good
  simp only [lastRecordRead, outcome, record, rollForward]

/-- Whatever else the record before the head reads as, the scan goes on at the head. -/
theorem lastRecordRead_of_other (answered : p.outcome ≠ .noAck) (other : ∀ r, p.record = some r → p.outcome ≠ .good) :
    lastRecordRead again p s = scanOn s := by
  unfold lastRecordRead
  split
  · exact absurd ‹_› (other _ ‹_›)
  · exact absurd ‹_› answered
  · rfl

theorem lastRecordRead_of_noAck (none : p.outcome = .noAck) :
    lastRecordRead again p s = if again then scanOn s else s.setMode (.starting (.lastRecord true)) := by
  simp only [lastRecordRead, none]

theorem headRead_of_good {r : Record} (good : p.outcome = .good ∧ p.record = some r) :
    headRead again c p s = scanOn (applyRecord false .none r (raiseHead s)).2 := by
  obtain ⟨outcome, record⟩ := good
  simp only [headRead, outcome, record, rollForward]

/-- A position that reads as no record of the head's sequence ends start-up. -/
theorem headRead_of_other (answered : p.outcome ≠ .noAck) (other : ∀ r, p.record = some r → p.outcome ≠ .good) :
    headRead again c p s = endStartUp s := by
  unfold headRead
  split
  · exact absurd ‹_› (other _ ‹_›)
  · exact absurd ‹_› answered
  · rfl

theorem headRead_of_noAck (none : p.outcome = .noAck) : headRead again c p s =
    if again then endStartUp (setMark (some { seq := c.head, pos := positionOf c.head }) s)
    else s.setMode (.starting (.scan true)) := by
  simp only [headRead, none]

theorem scanOn_of_starting (begun : starting s = true) : scanOn s = s.setMode (.starting (.scan false)) := if_pos begun

section
variable (powered : s.powered = true) (copy : s.copy = some c)
include powered copy

theorem exec_rollForwardRead_before (mode : s.mode = .starting (.lastRecord again)) (got : ReadGot) :
    exec (.rollForwardRead got) s =
      .next (lastRecordRead again (readPage ((c.head - 1) % 4096) (c.head - 1) got s.device) s) := by
  show execRollForwardRead got s = _
  simp [execRollForwardRead, mode, copy, powered, positionOf]

theorem exec_rollForwardRead_at (mode : s.mode = .starting (.scan again)) (got : ReadGot) :
    exec (.rollForwardRead got) s = .next (headRead again c (readPage (c.head % 4096) c.head got s.device) s) := by
  show execRollForwardRead got s = _
  simp [execRollForwardRead, mode, copy, powered, positionOf]

end

end

theorem starting_of_mode {s : State} {phase : BootPhase} (mode : s.mode = .starting phase) : starting s = true := by
  unfold starting
  rw [mode]

/-- Settles O47: each read by what it brings; a record found at the head keeps the module STARTING unless it is an
INIT. -/
theorem rollForwardReadsTheJournal : Obligations.RollForwardReadsTheJournal := by
  intro s c again got hs powered copy scanning
  refine ⟨fun mode => ?_, fun mode => ?_⟩
  · have before (g : ReadGot) := exec_rollForwardRead_before powered copy mode g
    have goes : scanOn s = s.setMode (.starting (.scan false)) := scanOn_of_starting (starting_of_mode mode)
    have unanswered : exec (.rollForwardRead .noAck) s = .next (if again then scanOn s
        else s.setMode (.starting (.lastRecord true))) := by
      rw [before, lastRecordRead_of_noAck (readPage_noAck_iff.mpr rfl)]
    refine ⟨fun r reads same => ?_, fun answered other => ?_, fun first => ?_, fun second => ?_⟩
    · rw [before, lastRecordRead_of_good (readPage_good_of_reads reads same)]
      rfl
    · rw [before, lastRecordRead_of_other (mt readPage_noAck_iff.mp answered) (readPage_not_good other), goes]
    · rw [unanswered, first]
      rfl
    · rw [unanswered, second, if_pos rfl, goes]
  · have atHead (g : ReadGot) := exec_rollForwardRead_at powered copy mode g
    have unanswered : exec (.rollForwardRead .noAck) s = .next (if again
        then endStartUp (setMark (some { seq := c.head, pos := positionOf c.head }) s)
        else s.setMode (.starting (.scan true))) := by
      rw [atHead, headRead_of_noAck (readPage_noAck_iff.mpr rfl)]
    refine ⟨fun r reads same => ?_, fun answered other => ?_, fun first => ?_, fun second => ?_⟩
    · intro raised
      refine ⟨?_, fun notInit => ?_⟩
      · rw [atHead, headRead_of_good (readPage_good_of_reads reads same), raiseHead_of_sound hs copy]
        rfl
      · have kept := applyRecord_journalItems (s := raised) hs false .none notInit
        obtain ⟨-, -, -, -, -, stays, -⟩ := journalItems_iff.mp kept
        exact starting_of_mode (stays.trans mode)
    · rw [atHead, headRead_of_other (mt readPage_noAck_iff.mp answered) (readPage_not_good other)]
    · rw [unanswered, first]
      rfl
    · rw [unanswered, second, if_pos rfl, setMark_of_sound hs copy]
      rfl

/-! ### The memory-loss initialisation and the VOID at a fault mark (R182, R185) -/

section
variable {s : State} (powered : s.powered = true)
include powered

theorem exec_memoryLossInit (mode : s.mode = .starting .memoryLoss) (bus : s.bus = some .scan) (reads : SMap ReadGot) :
    exec (.memoryLossInit reads) s = .next (if highestSeq reads s.device = 4294967295 then journalSpent s
      else memoryLossAt (highestSeq reads s.device + 1) s) := by
  show execMemoryLossInit reads s = _
  simp [execMemoryLossInit, powered, mode, bus]

theorem exec_startUpVoidEnd_of_probe {w : BusWrite} (bus : s.bus = some (.write w)) (job : w.job = .startUpVoid)
    (phase : w.phase = .sending) (first : w.secondAttempt = false) :
    exec (.startUpVoidEnd .noAck) s = .next (endStartUp s) := by
  show execStartUpVoidEnd .noAck s = _
  simp [execStartUpVoidEnd, powered, bus, job, phase, first]

end

theorem memoryLossAt_eq (head : Nat) (s : State) : memoryLossAt head s =
    { s with
      mode := .starting .memoryLossInit
      mem := .initial head s.secure.voucherFloor head head
      copy := some { head := head, tail := head, mark := none }
      clock := { reading := 0, state := .notSet, lastApplied := head, alarm := none, tariffRaised := false,
                 ticks := s.clock.ticks }
      secure := { s.secure with keyLastApplied := head }
      bus := some (.write
        { job := .memoryLossInit, pos := head % 4096, secondAttempt := false, phase := .sending
          record := memoryLossRecord head }) } := rfl

theorem journalSpent_of_sound {s : State} (hs : s.mem.ecc = []) : journalSpent s =
    { s with mode := .outOfService, copy := none, bus := none
             scrub := { pos := 0, timer := scrubTimer s.mem.sys.settings.scrubInterval } } := by
  unfold journalSpent
  rw [touchItem_of_sound hs]
  dsimp only
  rw [settingsView_of_sound hs]
  rfl

theorem beginScan_after_void {s : State} :
    beginScan true s = { s with mode := .starting (.scan false), bus := some .scan } := rfl

/-- Settles O48: the end of start-up by the PENDING bank it finds. -/
theorem startUpBeginsAndEnds : Obligations.StartUpBeginsAndEnds := by
  intro s hs powered scrubber
  refine ⟨fun reads mode bus => ⟨fun left => ?_, fun spent => ?_⟩, fun w c got bus job copy =>
    ⟨fun phase passes => ?_, fun phase fails => ?_, exec_startUpVoidEnd_of_probe powered bus job⟩,
    ?_⟩
  · intro head
    rw [exec_memoryLossInit powered mode bus, if_neg left, memoryLossAt_eq]
    rfl
  · rw [exec_memoryLossInit powered mode bus, if_pos spent, journalSpent_of_sound hs]
    rfl
  · rw [exec_startUpVoidEnd_of_readBack powered bus phase job, if_pos passes, closeMark_of_sound hs copy,
      beginScan_after_void]
  · rw [exec_startUpVoidEnd_of_readBack powered bus phase job, if_neg (by simp [fails])]
  · obtain ⟨alarm, raised, tariffs, taken, without, withBank⟩ := tariffs_at_endStartUp hs
    have ends := endStartUp_of_tariffs hs taken
    refine ⟨fun pending => ?_, fun b eff pending early => ?_, fun b eff pending due => ?_⟩
    · obtain ⟨rfl, rfl, rfl⟩ := without pending
      exact ends
    · obtain ⟨future, -⟩ := withBank b eff pending
      obtain ⟨rfl, rfl, rfl⟩ := future early
      exact ends
    · obtain ⟨-, arrived⟩ := withBank b eff pending
      obtain ⟨rfl, rfl, rfl⟩ := arrived due
      exact ends

end Sys2Proof.Machine
end

section
/-!
SUPPORT. The law of the damage list (R146) and that of the system fault address (R148, R179), through every operation:
both speak of the damage list, the module state and the fault address alone, so one walk over the operations serves
both.
-/
namespace Sys2Proof.Machine

/-- What the two laws speak of. -/
def State.guarded (s : State) : DamageList × ModuleMode × Option Nat := (s.mem.sys.damage, s.mode, s.sysFault)

/-- A state that meets each of the two laws which the state `o` before it meets. -/
structure Upholds (o s : State) : Prop where
  damage : o.mem.sys.damage.lawful → s.mem.sys.damage.lawful
  fault : FaultHeld o → FaultHeld s

theorem Upholds.refl (s : State) : Upholds s s := ⟨id, id⟩

/-- A state that meets both laws upholds them whatever came before. -/
theorem Upholds.ofLaws {o s : State} (damage : s.mem.sys.damage.lawful) (fault : FaultHeld s) : Upholds o s :=
  ⟨fun _ => damage, fun _ => fault⟩

/-- A module that is not IN_SERVICE meets the law of the fault address, and so does one that holds no such address. -/
theorem faultHeld_of_mode {s : State} (out : s.mode ≠ .inService) : FaultHeld s := fun _ => out

theorem faultHeld_of_none {s : State} (none : s.sysFault = none) : FaultHeld s := by simp [FaultHeld, none]

/-- A word that becomes the fault address leaves no module IN_SERVICE (R148). -/
theorem sysBad_mode_ne (a : Nat) (s : State) : (sysBad a s).mode ≠ .inService := by
  show (if s.mode = .inService then ModuleMode.outOfService else s.mode) ≠ .inService
  split_ifs with service
  · simp
  · exact service

theorem lawful_nil (overflow : Bool) : DamageList.lawful { slots := [], overflow := overflow } :=
  ⟨List.nodup_nil, Nat.zero_le 32⟩

/-- Account memory written afresh lists no slot (R185, R187). -/
theorem initial_lawful (seq floor head tail : Nat) : (AccountMemory.initial seq floor head tail).sys.damage.lawful :=
  lawful_nil false

section
variable {o s : State} (h : Upholds o s)
include h

/-- What reaches none of the items that the laws speak of. -/
theorem Upholds.aside {t : State} (same : t.guarded = s.guarded) : Upholds o t := by
  simp only [State.guarded, Prod.mk.injEq] at same
  obtain ⟨damage, mode, fault⟩ := same
  refine ⟨fun law => ?_, fun law => ?_⟩
  · rw [damage]
    exact h.damage law
  · rw [FaultHeld, fault, mode]
    exact h.fault law

theorem Upholds.setClock (v : Clock) : Upholds o (s.setClock v) := h.aside rfl
theorem Upholds.setReads (v : List (Fin 8)) : Upholds o (s.setReads v) := h.aside rfl
theorem Upholds.setScrub (v : Scrubber) : Upholds o (s.setScrub v) := h.aside rfl
theorem Upholds.setLine (v : LineState) : Upholds o (s.setLine v) := h.aside rfl
theorem Upholds.setTx (v : List Reply) : Upholds o (s.setTx v) := h.aside rfl
theorem Upholds.setInit (v : Option InitWork) : Upholds o (s.setInit v) := h.aside rfl
theorem Upholds.setTerms (v : Eight TermWork) : Upholds o (s.setTerms v) := h.aside rfl
theorem Upholds.setCopy (v : Option RingCopy) : Upholds o (s.setCopy v) := h.aside rfl
theorem Upholds.setQueue (v : List QueueEntry) : Upholds o (s.setQueue v) := h.aside rfl
theorem Upholds.setRetry (v : Option RetryWork) : Upholds o (s.setRetry v) := h.aside rfl
theorem Upholds.setBus (v : Option BusOp) : Upholds o (s.setBus v) := h.aside rfl

/-- The module leaves IN_SERVICE, or stays out of it. -/
theorem Upholds.setMode {m : ModuleMode} (out : m ≠ .inService) : Upholds o (s.setMode m) :=
  ⟨h.damage, fun _ => faultHeld_of_mode out⟩

/-- The module state goes by the fault address (R179). -/
theorem Upholds.setModeByFault : Upholds o (s.setMode (if s.sysFault.isSome then .outOfService else .inService)) := by
  refine ⟨h.damage, fun _ held => ?_⟩
  have present : s.sysFault.isSome = true := held
  simp [present]

theorem Upholds.clearFault : Upholds o (s.setSysFault none) := ⟨h.damage, fun _ => faultHeld_of_none rfl⟩

theorem foldl_upholds {α : Type} {f : State → α → State} (each : ∀ u a, Upholds o u → Upholds o (f u a)) (l : List α) :
    Upholds o (l.foldl f s) := List.foldlRecOn l f h fun u held a _ => each u a held

/-! ### Account memory -/

theorem sysBad_upholds (a : Nat) : Upholds o (sysBad a s) := ⟨h.damage, fun _ => faultHeld_of_mode (sysBad_mode_ne a s)⟩

theorem logError_upholds (a : Nat) (d : Disturb) : Upholds o (logError a d s) := by
  unfold logError
  split
  · exact sysBad_upholds (h.aside (by rfl)) _
  · exact h.aside rfl

theorem readSysWord_upholds (x : Nat × Disturb) : Upholds o (readSysWord s x) := by
  unfold readSysWord
  repeat' split
  · exact h
  · exact logError_upholds (h.aside (by rfl)) _ _
  · exact logError_upholds (sysBad_upholds (h.aside (by rfl)) _) _ _
  · exact h

theorem touchItem_upholds (i : SysItem) : Upholds o (touchItem i s) := by
  have read := foldl_upholds h (fun _ x held => readSysWord_upholds held x) (s.mem.ecc.filter (fun x => itemWord i x.1))
  unfold touchItem
  dsimp only
  split_ifs
  · exact read.aside rfl
  · exact read

theorem touchItems_upholds (is : List SysItem) : Upholds o (is.foldl (fun u i => touchItem i u) s) :=
  foldl_upholds h (fun _ i held => touchItem_upholds held i) is

theorem storeItems_upholds (is : List SysItem) {f : SystemArea → SystemArea}
    (keeps : ∀ a, a.damage.lawful → (f a).damage.lawful) : Upholds o (storeItems is f s) :=
  ⟨fun law => keeps _ (h.damage law), h.fault⟩

theorem writeItems_upholds (is : List SysItem) {f : SystemArea → SystemArea}
    (keeps : ∀ a, a.damage.lawful → (f a).damage.lawful) : Upholds o (writeItems is f s) := by
  have read := touchItems_upholds h is
  unfold writeItems
  dsimp only
  split_ifs
  · exact read
  · exact storeItems_upholds read is keeps

theorem writeItem_upholds (i : SysItem) {f : SystemArea → SystemArea}
    (keeps : ∀ a, a.damage.lawful → (f a).damage.lawful) : Upholds o (writeItem i f s) :=
  writeItems_upholds h [i] keeps

theorem writeTerm_upholds (t : Fin 8) (f : TermEntry → TermEntry) : Upholds o (writeTerm t f s) :=
  writeItem_upholds h _ fun _ law => by exact law

theorem enterDamage_upholds (slot : Nat) : Upholds o (enterDamage slot s) :=
  writeItem_upholds h _ fun _ ⟨nodup, short⟩ =>
    ⟨DamageList.enter_nodup nodup slot, DamageList.enter_length short slot⟩

theorem leaveDamage_upholds (slot : Nat) : Upholds o (leaveDamage slot s) :=
  writeItem_upholds h _ fun _ ⟨nodup, short⟩ => ⟨nodup.filter _, (List.length_filter_le _ _).trans short⟩

theorem markIndexDamaged_upholds (a : Nat) : Upholds o (markIndexDamaged a s) := h.aside rfl

theorem readWord_upholds (x : Nat × Disturb) : Upholds o (readWord s x) := by
  unfold readWord
  dsimp only
  repeat' split
  · exact readSysWord_upholds h x
  · exact h
  · exact logError_upholds (h.aside (by rfl)) _ _
  · exact markIndexDamaged_upholds (logError_upholds (h.aside (by rfl)) _ _) _
  · exact enterDamage_upholds (logError_upholds (h.aside (by rfl)) _ _) _
  · exact h

theorem readWords_upholds (p : Nat → Bool) : Upholds o (readWords p s) :=
  foldl_upholds h (fun _ x held => readWord_upholds held x) _

theorem readSlot_upholds (slot : Nat) : Upholds o (readSlot slot s) := readWords_upholds h _

theorem disturb_upholds (d : Disturbance) : Upholds o (disturb d s) :=
  ⟨fun law => disturb_damage (h.damage law) d, h.fault⟩

theorem changeIndex_upholds (f : SMap IndexEntry → SMap IndexEntry) : Upholds o (changeIndex f s) := by
  have read := readWords_upholds h (fun a => headerWord a || changeWord s.mem.index.entries (f s.mem.index.entries) a)
  unfold changeIndex
  dsimp only
  split_ifs
  · exact read
  · exact read.aside rfl

/-- What the battery's failure leaves of the damage list comes cut to its law (log 10). -/
theorem loseMemory_upholds : Upholds o (loseMemory s) := ⟨fun _ => DamageList.cut_law _, h.fault⟩

theorem releaseSale_upholds (t : Fin 8) : Upholds o (releaseSale t s) := by
  unfold releaseSale
  split <;> exact h.aside rfl

theorem leavePage_upholds (pos : Nat) (r : Record) (left : PageLeft) : Upholds o (leavePage pos r left s) := by
  cases left <;> exact h.aside rfl

theorem setPointers_upholds (head tail : Nat) : Upholds o (setPointers head tail s) :=
  writeItem_upholds (h.setCopy _) _ fun _ law => by exact law

theorem setMark_upholds (m : Option FaultMark) : Upholds o (setMark m s) :=
  writeItem_upholds (h.setCopy _) _ fun _ law => by exact law

end

/-! ### The requests (R173, R174) -/

theorem judgeStep_upholds {o s t : State} (step : JudgeStep s t) (h : Upholds o s) : Upholds o t := by
  cases step with
  | touch i => exact touchItem_upholds h i
  | words p => exact readWords_upholds h p
  | damage slot => exact enterDamage_upholds h slot
  | entry u f => exact writeTerm_upholds h u f
  | cleared => exact storeItems_upholds h _ fun _ law => by exact law
  | released u => exact releaseSale_upholds h u
  | quoted u p => exact (releaseSale_upholds h u).aside rfl
  | pointers head tail => exact setPointers_upholds h head tail
  | initialise w => exact ((h.setTerms _).setInit _).setMode (by simp)
  | emptied | live _ _ | idle _ _ | lookup _ _ | sale _ _ | retry _ | latch | record _ _ _ _ _ => exact h.aside rfl

theorem pushReply_upholds {o s : State} (h : Upholds o s) (k t : Byte) (tag : Tag) (r : ResultCode) (body : ReplyBody) :
    Upholds o (pushReply k t tag r body s) := by
  have judged : Upholds o (touchForFlags s) :=
    readWords_upholds (touchItem_upholds (touchItem_upholds (touchItem_upholds h _) _) _) _
  exact (judged.setTx _).setLine _

theorem requestLaw_upholds (o : State) : RequestLaw (Upholds o) :=
  ⟨fun _ h => h.setLine _, fun _ _ step h => judgeStep_upholds step h,
    fun _ _ _ _ _ _ h => pushReply_upholds h _ _ _ _ _⟩

section
variable {o s : State} (h : Upholds o s)
include h

/-! ### Replies, idle timers and the journal's pointers -/

theorem replyIf_upholds (due : Bool) (k : Byte) (t : Fin 8) (tag : Tag) (r : ResultCode) (body : ReplyBody) :
    Upholds o (replyIf due k t tag r body s) := by
  cases due
  · exact h
  · exact pushReply_upholds h _ _ _ _ _

theorem restartIdle_upholds (t : Fin 8) : Upholds o (restartIdle t s) :=
  (requestLaw_upholds o).judges (restartIdle_judges t s) h

theorem raiseHead_upholds : Upholds o (raiseHead s) := by
  unfold raiseHead
  split
  · exact setPointers_upholds h _ _
  · exact h

theorem closeMark_upholds : Upholds o (closeMark s) := setMark_upholds (raiseHead_upholds h) _

theorem markFault_upholds (seq pos : Nat) (cause : FaultCause) : Upholds o (markFault seq pos cause s) :=
  writeItem_upholds (setMark_upholds h _) _ fun _ law => by exact law

/-! ### The tariff alarm, and the end of start-up or of an INITIALISE -/

theorem alarmFromMemory_upholds : Upholds o (alarmFromMemory s) := by
  have read := touchItem_upholds h .pendingBank
  unfold alarmFromMemory alarmFromPending
  dsimp only
  repeat' split
  all_goals exact read.aside rfl

theorem takeTariffEffective_upholds : Upholds o (takeTariffEffective s) := by
  have read := touchItem_upholds h .pendingBank
  have switched := writeItems_upholds read [.activeBank, .pendingBank]
    (f := fun a => { a with tariffs := a.tariffs.switchAt (touchItem .pendingBank s).clock.reading }) fun _ => id
  unfold takeTariffEffective
  dsimp only
  split_ifs
  · exact read
  · exact switched
  · exact switched.aside rfl
  · exact read

/-- Start-up ends in the module state that the fault address asks for (R184). -/
theorem endStartUp_upholds : Upholds o (endStartUp s) := by
  have read := touchItem_upholds (takeTariffEffective_upholds (alarmFromMemory_upholds h)) .settings
  exact ((read.setScrub _).setBus none).setModeByFault

/-- An INITIALISE that initialises nothing leaves the module IN_SERVICE only where no fault address has come (R186). -/
theorem returnFromInit_upholds : Upholds o (returnFromInit s) := by
  unfold returnFromInit
  split
  · exact h
  · rename_i i _
    have back : Upholds o
        ((s.setMode (if i.wasInService && s.sysFault.isNone then .inService else .outOfService)).setInit none) := by
      refine ⟨h.damage, fun _ held => ?_⟩
      have present : s.sysFault.isNone = false := Option.isNone_eq_false_iff.mpr held
      show (if i.wasInService && s.sysFault.isNone then ModuleMode.inService else .outOfService) ≠ .inService
      simp [present]
    have idle := foldl_upholds back (f := fun acc t => restartIdle t acc) (fun _ t held => restartIdle_upholds held t)
      allTerminals
    exact (touchItem_upholds idle .settings).setScrub _

theorem abandonInit_upholds (i : InitWork) (r : ResultCode) : Upholds o (abandonInit i r s) :=
  replyIf_upholds (returnFromInit_upholds (h.setBus none)) _ _ _ _ _ _

theorem endRetry_upholds (w : RetryWork) (r : ResultCode) (body : ReplyBody) : Upholds o (endRetry w r body s) :=
  replyIf_upholds (restartIdle_upholds ((h.setBus none).setRetry none) _) _ _ _ _ _ _

theorem endJournalRead_upholds (t : Fin 8) (w : JournalReadWork) (r : ResultCode) (reads : List PositionView) :
    Upholds o (endJournalRead t w r reads s) :=
  replyIf_upholds (touchItem_upholds (touchItem_upholds (h.setTerms _) _) _) _ _ _ _ _ _

theorem endLookup_upholds (t : Fin 8) (v : VendLookup) (found : Option SaleBody) : Upholds o (endLookup t v found s) :=
  (requestLaw_upholds o).endLookup (h.setTerms _) v found

/-! ### The effects of a record (R121) -/

theorem applyAccount_upholds (slot : Nat) (head : RecordHead) (f : Account → Account) :
    Upholds o (applyAccount slot head f s).2 := by
  have listed := touchItem_upholds h .damageList
  have read := readSlot_upholds listed slot
  unfold applyAccount
  dsimp only
  repeat' split
  · exact listed
  · exact read
  · exact read.aside rfl
  · exact read

theorem applyLoad_upholds (slot : Nat) (image : Account) (head : RecordHead) :
    Upholds o (applyLoad slot image head s).2 := by
  have read := readSlot_upholds (touchItem_upholds h .damageList) slot
  unfold applyLoad
  dsimp only
  split_ifs
  · exact changeIndex_upholds (leaveDamage_upholds (read.aside (by rfl)) _) _
  · exact read

omit h in
theorem indexWhen_upholds {r : Reached × State} (held : Upholds o r.2) (f : SMap IndexEntry → SMap IndexEntry) :
    Upholds o (indexWhen r f) := by
  unfold indexWhen
  split
  · exact changeIndex_upholds held f
  · exact held

theorem applyAccountRecord_upholds (head : RecordHead) (a : AccountRecord) :
    Upholds o (applyAccountRecord head a s).2 := by
  cases a with
  | create slot n => exact indexWhen_upholds (applyAccount_upholds h slot head _) _
  | edit slot _ e => exact applyAccount_upholds h slot head _
  | close slot _ => exact indexWhen_upholds (applyAccount_upholds h slot head _) _
  | replace slot old meter area gen => exact indexWhen_upholds (applyAccount_upholds h slot head _) _
  | load slot image => exact applyLoad_upholds h slot image head
  | rekey slot _ => exact applyAccount_upholds h slot head _

theorem applyTotals_upholds (head : RecordHead) (f : ShiftTotals → ShiftTotals) : Upholds o (applyTotals head f s) := by
  unfold applyTotals
  split
  · exact h
  · exact writeTerm_upholds h _ _

theorem applyReserve_upholds (seq : Nat) (f : ReserveRecord → ReserveRecord) : Upholds o (applyReserve seq f s) :=
  writeItem_upholds h _ fun _ law => by split_ifs <;> exact law

theorem endSale_upholds (head : RecordHead) : Upholds o (endSale head s) := by
  unfold endSale
  split
  · exact releaseSale_upholds h _
  · exact h

theorem debtAfter_upholds (slot : Nat) (r : Reached) : Upholds o (debtAfter slot r s).2 := by
  cases r <;> exact h.aside rfl

theorem applyTariff_upholds (head : RecordHead) (b : TariffBank) (effective : Nat) :
    Upholds o (applyTariff head b effective s).2 := by
  have read := touchItem_upholds h .bankIds
  have written (place : SysItem) := writeItems_upholds read [place, .bankIds]
    (f := fun a => { a with tariffs := tariffOn head.seq (touchItem .bankIds s).clock.reading b effective a.tariffs })
    fun _ => id
  unfold applyTariff installBank
  dsimp only
  split_ifs
  · exact read
  · exact written _
  · exact alarmFromMemory_upholds (written _)
  · exact written _
  · exact alarmFromMemory_upholds (written _)
  · exact read

theorem applySettings_upholds (head : RecordHead) (c : SettingsChange) : Upholds o (applySettings head c s) := by
  have read := touchItem_upholds h .settings
  have stored := storeItems_upholds read [.settings]
    (f := fun a => { a with settings := c.on a.settings, settingsApplied := head.seq }) fun _ => id
  unfold applySettings restartScrub
  dsimp only
  repeat' split
  · exact read
  · exact stored
  · exact stored.aside rfl
  · exact stored
  · exact read

/-- An initialisation lists no slot and holds no fault address (R187). -/
theorem applyInit_upholds (head : RecordHead) : Upholds o (applyInit head s).2 := by
  have read := touchItem_upholds h .signature
  have fresh : Upholds o (initialiseAll head.seq (touchItem .signature s)) :=
    .ofLaws (initial_lawful _ _ _ _) (faultHeld_of_none rfl)
  unfold applyInit
  dsimp only
  split_ifs
  · exact (endStartUp_upholds fresh).setInit none
  · exact returnFromInit_upholds read

theorem applyRecord_upholds (inService : Bool) (figures : Figures) (r : Record) :
    Upholds o (applyRecord inService figures r s).2 := by
  obtain ⟨head, body⟩ := r
  cases body with
  | init _ => exact applyInit_upholds h head
  | sale b =>
    exact endSale_upholds (applyTotals_upholds (applyReserve_upholds (applyAccount_upholds h _ _ _) _ _) _ _) _
  | payment b => exact endSale_upholds (applyTotals_upholds (applyAccount_upholds h _ _ _) _ _) _
  | reissue slot _ link =>
    simp only [applyRecord, applyReissue]
    exact applyTotals_upholds (applyAccount_upholds h _ _ _) _ _
  | reversal b =>
    exact applyTotals_upholds (applyReserve_upholds (debtAfter_upholds (applyAccount_upholds h _ _ _) _ _) _ _) _ _
  | grant v => exact (applyReserve_upholds h _ _).aside rfl
  | shiftOpen =>
    simp only [applyRecord, applyShiftOpen]
    split
    · exact h
    · exact writeTerm_upholds h _ _
  | shiftClose b => exact writeTerm_upholds h _ _
  | terminal t role => exact writeTerm_upholds h _ _
  | account a => exact applyAccountRecord_upholds h head a
  | tariff b effective => exact applyTariff_upholds h head b effective
  | settings c => exact applySettings_upholds h head c
  | key k =>
    simp only [applyRecord, applyKey]
    split_ifs <;> exact h.aside rfl
  | clock new =>
    simp only [applyRecord, applyClock]
    split_ifs <;> exact h.aside rfl
  | void _ | other _ => exact h

/-! ### Completions and fault answers (R134, R135) -/

theorem endHold_upholds (r : Record) : Upholds o (endHold r s) := by
  unfold endHold
  split
  · exact restartIdle_upholds h _
  · exact h

theorem answerEntry_upholds (e : QueueEntry) (spoken : Spoken) : Upholds o (answerEntry e spoken s) := by
  unfold answerEntry
  split
  · exact replyIf_upholds h _ _ _ _ _ _
  · exact h

theorem completeEntry_upholds (e : QueueEntry) : Upholds o (completeEntry e s) := by
  have applied := applyRecord_upholds (raiseHead_upholds h) true e.figures e.record
  exact answerEntry_upholds (endHold_upholds ((applied.setQueue _).setBus none) _) _ _

theorem completeInit_upholds (w : BusWrite) (i : InitWork) : Upholds o (completeInit w i s) :=
  replyIf_upholds ((applyInit_upholds (raiseHead_upholds h) w.record.head).setBus none) _ _ _ _ _ _

theorem writeDone_upholds (w : BusWrite) : Upholds o (writeDone w s) := by
  unfold writeDone
  repeat' split
  · exact completeEntry_upholds h _
  · exact h.aside rfl
  · exact completeInit_upholds h _ _
  · exact h.aside rfl
  · exact endStartUp_upholds (raiseHead_upholds h)
  · exact h
  · exact h

theorem faultEntry_upholds (e : QueueEntry) : Upholds o (faultEntry s e) := by
  have left : Upholds o (s.setQueue s.queue.tail) := h.aside rfl
  unfold faultEntry faultOwner
  refine answerEntry_upholds ?_ _ _
  split
  · exact endHold_upholds (endSale_upholds left _) _
  · exact endHold_upholds (endSale_upholds left _) _
  · exact returnFromInit_upholds left
  · exact endHold_upholds left _

theorem faultWrite_upholds (w : BusWrite) (cause : FaultCause) : Upholds o (faultWrite w cause s) := by
  have marked := markFault_upholds h w.record.head.seq w.pos cause
  unfold faultWrite
  repeat' split
  · exact foldl_upholds (marked.setBus none) (fun _ e held => faultEntry_upholds held e) _
  · exact endRetry_upholds h _ _ _
  · exact h.aside rfl
  · exact endStartUp_upholds h
  · exact abandonInit_upholds marked _ _
  · exact marked.aside rfl
  · exact endStartUp_upholds marked

/-! ### Start-up and the supply reset (R180 to R185) -/

theorem cutWrite_upholds (left : PageLeft) : Upholds o (cutWrite left s) := by
  unfold cutWrite
  repeat' split
  · exact h
  · exact leavePage_upholds h _ _ _
  · exact leavePage_upholds h _ _ _
  · exact h
  · exact h

theorem suspendOpen_upholds (t : Fin 8) : Upholds o (suspendOpen s t) := by
  unfold suspendOpen
  split_ifs
  · exact storeItems_upholds h _ fun _ law => by exact law
  · exact h

/-- The scan of the roll-forward begins in a module that is STARTING. -/
theorem beginScan_upholds (afterVoid : Bool) : Upholds o (beginScan afterVoid s) :=
  (h.setBus _).setMode (by simp)

theorem startJournal_upholds : Upholds o (startJournal s) := by
  unfold startJournal
  repeat' split
  · exact endStartUp_upholds h
  · exact (h.setBus _).setMode (by simp)
  · exact beginScan_upholds h _

theorem startUp_upholds : Upholds o (startUp s) := by
  have read : Upholds o (readWords inSystem (s.setMode (.starting .memoryLoss))) :=
    readWords_upholds (h.setMode (by simp)) _
  have loaded : Upholds o (loadCopy (readWords inSystem (s.setMode (.starting .memoryLoss)))) := read.aside rfl
  unfold startUp
  dsimp only
  split_ifs
  · exact startJournal_upholds (foldl_upholds loaded (fun _ t held => suspendOpen_upholds held t) _)
  · exact read.clearFault.aside rfl

/-- A supply reset holds no fault address until start-up finds one (R180, R181). -/
theorem supplyReset_upholds (r : ResetInputs) : Upholds o (supplyReset r s) := by
  have cut := cutWrite_upholds h r.left
  have dark : Upholds o (resetVolatile r.strap (cutWrite r.left s)) := ⟨cut.damage, fun _ => faultHeld_of_none rfl⟩
  refine startUp_upholds (disturb_upholds ?_ _)
  split_ifs
  · exact loseMemory_upholds dark
  · exact dark

theorem scanOn_upholds : Upholds o (scanOn s) := by
  unfold scanOn
  split_ifs
  · exact h.setMode (by simp)
  · exact h

theorem lastRecordRead_upholds (again : Bool) (p : PageRead) : Upholds o (lastRecordRead again p s) := by
  unfold lastRecordRead
  repeat' split
  · exact scanOn_upholds (applyRecord_upholds h _ _ _)
  · exact scanOn_upholds h
  · exact h.setMode (by simp)
  · exact scanOn_upholds h

theorem headRead_upholds (again : Bool) (c : RingCopy) (p : PageRead) : Upholds o (headRead again c p s) := by
  unfold headRead
  repeat' split
  · exact scanOn_upholds (applyRecord_upholds (raiseHead_upholds h) _ _ _)
  · exact endStartUp_upholds (setMark_upholds h _)
  · exact h.setMode (by simp)
  · exact endStartUp_upholds h

theorem journalSpent_upholds : Upholds o (journalSpent s) :=
  ((((touchItem_upholds h .settings).setScrub _).setBus none).setCopy none).setMode (by simp)

omit h in
theorem memoryLossAt_upholds (head : Nat) : Upholds o (memoryLossAt head s) :=
  .ofLaws (initial_lawful _ _ _ _) (faultHeld_of_mode (by simp [memoryLossAt]))

/-! ### Ticks and the scrubber (R150, R156, R159) -/

theorem secondStep_upholds (d : Disturbance) : Upholds o (secondStep d s) := by
  have stepped : Upholds o (disturb d (s.setClock (stepClock s.powered s.clock))) := disturb_upholds (h.setClock _) d
  unfold secondStep
  dsimp only
  split_ifs <;> exact stepped.aside rfl

theorem tick_upholds : Upholds o (tick s) := by
  unfold tick
  split_ifs
  · exact secondStep_upholds h _
  · exact h.aside rfl
  · exact h

theorem scrubWord_upholds : Upholds o (scrubWord s) := by
  have read : Upholds o (if s.scrub.pos < 131072 then touchItem .damageList s else s) := by
    split_ifs
    · exact touchItem_upholds h _
    · exact h
  unfold scrubWord
  dsimp only
  generalize (if s.scrub.pos < 131072 then touchItem .damageList s else s) = u at read
  split_ifs
  · exact read
  · exact readWords_upholds read _

/-! ### The arbiter (R132) -/

theorem grantRead_upholds (t : Fin 8) : Upholds o (grantRead t s) := by
  unfold grantRead
  repeat' split
  · exact h.aside rfl
  · exact endLookup_upholds h _ _ _
  · exact h.aside rfl
  · exact endJournalRead_upholds h _ _ _ _
  · exact h

theorem grantRetry_upholds (w : RetryWork) (probeAck : Bool) : Upholds o (grantRetry w probeAck s) := by
  unfold grantRetry
  repeat' split
  · exact h.aside rfl
  · exact endRetry_upholds h _ _ _
  · exact endRetry_upholds h _ _ _

theorem grantInit_upholds (i : InitWork) (reads : SMap ReadGot) : Upholds o (grantInit i reads s) := by
  have released : Upholds o (releaseOldest s).2 := (requestLaw_upholds o).judges (releaseOldest_judges s) h
  unfold grantInit grantInitAt
  dsimp only
  repeat' split
  · exact h.aside rfl
  · exact abandonInit_upholds h _ _
  · exact released.aside rfl
  · exact abandonInit_upholds h _ _
  · exact h.aside rfl

theorem grant_upholds (probeAck : Bool) (reads : SMap ReadGot) : Upholds o (grant probeAck reads s) := by
  have behind : Upholds o (grantBehind probeAck reads s) := by
    unfold grantBehind
    repeat' split
    · exact grantRetry_upholds h _ _
    · exact grantInit_upholds h _ _
    · exact h
    · exact grantRead_upholds (h.setReads _) _
    · exact h
  unfold grant
  repeat' split
  · exact h.aside rfl
  · exact behind
  · exact behind

/-! ### Every command -/

theorem exec_upholds (c : Instr) : ∃ u, exec c s = .next u ∧ Upholds o u := by
  have taken {α : Type} {k : Kind} {parse : List Byte → Option α} {own : Owner → α → Judge Answer}
      (owner : ∀ o a, (own o a).Moves) : Upholds o (takeRequest k parse own s) :=
    (requestLaw_upholds o).takeRequest owner h
  cases c with
  | status => exact ⟨_, rfl, taken moves_ownStatus⟩
  | clockRead => exact ⟨_, rfl, taken moves_ownClockRead⟩
  | clockSet => exact ⟨_, rfl, taken moves_ownClockSet⟩
  | shiftOpen => exact ⟨_, rfl, taken moves_ownShiftOpen⟩
  | shiftClose => exact ⟨_, rfl, taken moves_ownShiftClose⟩
  | shiftResume => exact ⟨_, rfl, taken moves_ownShiftResume⟩
  | shiftRead => exact ⟨_, rfl, taken moves_ownShiftRead⟩
  | terminalSet => exact ⟨_, rfl, taken moves_ownTerminalSet⟩
  | quote => exact ⟨_, rfl, taken moves_ownQuote⟩
  | confirm => exact ⟨_, rfl, taken moves_ownConfirm⟩
  | cancel => exact ⟨_, rfl, taken moves_ownCancel⟩
  | reissue => exact ⟨_, rfl, taken moves_ownReissue⟩
  | reverse => exact ⟨_, rfl, taken moves_ownReverse⟩
  | accountCreate => exact ⟨_, rfl, taken moves_ownCreate⟩
  | accountEdit => exact ⟨_, rfl, taken moves_ownEdit⟩
  | accountRead => exact ⟨_, rfl, taken moves_ownAccountRead⟩
  | accountClose => exact ⟨_, rfl, taken moves_ownClose⟩
  | meterReplace => exact ⟨_, rfl, taken moves_ownReplace⟩
  | accountLoad => exact ⟨_, rfl, taken moves_ownLoad⟩
  | rekey => exact ⟨_, rfl, taken moves_ownRekey⟩
  | indexRebuild => exact ⟨_, rfl, taken moves_ownRebuild⟩
  | keyLoad => exact ⟨_, rfl, taken moves_ownKeyLoad⟩
  | keyRetire => exact ⟨_, rfl, taken moves_ownKeyRetire⟩
  | keyList => exact ⟨_, rfl, taken moves_ownKeyList⟩
  | tariffLoad => exact ⟨_, rfl, taken moves_ownTariffLoad⟩
  | tariffRead => exact ⟨_, rfl, taken moves_ownTariffRead⟩
  | grant => exact ⟨_, rfl, taken moves_ownGrant⟩
  | reserveRead => exact ⟨_, rfl, taken moves_ownReserveRead⟩
  | journalRead => exact ⟨_, rfl, taken moves_ownJournalRead⟩
  | journalRelease => exact ⟨_, rfl, taken moves_ownJournalRelease⟩
  | journalRetry => exact ⟨_, rfl, taken moves_ownJournalRetry⟩
  | integrityRead => exact ⟨_, rfl, taken moves_ownIntegrityRead⟩
  | integrityClear => exact ⟨_, rfl, taken moves_ownIntegrityClear⟩
  | settingsSet => exact ⟨_, rfl, taken moves_ownSettingsSet⟩
  | settingsRead => exact ⟨_, rfl, taken moves_ownSettingsRead⟩
  | tamperClear => exact ⟨_, rfl, taken moves_ownTamperClear⟩
  | initialise => exact ⟨_, rfl, taken moves_ownInitialise⟩
  | unknownRequest =>
    refine ⟨_, rfl, ?_⟩
    repeat' split
    · exact h
    · exact pushReply_upholds (h.setLine _) _ _ _ _ _
    · exact h
  | frameArrival | framingError | gapTimerExpiry | replySent | characterReceived _ | lineEntersSpacing
  | lineReturnsToMarking | pollAck | enclosureSwitchClosing =>
    refine ⟨_, rfl, ?_⟩
    repeat' split
    all_goals exact h.aside rfl
  | linkReset =>
    refine ⟨_, rfl, ?_⟩
    split_ifs
    · exact (((((h.setTx []).setLine _).setQueue _).setTerms _).setRetry _).setInit _
    · exact h
  | secondStep d => exact ⟨_, rfl, secondStep_upholds h d⟩
  | tariffEffective =>
    refine ⟨_, rfl, ?_⟩
    split_ifs
    · exact takeTariffEffective_upholds (h.setClock _)
    · exact h
  | saleTimerExpiry t =>
    refine ⟨_, rfl, ?_⟩
    split_ifs
    · exact releaseSale_upholds h t
    · exact h
  | idleExpiry t =>
    have suspended : Upholds o (suspendShift t s) := writeTerm_upholds h t _
    have released : Upholds o (releaseQuoted t (suspendShift t s)) := by
      unfold releaseQuoted
      split_ifs
      · exact releaseSale_upholds suspended t
      · exact suspended
    refine ⟨_, rfl, ?_⟩
    split_ifs
    · exact released.setTerms _
    · exact h
  | scrubEvent =>
    refine ⟨_, rfl, ?_⟩
    split_ifs
    · exact (touchItem_upholds (scrubWord_upholds h) .settings).setScrub _
    · exact h
  | arbiterGrant probeAck reads =>
    refine ⟨_, rfl, ?_⟩
    split_ifs
    · exact grant_upholds h probeAck reads
    · exact h
  | busNak left =>
    refine ⟨_, rfl, ?_⟩
    dsimp only
    repeat' split
    · exact faultWrite_upholds (leavePage_upholds h _ _ _) _ _
    · exact (leavePage_upholds h _ _ _).aside rfl
    · exact h
    · exact h
  | writeStop left =>
    refine ⟨_, rfl, ?_⟩
    repeat' split
    · exact (leavePage_upholds h _ _ _).aside rfl
    · exact h
    · exact h
  | pollLimitExpiry =>
    refine ⟨_, rfl, ?_⟩
    repeat' split
    · exact faultWrite_upholds h _ _
    · exact h
    · exact h
  | readBackEnd got =>
    refine ⟨_, rfl, ?_⟩
    repeat' split
    · exact writeDone_upholds h _
    · exact faultWrite_upholds h _ _
    · exact h
    · exact h
  | retryVoidEnd got =>
    refine ⟨_, rfl, ?_⟩
    repeat' split
    · exact endRetry_upholds (closeMark_upholds h) _ _ _
    · exact endRetry_upholds h _ _ _
    · exact h
    · exact h
  | journalLookupEnd got =>
    refine ⟨_, rfl, ?_⟩
    repeat' split
    · exact endLookup_upholds (h.setBus none) _ _ _
    · exact h
    · exact h
    · exact h
  | journalReadEnd got =>
    refine ⟨_, rfl, ?_⟩
    repeat' split
    · exact endJournalRead_upholds (h.setBus none) _ _ _ _
    · exact h
    · exact h
    · exact h
  | supplyReset r => exact ⟨_, rfl, supplyReset_upholds h r⟩
  | startUpVoidEnd got =>
    refine ⟨_, rfl, ?_⟩
    repeat' split
    · exact endStartUp_upholds h
    · exact h
    · exact beginScan_upholds (closeMark_upholds h) _
    · exact endStartUp_upholds h
    · exact h
    · exact h
    · exact h
  | rollForwardRead got =>
    refine ⟨_, rfl, ?_⟩
    repeat' split
    · exact lastRecordRead_upholds h _ _
    · exact h
    · exact headRead_upholds h _ _ _
    · exact h
    · exact h
  | memoryLossInit reads =>
    refine ⟨_, rfl, ?_⟩
    repeat' split
    · exact journalSpent_upholds h
    · exact memoryLossAt_upholds _
    · exact h
  | tamperSwitchOpening r =>
    refine ⟨_, rfl, ?_⟩
    dsimp only
    repeat' split
    · exact h
    · exact supplyReset_upholds (h.aside (by rfl)) r
    · exact h.aside rfl
  | supplyLoss left =>
    refine ⟨_, rfl, ?_⟩
    split_ifs
    · exact (cutWrite_upholds h left).aside rfl
    · exact h

end

/-- A step upholds both laws: the tick of an empty queue, and every command. -/
theorem step_upholds {s t : State} (next : step s = .next t) : Upholds s t := by
  unfold step at next
  cases queue : s.pending with
  | nil =>
    rw [queue] at next
    cases next
    exact tick_upholds (.refl s)
  | cons c rest =>
    rw [queue] at next
    have taken : Upholds s (s.setPending rest) := (Upholds.refl s).aside rfl
    obtain ⟨u, run, upheld⟩ := exec_upholds taken c
    cases run.symm.trans next
    exact upheld

/-- Settles O5: the list is written by an entry, a removal, a clearing or a cut alone. -/
theorem stepKeepsDamageListLaw : Obligations.StepKeepsDamageListLaw :=
  fun _ _ law next => (step_upholds next).damage law

/-- Settles O11: an address is taken with the departure from IN_SERVICE, and whatever returns there judges it. -/
theorem stepKeepsFaultOutOfService : Obligations.StepKeepsFaultOutOfService :=
  fun _ _ law next => (step_upholds next).fault law

end Sys2Proof.Machine
end

section
/-!
SUPPORT. The requests that read whatever the service state: STATUS, CLOCK_READ, SETTINGS_READ and INTEGRITY_READ (R154,
R160, R176, R177), with no word of account memory disturbed.
-/
namespace Sys2Proof.Machine

/-! ### The owners -/

section
variable {u : State}

theorem ownStatus_of_sound (hu : u.mem.ecc = []) (o : Owner) :
    (ownStatus o ()).run u = .ok (.now (.status (statusReply o.terminal u))) u := by
  unfold ownStatus
  rw [then_words hu, then_get, judge_pure]

theorem ownClockRead_run (o : Owner) : (ownClockRead o ()).run u = .ok (.now (.clock (clockReply u))) u := by
  unfold ownClockRead
  rw [then_get, judge_pure]

theorem ownSettingsRead_of_sound (hu : u.mem.ecc = []) (o : Owner) : (ownSettingsRead o ()).run u =
    .ok (.now (.settings u.mem.sys.settings u.mem.sys.settingsApplied (settingsQueued u))) u := by
  unfold ownSettingsRead
  rw [then_item hu, then_get, judge_pure]

theorem ownIntegrityRead_of_sound (hu : u.mem.ecc = []) (o : Owner) :
    (ownIntegrityRead o ()).run u = .ok (.now (.integrity (integrityReply u))) u := by
  unfold ownIntegrityRead
  rw [then_modify]
  simp only [touchItem_of_sound hu, readWords_of_sound hu]
  rw [then_get, judge_pure]

end

/-! ### The replies, in the terms of the state they were asked of -/

/-- The replies owed by lookups are counted by the lookups alone (R173). -/
theorem owingLookups_eq (s : State) : (s.terms.toList.filter (fun w => w.lookup.any Lookup.owes)).length =
    (allTerminals.map (fun u => (s.term u).lookup)).countP (fun l => l.any Lookup.owes) := by
  have each : allTerminals.map (fun u => (s.term u).lookup) = s.terms.toList.map (·.lookup) := rfl
  rw [each, List.countP_map, List.countP_eq_length_filter]
  rfl

section
variable {s : State} (hs : s.mem.ecc = []) (t : Fin 8)
include hs

theorem handed_repliesOwed : repliesOwed (handed t s) = repliesOwed s := by
  simp only [repliesOwed, owingLookups_eq, handed_lookup hs, handed_queue hs, handed_retry hs, handed_init hs]

theorem handed_speed : (handed t s).line.speed = s.line.speed := by
  obtain ⟨i, e⟩ := handed_eq hs t
  rw [e]
  rfl

/-- The hand-over reaches none of a STATUS's figures. -/
theorem statusReply_handed : statusReply t (handed t s) = statusReply t s := by
  obtain ⟨-, -, -, -, -, -, -, -, journal, count, role⟩ := handed_facts hs t
  simp only [statusReply, freeReplies, handed_mode hs, handed_sysFault hs, handed_secure hs, handed_speed hs,
    handed_clock hs, journal, handed_copy hs, count, handed_queue hs, handed_mem hs, handed_tx hs,
    handed_repliesOwed hs, role, handed_sale hs]

theorem clockReply_handed : clockReply (handed t s) = clockReply s := by
  simp only [clockReply, clockQueued, State.month, handed_clock hs, handed_queue hs]

omit hs in
theorem lastErrorSlot_eq (l : ErrorLog) :
    lastErrorSlot l = l.last.bind (fun e => if e.addr < 131072 then some (e.addr / 8) else none) := by
  unfold lastErrorSlot
  cases l.last <;> rfl

/-- With no word disturbed, INTEGRITY_READ reports both items, and the hand-over reaches nothing it reports. -/
theorem integrityReply_handed : integrityReply (handed t s) =
    { log := some s.mem.sys.errorLog
      lastErrorSlot := lastErrorSlot s.mem.sys.errorLog
      damage := some s.mem.sys.damage
      indexDamaged := s.mem.index.damaged
      indexCount := s.mem.index.count
      sysFault := s.sysFault
      scrubPos := s.scrub.pos
      scrubInterval := s.mem.sys.settings.scrubInterval } := by
  have whole := handed_sound hs t
  simp [integrityReply, itemBad_of_sound whole, settingsView_of_sound whole, handed_mem hs, handed_sysFault hs,
    handed_scrub hs]

end

section
variable {t : Fin 8} {tag : Tag} {s : State}

/-- STATUS is answered whatever the sender's role and shift (R104, R106, R176). -/
theorem exec_status (hs : Sound s) (presents : Presents .status t tag [] s) :
    exec .status s = .next (answered .status t tag .ok (.status (statusReply t s)) (handed t s)) := by
  have whole := handed_sound hs t
  have taken := takeRequest_of_presents (parse := parseNothing) (own := ownStatus) hs presents rfl (.inl rfl) rfl
  rw [ownStatus_of_sound whole, statusReply_handed hs] at taken
  exact congrArg _ (taken.trans (pushReply_answered whole ..))

theorem exec_clockRead (asks : Asks .clockRead t tag [] s) :
    exec .clockRead s = .next (answered .clockRead t tag .ok (.clock (clockReply s)) (handed t s)) := by
  have owner := ownClockRead_run (u := handed t s) { terminal := t, tag := tag }
  rw [clockReply_handed asks.sound] at owner
  exact congrArg _ (exec_answers (parse := parseNothing) asks rfl owner)

theorem exec_settingsRead (asks : Asks .settingsRead t tag [] s) :
    exec .settingsRead s = .next (answered .settingsRead t tag .ok
      (.settings s.mem.sys.settings s.mem.sys.settingsApplied (settingsQueued s)) (handed t s)) := by
  have owner := ownSettingsRead_of_sound (handed_sound asks.sound t) { terminal := t, tag := tag }
  rw [settingsQueued, handed_queue asks.sound, handed_mem asks.sound] at owner
  exact congrArg _ (exec_answers (parse := parseNothing) asks rfl owner)

theorem exec_integrityRead (asks : Asks .integrityRead t tag [] s) :
    exec .integrityRead s = .next (answered .integrityRead t tag .ok
      (.integrity (integrityReply (handed t s))) (handed t s)) :=
  congrArg _ (exec_answers (parse := parseNothing) asks rfl
    (ownIntegrityRead_of_sound (handed_sound asks.sound t) { terminal := t, tag := tag }))

end

theorem access_clockRead (r : Role) : access .clockRead r = if r = .disabled then .no else .yes := by
  cases r <;> rfl

/-- Settles O21: each owner answers at once with its own figures, which the hand-over leaves. -/
theorem readsInEveryServiceState : Obligations.ReadsInEveryServiceState := by
  intro t tag s
  refine ⟨exec_status, exec_clockRead, rfl, fun r => ?_, exec_settingsRead, fun asks => ?_⟩
  · rw [allowed_iff, access_clockRead]
    split <;> simp_all
  · rw [exec_integrityRead asks, integrityReply_handed asks.sound, lastErrorSlot_eq]

end Sys2Proof.Machine
end

section
/-!
SUPPORT. The second step (R156, R159, R164), what has become of a word (R143), and the months as a partition of the
readings (R157).
-/
namespace Sys2Proof.Machine

/-! ### The second step (R156, R159, R164) -/

section
variable {s : State} (d : Disturbance)

theorem exec_secondStep_of_dark (dark : s.powered = false) :
    exec (.secondStep d) s = .next (disturb d (s.setClock (stepClock s.powered s.clock))) :=
  congrArg Host.Outcome.next (if_neg (ne_true_of_eq_false dark))

theorem exec_secondStep_of_powered (powered : s.powered = true) :
    exec (.secondStep d) s = .next (countTick (disturb d (s.setClock (stepClock s.powered s.clock)))) :=
  congrArg Host.Outcome.next (if_pos powered)

end

/-! ### What has become of a word (R143; log 13) -/

section
variable {m : SMap Disturb} {a : Nat} {w : BitVec 72}

theorem find_disturbWord_of_ne {b : Nat} (other : b ≠ a) : SMap.find b (disturbWord m (a, w)) = SMap.find b m := by
  unfold disturbWord
  dsimp only
  split_ifs
  · rfl
  · exact SMap.find_put_of_ne other _ m

/-- The bits brought for a word that no read has found uncorrectable are in error beside those that were. -/
theorem find_disturbWord_of_unfound (some_ : w ≠ 0#72) {old : Disturb}
    (was : (SMap.find a m).getD { wrong := 0, found := false } = old) (unfound : old.found = false) :
    SMap.find a (disturbWord m (a, w)) = some { old with wrong := old.wrong ||| w } := by
  have nonzero : old.wrong ||| w ≠ 0#72 := fun zero => some_ (BitVec.or_eq_zero_iff.mp zero).2
  unfold disturbWord
  dsimp only
  rw [was, if_neg (by simp [nonzero, unfound]), SMap.find_put_self]

theorem bad_iff {d : Disturb} : d.bad = true ↔ wordOutcome d.syndrome = .uncorrectable := by simp [Disturb.bad]

/-- A word found uncorrectable stays so. -/
theorem find_disturbWord_of_found {d : Disturb} (was : SMap.find a m = some d) (found : d.found = true)
    (bad : wordOutcome d.syndrome = .uncorrectable) :
    ∃ e, SMap.find a (disturbWord m (a, w)) = some e ∧ e.found = true ∧ wordOutcome e.syndrome = .uncorrectable := by
  have stays := disturbWord_bad (a := a) (m := m) (by simp [was, found, bad_iff.mpr bad]) (a, w)
  rw [Option.any_eq_true] at stays
  obtain ⟨e, now, both⟩ := stays
  rw [Bool.and_eq_true, bad_iff] at both
  exact ⟨e, now, both⟩

end

/-! ### The months (R157) -/

/-- The year of a day: the day lies between the first days of that year and of the next. -/
theorem daysBefore_yearOfDay (d : Nat) : daysBefore (yearOfDay d) ≤ d ∧ d < daysBefore (yearOfDay d + 1) := by
  unfold daysBefore yearOfDay
  split <;> omega

/-- A year is as long as its months. -/
theorem daysBefore_succ (y : Nat) : daysBefore (y + 1) = daysBefore y + (monthLengths y).sum := by
  have leap : (monthLengths y).sum = if y % 4 = 0 then 366 else 365 := by
    unfold monthLengths
    split <;> rfl
  rw [leap]
  unfold daysBefore
  split <;> omega

theorem sum_take_findMonth_le (l : List Nat) (d : Nat) : (l.take (findMonth l d).1).sum ≤ d := by
  induction l generalizing d with
  | nil => simp [findMonth]
  | cons m l ih =>
    cases l with
    | nil => simp [findMonth]
    | cons n l =>
      unfold findMonth
      split
      · simp
      · have rest := ih (d - m)
        simp only [List.take_succ_cons, List.sum_cons]
        omega

theorem lt_sum_take_findMonth {l : List Nat} {d : Nat} (within : d < l.sum) :
    d < (l.take ((findMonth l d).1 + 1)).sum := by
  induction l generalizing d with
  | nil => simp at within
  | cons m l ih =>
    cases l with
    | nil => simpa [findMonth] using within
    | cons n l =>
      unfold findMonth
      split
      · simpa
      · rw [List.sum_cons] at within
        have rest := ih (d := d - m) (by omega)
        simp only [List.take_succ_cons, List.sum_cons] at rest ⊢
        omega

/-- The first reading of a month of a year; the thirteenth is the next year's first. -/
theorem firstOfMonth_of_year (y : Nat) {k : Nat} (month : k ≤ 12) :
    firstOfMonth (12 * y + k) = (daysBefore y + ((monthLengths y).take k).sum) * 86400 := by
  unfold firstOfMonth
  rcases Nat.lt_or_eq_of_le month with within | rfl
  · rw [show (12 * y + k) / 12 = y by omega, show (12 * y + k) % 12 = k by omega]
  · rw [show (12 * y + 12) / 12 = y + 1 by omega, show (12 * y + 12) % 12 = 0 by omega, daysBefore_succ]
    rfl

/-- A reading lies between the first second of its month and that of the next. -/
theorem firstOfMonth_monthOf (r : Nat) : firstOfMonth (monthOf r) ≤ r ∧ r < firstOfMonth (monthOf r + 1) := by
  obtain ⟨year, next⟩ := daysBefore_yearOfDay (r / 86400)
  rw [daysBefore_succ] at next
  have month := findMonth_fst_lt (l := monthLengths (yearOfDay (r / 86400))) (List.cons_ne_nil _ _)
    (r / 86400 - daysBefore (yearOfDay (r / 86400)))
  have first := sum_take_findMonth_le (monthLengths (yearOfDay (r / 86400)))
    (r / 86400 - daysBefore (yearOfDay (r / 86400)))
  have last := lt_sum_take_findMonth (l := monthLengths (yearOfDay (r / 86400)))
    (d := r / 86400 - daysBefore (yearOfDay (r / 86400))) (by omega)
  have twelve : (monthLengths (yearOfDay (r / 86400))).length = 12 := rfl
  rw [twelve] at month
  unfold monthOf
  dsimp only
  rw [Nat.add_assoc, firstOfMonth_of_year _ month.le,
    firstOfMonth_of_year _ (Nat.add_one_le_iff.mpr month)]
  omega

theorem firstOfMonth_strictMono : StrictMono firstOfMonth := strictMono_nat_of_lt_succ fun m => by
  have next := (firstOfMonth_monthOf (firstOfMonth m)).2
  rwa [monthOf_firstOfMonth] at next

theorem monthOf_mono : Monotone monthOf := by
  intro q r later
  have begins := (firstOfMonth_monthOf q).1
  have ends := (firstOfMonth_monthOf r).2
  exact Nat.lt_add_one_iff.mp (firstOfMonth_strictMono.lt_iff_lt.mp (by omega))

theorem firstOfMonth_mod (m : Nat) : firstOfMonth m % 86400 = 0 := Nat.mul_mod_left _ _

/-- Settles O36: the step by the supply, a word by what a read has found of it, the months by their first seconds. -/
theorem secondStepAdvancesReading : Obligations.SecondStepAdvancesReading := by
  refine ⟨fun s d => ⟨fun dark => ?_, fun powered => ?_⟩, fun s a w some_ => ⟨rfl, fun b other =>
      find_disturbWord_of_ne other, fun clean => ?_, fun d was => ⟨fun unfound => ?_, find_disturbWord_of_found was⟩⟩,
    fun m _ => ⟨monthOf_firstOfMonth m, firstOfMonth_mod m⟩, fun r range => ?_, fun q r later _ => monthOf_mono later⟩
  · exact exec_secondStep_of_dark d dark
  · exact exec_secondStep_of_powered d powered
  · have now := find_disturbWord_of_unfound (a := a) some_ (by rw [clean, Option.getD_none]) rfl
    exact now.trans (by simp)
  · exact find_disturbWord_of_unfound some_ (by rw [was, Option.getD_some]) unfound
  · obtain ⟨first, next⟩ := firstOfMonth_monthOf r
    exact ⟨Nat.lt_succ_of_le (monthOf_le range), first, next⟩

end Sys2Proof.Machine
end

section
/-!
SUPPORT. The scrub event (R150): what the syndrome of a word decides (R143), and what becomes of account memory's only
disturbed word at the scrub position, by its syndrome and its region (R144 to R148).
-/
namespace Sys2Proof.Machine

/-! ### The syndrome of a word (R143) -/

/-- Of all syndromes, one alone names a bit. -/
theorem eq_bitSyndrome {z : BitVec 8} {b : Fin 72} (names : wordOutcome z = .corrected b) :
    z = bitSyndrome ⟨b.val, by omega⟩ := by
  have nonzero : z ≠ 0 := by
    rintro rfl
    rw [wordOutcome_zero] at names
    cases names
  have positive : z.toNat ≠ 0 := fun zero => nonzero (BitVec.eq_of_toNat_eq zero)
  have below : z.toNat - 1 < 255 := by omega
  have bit : (Config.syndromeOrder ⟨z.toNat - 1, below⟩).val = b.val := by
    unfold wordOutcome syndromeBit at names
    rw [if_neg nonzero, dif_pos below] at names
    split_ifs at names with within
    exact congrArg Fin.val (WordRead.corrected.inj names)
  have place : Config.syndromeOrder.symm ⟨b.val, by omega⟩ = ⟨z.toNat - 1, below⟩ :=
    (Equiv.symm_apply_eq _).mpr (Fin.ext bit.symm)
  refine BitVec.eq_of_toNat_eq ?_
  simp only [bitSyndrome, place, BitVec.toNat_ofNat]
  omega

/-- The bits in error of a word are those of any list that tells them, each once. -/
theorem wrongBits_perm {m : BitVec 72} {l : List (Fin 72)} (nodup : l.Nodup)
    (tells : ∀ x : Fin 72, m[x.val] = true ↔ x ∈ l) : (wrongBits m).Perm l :=
  (List.perm_ext_iff_of_nodup ((List.nodup_finRange 72).filter _) nodup).mpr fun x => by simp [tells]

theorem wrongBits_zero : wrongBits 0#72 = [] := (wrongBits_perm List.nodup_nil (by simp)).eq_nil

theorem wrongBits_twoPow (b : Fin 72) : wrongBits (BitVec.twoPow 72 b) = [b] :=
  List.perm_singleton.mp (wrongBits_perm (List.nodup_singleton b) fun x => by simp [Fin.ext_iff, eq_comm])

theorem wrongBits_two {b c : Fin 72} (distinct : b ≠ c) :
    ∃ x y, wrongBits (BitVec.twoPow 72 b ||| BitVec.twoPow 72 c) = [x, y] := by
  have two := wrongBits_perm (m := BitVec.twoPow 72 b ||| BitVec.twoPow 72 c) (l := [b, c]) (by simpa using distinct)
    fun x => by simp [Fin.ext_iff, @eq_comm _ x.val]
  exact List.length_eq_two.mp two.length_eq

/-! ### The read of the one disturbed word (R143 to R148) -/

section
variable {d : Disturb} (a : Nat)

theorem ErrorLog.add_of_corrected (whole : d.bad = false) (l : ErrorLog) : l.add a d =
    { l with last := some { addr := a, syndrome := d.syndrome, kind := .corrected }
             corrected := min 65535 (l.corrected + 1) } := by
  simp [ErrorLog.add, Disturb.kind, whole, satAdd]

theorem ErrorLog.add_of_uncorrectable (bad : d.bad = true) (l : ErrorLog) : l.add a d =
    { l with last := some { addr := a, syndrome := d.syndrome, kind := .uncorrectable }
             uncorrectable := min 65535 (l.uncorrectable + 1) } := by
  simp [ErrorLog.add, Disturb.kind, bad, satAdd]

theorem readWord_eq_readSysWord (system : inSystem a = true) (s : State) : readWord s (a, d) = readSysWord s (a, d) :=
  if_pos system

/-- A word whose syndrome is 0 is read clean, wherever it lies. -/
theorem readSysWord_of_clean (clean : d.syndrome = 0) (s : State) : readSysWord s (a, d) = s := by
  simp only [readSysWord, clean, wordOutcome_zero, ite_self]

theorem readWord_of_clean (clean : d.syndrome = 0) (s : State) : readWord s (a, d) = s := by
  simp only [readWord, readSysWord_of_clean a clean, clean, wordOutcome_zero, ite_self]

end

/-- The log is written when none of the disturbed words is its own. -/
theorem logError_of_outside {s : State} (outside : ∀ x ∈ s.mem.ecc, itemWord .errorLog x.1 = false) (a : Nat)
    (d : Disturb) : logError a d s = s.setSys { s.mem.sys with errorLog := s.mem.sys.errorLog.add a d } := by
  have own : s.mem.ecc.filter (fun x => itemWord .errorLog x.1 && x.2.single) = [] :=
    List.filter_eq_nil_iff.mpr fun x hx => by simp [outside x hx]
  unfold logError
  rw [firstBad_of_outside outside, own, freshWords_of_outside outside]
  rfl

theorem sysBad_sysBad (a : Nat) (s : State) : sysBad a (sysBad a s) = sysBad a s := by
  have fault : (s.sysFault.or (some a)).or (some a) = s.sysFault.or (some a) := by simp
  show ((sysBad a s).setSysFault ((s.sysFault.or (some a)).or (some a))).setMode
    (if (sysBad a s).mode = .inService then .outOfService else (sysBad a s).mode) = sysBad a s
  rw [fault, if_neg (sysBad_mode_ne a s)]
  rfl

/-- A module that is not STARTING goes OUT_OF_SERVICE (R148). -/
theorem sysBad_of_serving {s : State} (serving : starting s = false) (a : Nat) :
    sysBad a s = (s.setSysFault (s.sysFault.or (some a))).setMode .outOfService := by
  have mode : (if s.mode = .inService then ModuleMode.outOfService else s.mode) = .outOfService := by
    unfold starting at serving
    cases mode : s.mode with
    | starting p => simp [mode] at serving
    | inService => rfl
    | outOfService => rfl
  exact congrArg _ mode

/-- Account memory after the read of an uncorrectable word of the system area: the word found, and logged but where it
is the log's own (R144, R148). -/
def AccountMemory.faulted (a : Nat) (d : Disturb) (m : AccountMemory) : AccountMemory :=
  { m with
    ecc := foundAll m.ecc
    sys := { m.sys with
      errorLog := if Config.itemOfWord a = some .errorLog then m.sys.errorLog else m.sys.errorLog.add a d } }

/-- The state that such a read leaves: the word becomes the system fault address when none is held (R148). -/
def sysFaulted (a : Nat) (d : Disturb) (s : State) : State := sysBad a (s.setMem (s.mem.faulted a d))

theorem sysFaulted_of_serving {s : State} (serving : starting s = false) (a : Nat) (d : Disturb) :
    sysFaulted a d s =
      { s with mode := .outOfService, sysFault := s.sysFault.or (some a), mem := s.mem.faulted a d } :=
  sysBad_of_serving (s := s.setMem (s.mem.faulted a d)) serving a

/-- A word met twice is taken once. -/
theorem sysFaulted_twice {s : State} (serving : starting s = false) (a : Nat) (d e : Disturb) :
    let u := sysFaulted a e (sysFaulted a d s)
    u.mode = .outOfService ∧ u.sysFault = s.sysFault.or (some a) ∧ u.mem.ecc = foundAll s.mem.ecc ∧
      u.mem.sys.settings = s.mem.sys.settings := by
  have out : starting (sysFaulted a d s) = false := by
    rw [sysFaulted_of_serving serving]
    rfl
  dsimp only
  rw [sysFaulted_of_serving out, sysFaulted_of_serving serving]
  exact ⟨rfl, by simp, by simp [AccountMemory.faulted, foundAll], rfl⟩

section
variable {s : State} {a : Nat} {d : Disturb} (sole : s.mem.ecc = [(a, d)])
include sole

theorem systemWhole_of_sole (outside : inSystem a = false) : SystemWhole s := by
  simp [SystemWhole, sole, outside]

theorem readWords_of_sole (p : Nat → Bool) : readWords p s = if p a then readWord s (a, d) else s := by
  unfold readWords
  rw [sole, List.filter_singleton]
  cases p a <;> rfl

theorem touchItem_of_sole (i : SysItem) : touchItem i s = if itemWord i a then
    (let u := readSysWord s (a, d)
     if d.bad then u.setDraws (u.draws + 1) else u) else s := by
  unfold touchItem itemBad hasBad
  simp only [sole, List.filter_singleton, List.any_cons, List.any_nil, Bool.or_false]
  cases itemWord i a
  · rfl
  · simp

theorem itemBad_of_sole (i : SysItem) : itemBad i s = (itemWord i a && d.bad) := by simp [itemBad, hasBad, sole]

theorem stillWrong_of_sole : stillWrong (a, d) s = true := by simp [stillWrong, sole, SMap.find]

theorem foundAll_of_sole : foundAll s.mem.ecc = [(a, { d with found := true })] := by simp [foundAll, sole]

/-- A single error is corrected, written back and logged, wherever the word lies (R143, R144). -/
theorem readWord_of_corrected {b : Fin 72} (single : wordOutcome d.syndrome = .corrected b) : readWord s (a, d) =
    s.setMem { s.mem with ecc := [], sys := { s.mem.sys with errorLog := s.mem.sys.errorLog.add a d } } := by
  have fresh : freshWords (· == a) s = s.setEcc [] := by simp [freshWords, sole, SMap.keep]
  have logged := logError_of_outside (s := s.setEcc []) (by simp) a d
  unfold readWord readSysWord
  simp only [stillWrong_of_sole sole, if_true, single, fresh, logged, ite_self]
  rfl

section
variable (bad : wordOutcome d.syndrome = .uncorrectable)
include bad

theorem foundWords_of_sole : foundWords (· == a) s = s.setEcc (foundAll s.mem.ecc) := by
  simp [foundWords, SMap.adjust, foundAll, sole, bad_iff.mpr bad]

/-- An uncorrectable word of a slot is logged, and its slot enters the damage list (R145). -/
theorem readWord_of_account (account : a < 131072) :
    readWord s (a, d) = withheld (a / 8) (s.mem.sys.errorLog.add a d) s := by
  have read := readSlot_of_uncorrectable sole account rfl bad
  unfold readSlot at read
  rwa [readWords_of_sole sole, if_pos (by simp [slotWord, account])] at read

/-- An uncorrectable word of the index region is logged and sets the indication, the header written whole (R147). -/
theorem readWord_of_index (index : inIndex a = true) : readWord s (a, d) =
    s.setMem { s.mem with
      ecc := if headerWord a then [] else foundAll s.mem.ecc
      index := { s.mem.index with damaged := true, count := if headerWord a then 0 else s.mem.index.count }
      sys := { s.mem.sys with errorLog := s.mem.sys.errorLog.add a d } } := by
  have notSystem : inSystem a = false := by
    simp only [inIndex, Bool.and_eq_true, decide_eq_true_eq] at index
    simp [inSystem]
    omega
  have outside : ∀ x ∈ (s.setEcc (foundAll s.mem.ecc)).mem.ecc, itemWord .errorLog x.1 = false := by
    simp [foundAll, sole, itemWord, notSystem]
  unfold readWord
  simp only [notSystem, Bool.false_eq_true, if_false, stillWrong_of_sole sole, if_true, bad, index,
    foundWords_of_sole sole bad, logError_of_outside outside]
  cases header : headerWord a
  · simp [markIndexDamaged, freshWords, SMap.keep, hasBad, foundAll, sole, header]
    rfl
  · simp [markIndexDamaged, freshWords, SMap.keep, foundAll, sole, header]
    rfl

/-- The write of the log reads its own item: an uncorrectable word there leaves it unmade (R148). -/
theorem logError_of_own (own : itemWord .errorLog a = true) (e : Disturb) :
    logError a e s = sysBad a (s.setEcc (foundAll s.mem.ecc)) := by
  have isBad := bad_iff.mpr bad
  have meets : firstBad (itemWord .errorLog) s = some a := by simp [firstBad, sole, own, isBad]
  have unmended : mendWords (itemWord .errorLog) s = s := by
    have kept : SMap.keep (fun a (d : Disturb) => !(itemWord .errorLog a && d.single)) s.mem.ecc = s.mem.ecc := by
      simp [SMap.keep, sole, Disturb.single, isBad]
    unfold mendWords
    rw [kept]
    rfl
  have found : foundWords (itemWord .errorLog) s = s.setEcc (foundAll s.mem.ecc) := by
    simp [foundWords, SMap.adjust, foundAll, sole, own, isBad]
  unfold logError
  rw [meets, unmended, found]

/-- An uncorrectable word of the system area takes the module out of service (R148). -/
theorem readSysWord_of_uncorrectable (system : inSystem a = true) : readSysWord s (a, d) = sysFaulted a d s := by
  have found : (sysBad a (s.setEcc (foundAll s.mem.ecc))).mem.ecc = [(a, { d with found := true })] :=
    foundAll_of_sole sole
  unfold readSysWord sysFaulted AccountMemory.faulted
  simp only [stillWrong_of_sole sole, if_true, bad, foundWords_of_sole sole bad]
  by_cases own : Config.itemOfWord a = some .errorLog
  · rw [if_pos own, logError_of_own found bad (by simp [itemWord, system, own])]
    have again : foundAll (foundAll s.mem.ecc) = foundAll s.mem.ecc := by simp [foundAll]
    show sysBad a ((sysBad a (s.setEcc (foundAll s.mem.ecc))).setEcc (foundAll (foundAll s.mem.ecc))) = _
    rw [again]
    exact sysBad_sysBad a (s.setEcc (foundAll s.mem.ecc))
  · have outside : ∀ x ∈ (sysBad a (s.setEcc (foundAll s.mem.ecc))).mem.ecc, itemWord .errorLog x.1 = false := by
      simp [found, itemWord, own]
    rw [if_neg own, logError_of_outside outside]
    rfl

/-- An item that holds the word is read after it: the word is met once more (R148). -/
theorem touchItem_sysFaulted (system : inSystem a = true) (i : SysItem) : touchItem i (sysFaulted a d s) =
    if itemWord i a then (sysFaulted a { d with found := true } (sysFaulted a d s)).setDraws (s.draws + 1)
    else sysFaulted a d s := by
  have found : (sysFaulted a d s).mem.ecc = [(a, { d with found := true })] := foundAll_of_sole sole
  have still : wordOutcome ({ d with found := true } : Disturb).syndrome = .uncorrectable := bad
  rw [touchItem_of_sole found, readSysWord_of_uncorrectable found still system]
  simp only [bad_iff.mpr still, if_true]
  rfl

end

end

/-! ### The scrub event (R150) -/

/-- The scrubber after an event at an interval: the next position, and the timer started again. -/
def scrubOn (interval pos : Nat) : Scrubber :=
  { pos := if pos = 262143 then 0 else pos + 1, timer := if interval = 0 then none else some interval }

/-- The settings are read without an error. -/
def SettingsRead (s : State) : Prop := touchItem .settings s = s ∧ itemBad .settings s = false

theorem settingsRead_of_systemWhole {s : State} (whole : SystemWhole s) : SettingsRead s :=
  ⟨touchItem_of_systemWhole whole _, itemBad_of_systemWhole whole _⟩

theorem systemWhole_of_sound {s : State} (hs : s.mem.ecc = []) : SystemWhole s := by simp [SystemWhole, hs]

theorem settingsRead_of_clean {s : State} {a : Nat} {d : Disturb} (sole : s.mem.ecc = [(a, d)])
    (clean : d.syndrome = 0) : SettingsRead s := by
  have readable : d.bad = false := by rw [Disturb.bad, clean, wordOutcome_zero]; rfl
  constructor
  · simp [touchItem_of_sole sole, readSysWord_of_clean a clean, readable]
  · simp [itemBad_of_sole sole, readable]

section
variable {s : State} (powered : s.powered = true) (serving : starting s = false) (due : s.scrub.timer = some 0)
  (bound : s.scrub.pos < 262144)
include powered serving due bound

theorem exec_scrubEvent : exec .scrubEvent s = .next
    ((touchItem .settings (scrubWord s)).setScrub
      (scrubOn (settingsView (touchItem .settings (scrubWord s))).scrubInterval s.scrub.pos)) := by
  have next : nextScrub s.scrub.pos = if s.scrub.pos = 262143 then 0 else s.scrub.pos + 1 := by
    unfold nextScrub
    split_ifs <;> omega
  show execScrubEvent s = _
  simp [execScrubEvent, powered, serving, due, next, scrubOn, scrubTimer]

/-- The event is the read of the word and the step of the scrubber, where the settings read without an error. -/
theorem exec_scrubEvent_of_word {u : State} (word : scrubWord s = u) (settings : SettingsRead u)
    (same : u.mem.sys.settings = s.mem.sys.settings) :
    exec .scrubEvent s = .next (u.setScrub (scrubOn s.mem.sys.settings.scrubInterval s.scrub.pos)) := by
  obtain ⟨unread, readable⟩ := settings
  rw [exec_scrubEvent powered serving due bound, word, unread, settingsView, if_neg (by simp [readable]), same]

end

theorem scrubWord_of_sound {s : State} (hs : s.mem.ecc = []) : scrubWord s = s := by
  simp [scrubWord, touchItem_of_sound hs, readWords_of_sound hs]

/-- The word at the scrub position is passed over (R150 step 1). -/
def ScrubPassed (s : State) : Prop :=
  s.scrub.pos < 131072 ∧ (busy (s.scrub.pos / 8) s = true ∨ s.scrub.pos / 8 ∈ s.mem.sys.damage.slots)

section
variable {s : State} {d : Disturb} (sole : s.mem.ecc = [(s.scrub.pos, d)])
include sole

/-- The damage list is read before the word of a slot, and is whole when the slot's word is the disturbed one. -/
theorem scrubWord_eq : scrubWord s = if scrubPasses s.scrub.pos s then s else readWord s (s.scrub.pos, d) := by
  have here : readWords (· == s.scrub.pos) s = readWord s (s.scrub.pos, d) := by simp [readWords_of_sole sole]
  unfold scrubWord
  by_cases account : s.scrub.pos < 131072
  · have whole : SystemWhole s := systemWhole_of_sole sole (by simp [inSystem]; omega)
    simp only [account, if_true, touchItem_of_systemWhole whole, here]
  · simp only [account, if_false, here]

theorem scrubPasses_iff : scrubPasses s.scrub.pos s = true ↔ ScrubPassed s := by
  by_cases account : s.scrub.pos < 131072
  · have whole : SystemWhole s := systemWhole_of_sole sole (by simp [inSystem]; omega)
    simp [scrubPasses, ScrubPassed, damageView_of_systemWhole whole]
  · simp [scrubPasses, ScrubPassed, account]

theorem scrubWord_of_passed (passed : ScrubPassed s) : scrubWord s = s := by
  rw [scrubWord_eq sole, if_pos ((scrubPasses_iff sole).mpr passed)]

theorem scrubWord_of_clean (clean : d.syndrome = 0) : scrubWord s = s := by
  rw [scrubWord_eq sole, readWord_of_clean _ clean, ite_self]

theorem scrubWord_of_read (read : ¬ ScrubPassed s) : scrubWord s = readWord s (s.scrub.pos, d) := by
  rw [scrubWord_eq sole, if_neg (mt (scrubPasses_iff sole).mp read)]

end

section
variable {s : State} {d : Disturb} (sole : s.mem.ecc = [(s.scrub.pos, d)])
  (bad : wordOutcome d.syndrome = .uncorrectable) (system : inSystem s.scrub.pos = true)
include sole bad system

theorem scrubWord_of_system : scrubWord s = sysFaulted s.scrub.pos d s := by
  have read : ¬ ScrubPassed s := by
    rintro ⟨account, -⟩
    simp [inSystem] at system
    omega
  rw [scrubWord_of_read sole read, readWord_eq_readSysWord _ system, readSysWord_of_uncorrectable sole bad system]

variable (powered : s.powered = true) (serving : starting s = false) (due : s.scrub.timer = some 0)
  (bound : s.scrub.pos < 262144)
include powered serving due bound

/-- The settings' own word is met twice, and leaves the interval free (log 11). -/
theorem scrubEvent_of_settingsWord (own : Config.itemOfWord s.scrub.pos = some .settings) :
    ∃ t, exec .scrubEvent s = .next t ∧ t.mode = .outOfService ∧ t.sysFault = s.sysFault.or (some s.scrub.pos) ∧
      t.scrub.pos = (if s.scrub.pos = 262143 then 0 else s.scrub.pos + 1) ∧ t.mem.ecc = foundAll s.mem.ecc ∧
      t.mem.sys.settings = s.mem.sys.settings := by
  refine ⟨_, exec_scrubEvent powered serving due bound, ?_⟩
  rw [scrubWord_of_system sole bad system, touchItem_sysFaulted sole bad system,
    if_pos (by simp [itemWord, system, own])]
  obtain ⟨mode, fault, ecc, settings⟩ := sysFaulted_twice serving s.scrub.pos d { d with found := true }
  exact ⟨mode, fault, rfl, ecc, settings⟩

theorem scrubEvent_of_systemWord (other : Config.itemOfWord s.scrub.pos ≠ some .settings) :
    exec .scrubEvent s = .next
      { s with
        scrub := scrubOn s.mem.sys.settings.scrubInterval s.scrub.pos
        mode := .outOfService
        sysFault := s.sysFault.or (some s.scrub.pos)
        mem := s.mem.faulted s.scrub.pos d } := by
  have unheld : itemWord .settings s.scrub.pos = false := by simp [itemWord, other]
  have found : (sysFaulted s.scrub.pos d s).mem.ecc = [(s.scrub.pos, { d with found := true })] :=
    foundAll_of_sole sole
  have settings : SettingsRead (sysFaulted s.scrub.pos d s) := by
    constructor
    · rw [touchItem_sysFaulted sole bad system, if_neg (by simp [unheld])]
    · rw [itemBad_of_sole found, unheld, Bool.false_and]
  rw [exec_scrubEvent_of_word powered serving due bound (scrubWord_of_system sole bad system) settings rfl,
    sysFaulted_of_serving serving]
  rfl

end

/-- Settles O39: the syndromes by their place in the order of bits, the event by syndrome and region. -/
theorem scrubEventReadsItsWord : Obligations.ScrubEventReadsItsWord := by
  refine ⟨⟨wordOutcome_zero, fun _ => wordOutcome_ne_clean, fun b => ⟨_, wordOutcome_bit b, fun _ => eq_bitSyndrome⟩,
    fun m found => ⟨?_, ?_, ?_⟩⟩, ?_⟩
  · rintro rfl
    rw [syndrome_none wrongBits_zero, wordOutcome_zero]
  · rintro b rfl
    exact wordOutcome_single (wrongBits_twoPow b)
  · rintro b c distinct rfl
    obtain ⟨x, y, two⟩ := wrongBits_two distinct
    exact wordOutcome_double two
  intro s powered serving due bound pos slot interval on
  have ends {u : State} := exec_scrubEvent_of_word (u := u) powered serving due bound
  refine ⟨fun hs => ends (scrubWord_of_sound hs) (settingsRead_of_systemWhole (systemWhole_of_sound hs)) rfl,
    fun d sole => ?_⟩
  intro log kept passed
  have found := foundAll_of_sole sole
  refine ⟨?_, fun b read single => ?_, fun read bad => ?_⟩
  · rintro (skips | clean)
    · have outside : inSystem pos = false := by simp [inSystem]; omega
      exact ends (scrubWord_of_passed sole skips) (settingsRead_of_systemWhole (systemWhole_of_sole sole outside)) rfl
    · exact ends (scrubWord_of_clean sole clean) (settingsRead_of_clean sole clean) rfl
  · have word := (scrubWord_of_read sole read).trans (readWord_of_corrected sole single)
    rw [ErrorLog.add_of_corrected _ (by simp [Disturb.bad, single])] at word
    exact ends word (settingsRead_of_systemWhole (systemWhole_of_sound rfl)) rfl
  have logged := ErrorLog.add_of_uncorrectable pos (bad_iff.mpr bad) s.mem.sys.errorLog
  refine ⟨fun account => ?_, fun low high => ?_, fun high => ?_⟩
  · have outside : inSystem pos = false := by simp [inSystem]; omega
    have entered : s.mem.sys.damage.enter slot = _ := if_neg fun listed => read ⟨account, .inr listed⟩
    have word := (scrubWord_of_read sole read).trans (readWord_of_account sole bad account)
    unfold withheld at word
    rw [entered, found, logged] at word
    exact ends word (settingsRead_of_systemWhole (systemWhole_of_sole rfl outside)) rfl
  · have outside : inSystem pos = false := by simp [inSystem]; omega
    have word := (scrubWord_of_read sole read).trans (readWord_of_index sole bad (by simp [inIndex]; omega))
    rw [found, logged] at word
    refine ends word (settingsRead_of_systemWhole ?_) rfl
    unfold SystemWhole
    cases header : headerWord pos <;> simp [outside]
  · have system : inSystem pos = true := by simp [inSystem]; omega
    by_cases own : Config.itemOfWord pos = some .settings
    · obtain ⟨t, run, mode, fault, next, ecc, settings⟩ :=
        scrubEvent_of_settingsWord sole bad system powered serving due bound own
      exact ⟨t, run, mode, fault, next, ecc.trans found, settings, fun other => absurd own other⟩
    · have run := scrubEvent_of_systemWord sole bad system powered serving due bound own
      unfold AccountMemory.faulted at run
      rw [found, logged] at run
      exact ⟨_, run, rfl, rfl, rfl, rfl, rfl, fun _ => rfl⟩

end Sys2Proof.Machine
end

section
/-!
SUPPORT. The commands whose event cannot occur (log 2), and the step of an empty queue (R159; log 3).
-/
namespace Sys2Proof.Machine

section
variable {s : State}

/-! ### Requests that may not be taken (R173, R179) -/

theorem mayTake_of_dark (dark : s.powered = false) : mayTake s = false := by simp [mayTake, dark]

theorem mayTake_of_starting (begun : starting s = true) : mayTake s = false := by simp [mayTake, begun]

theorem mayTake_of_full (full : 16 ≤ s.tx.length + repliesOwed s) : mayTake s = false := by
  have owed : ¬ repliesOwed s + 1 ≤ freeReplies s := by
    unfold freeReplies
    omega
  simp [mayTake, owed]

section
variable {α : Type} (k : Kind) (parse : List Byte → Option α) (own : Owner → α → Judge Answer)

theorem takeRequest_of_barred (barred : mayTake s = false) : takeRequest k parse own s = s := by
  unfold takeRequest
  split
  · rfl
  · simp [barred]

theorem takeRequest_of_none (none : s.line.arrived = []) : takeRequest k parse own s = s := by simp [takeRequest, none]

theorem takeRequest_of_other {f : List Byte} {rest : List (List Byte)} (arrived : s.line.arrived = f :: rest)
    (other : frameKind f ≠ k.byte) : takeRequest k parse own s = s := by simp [takeRequest, arrived, other]

/-- A request waits while none may be taken, and while the oldest frame is not of its kind. -/
theorem takeRequest_of_idle (idle : starting s = true ∨ 16 ≤ s.tx.length + repliesOwed s ∨ s.line.arrived = [] ∨
    ∃ f rest, s.line.arrived = f :: rest ∧ frameKind f ≠ k.byte) : takeRequest k parse own s = s := by
  obtain begun | full | none | ⟨f, rest, arrived, other⟩ := idle
  · exact takeRequest_of_barred k parse own (mayTake_of_starting begun)
  · exact takeRequest_of_barred k parse own (mayTake_of_full full)
  · exact takeRequest_of_none k parse own none
  · exact takeRequest_of_other k parse own arrived other

end

/-! ### Commands without supply (R180) -/

/-- Without supply only the second step, the supply's return and the enclosure switch are events. -/
theorem exec_of_dark (dark : s.powered = false) (c : Instr) (step : ∀ d, c ≠ .secondStep d)
    (reset : ∀ r, c ≠ .supplyReset r) (opening : ∀ r, c ≠ .tamperSwitchOpening r)
    (closing : c ≠ .enclosureSwitchClosing) : exec c s = .next s := by
  have barred := mayTake_of_dark dark
  cases c with
  | secondStep d => exact absurd rfl (step d)
  | supplyReset r => exact absurd rfl (reset r)
  | tamperSwitchOpening r => exact absurd rfl (opening r)
  | enclosureSwitchClosing => exact absurd rfl closing
  | status | clockRead | clockSet | shiftOpen | shiftClose | shiftResume | shiftRead | terminalSet | quote | confirm
  | cancel | reissue | reverse | accountCreate | accountEdit | accountRead | accountClose | meterReplace | accountLoad
  | rekey | indexRebuild | keyLoad | keyRetire | keyList | tariffLoad | tariffRead | grant | reserveRead | journalRead
  | journalRelease | journalRetry | integrityRead | integrityClear | settingsSet | settingsRead | tamperClear
  | initialise => exact congrArg Host.Outcome.next (takeRequest_of_barred _ _ _ barred)
  | unknownRequest =>
    refine congrArg Host.Outcome.next ?_
    split
    · rfl
    · simp [barred]
  | frameArrival | framingError | gapTimerExpiry | linkReset | replySent | characterReceived _ | lineEntersSpacing
  | lineReturnsToMarking | tariffEffective | saleTimerExpiry _ | idleExpiry _ | scrubEvent | arbiterGrant _ _
  | memoryLossInit _ | supplyLoss _ => exact congrArg Host.Outcome.next (if_neg (by simp [dark]))
  | busNak _ | writeStop _ | pollAck | pollLimitExpiry | readBackEnd _ | retryVoidEnd _ | startUpVoidEnd _ =>
    refine congrArg Host.Outcome.next ?_
    split
    · exact if_neg (by simp [dark])
    · rfl
  | journalLookupEnd _ | journalReadEnd _ =>
    refine congrArg Host.Outcome.next ?_
    split
    · split
      · exact if_neg (by simp [dark])
      · rfl
    · rfl
  | rollForwardRead _ =>
    refine congrArg Host.Outcome.next ?_
    split
    · exact if_neg (by simp [dark])
    · exact if_neg (by simp [dark])
    · rfl

end

/-- Settles O13: without supply no condition of an event holds, and a request finds no frame that it may take. -/
theorem commandWithoutItsEventChangesNothing : Obligations.CommandWithoutItsEventChangesNothing := by
  refine ⟨fun c s dark => exec_of_dark dark c, fun k s idle => ?_⟩
  cases k
  all_goals exact congrArg Host.Outcome.next (takeRequest_of_idle _ _ _ idle)

/-! ### The step of an empty queue (R159) -/

section
variable {s : State}

theorem step_of_empty (empty : s.pending = []) : step s = .next (tick s) := by
  unfold step
  rw [empty]

theorem tick_of_dark (dark : s.powered = false) : tick s = s := if_neg (ne_true_of_eq_false dark)

theorem tick_of_early (powered : s.powered = true) (early : s.clock.ticks < 999) :
    tick s = countTick (s.setClock { s.clock with ticks := s.clock.ticks + 1 }) :=
  (if_pos powered).trans (if_neg (Nat.not_le.mpr early))

theorem tick_of_thousandth (powered : s.powered = true) (thousandth : 999 ≤ s.clock.ticks) :
    tick s = secondStep .quiet s := (if_pos powered).trans (if_pos thousandth)

end

/-- Settles O2: the tick by the supply and by the count of ticks since the last second step. -/
theorem emptyQueueTakesTick : Obligations.EmptyQueueTakesTick := by
  intro s empty
  rw [step_of_empty empty]
  refine ⟨fun dark => ?_, fun powered early => ?_, fun powered thousandth => ?_⟩
  · rw [tick_of_dark dark]
  · rw [tick_of_early powered early]
    rfl
  · rw [tick_of_thousandth powered thousandth]
    rfl

end Sys2Proof.Machine
end

section
/-!
SUPPORT. The clock's reading through every operation (R156): a second step, the completion of a CLOCK record and the
memory-loss initialisation alone move it.
-/
namespace Sys2Proof.Machine

theorem SameBut.reading {s t : State} (h : SameBut s t) : t.clock.reading = s.clock.reading := by
  unfold SameBut at h
  rw [h]

section
variable (s : State)

/-! ### Account memory and the terminals -/

@[simp] theorem touchItem_reading (i : SysItem) : (touchItem i s).clock.reading = s.clock.reading :=
  (touchItem_same i s).reading

@[simp] theorem readWords_reading (p : Nat → Bool) : (readWords p s).clock.reading = s.clock.reading :=
  (readWords_same p s).reading

@[simp] theorem readSlot_reading (slot : Nat) : (readSlot slot s).clock.reading = s.clock.reading :=
  (readSlot_same slot s).reading

@[simp] theorem writeItems_reading (is : List SysItem) (f : SystemArea → SystemArea) :
    (writeItems is f s).clock.reading = s.clock.reading := (writeItems_same is f s).reading

@[simp] theorem writeItem_reading (i : SysItem) (f : SystemArea → SystemArea) :
    (writeItem i f s).clock.reading = s.clock.reading := (writeItem_same i f s).reading

@[simp] theorem writeTerm_reading (t : Fin 8) (f : TermEntry → TermEntry) :
    (writeTerm t f s).clock.reading = s.clock.reading := (writeTerm_same t f s).reading

@[simp] theorem releaseSale_reading (t : Fin 8) : (releaseSale t s).clock.reading = s.clock.reading := by
  unfold releaseSale
  split <;> rfl

@[simp] theorem changeIndex_reading (f : SMap IndexEntry → SMap IndexEntry) :
    (changeIndex f s).clock.reading = s.clock.reading := by
  have read (p : Nat → Bool) := readWords_reading s p
  unfold changeIndex
  dsimp only
  split
  · exact read _
  · exact read _

@[simp] theorem setPointers_reading (head tail : Nat) : (setPointers head tail s).clock.reading = s.clock.reading :=
  writeItem_reading _ _ _

@[simp] theorem setMark_reading (m : Option FaultMark) : (setMark m s).clock.reading = s.clock.reading :=
  writeItem_reading _ _ _

@[simp] theorem pushReply_reading (k t : Byte) (tag : Tag) (r : ResultCode) (body : ReplyBody) :
    (pushReply k t tag r body s).clock.reading = s.clock.reading := (touchForFlags_same s).reading

theorem foldl_reading {α : Type} {f : State → α → State} (each : ∀ u a, (f u a).clock.reading = u.clock.reading)
    (l : List α) : (l.foldl f s).clock.reading = s.clock.reading := by
  induction l generalizing s with
  | nil => rfl
  | cons a l ih => rw [List.foldl_cons, ih, each]

/-! ### The requests (R173, R174) -/

theorem judgeStep_reading {s t : State} (step : JudgeStep s t) : t.clock.reading = s.clock.reading := by
  cases step with
  | touch i => exact touchItem_reading s i
  | words p => exact readWords_reading s p
  | damage slot => exact (enterDamage_same slot s).reading
  | entry u f => exact writeTerm_reading s u f
  | released u => exact releaseSale_reading s u
  | quoted u p => exact releaseSale_reading s u
  | pointers head tail => exact setPointers_reading s head tail
  | emptied | live _ _ | cleared | idle _ _ | lookup _ _ | sale _ _ | retry _ | latch | record _ _ _ _ _
  | initialise _ => rfl

/-- That the reading is a given one is a law of every request. -/
theorem requestLaw_reading (n : Nat) : RequestLaw (fun u => u.clock.reading = n) :=
  ⟨fun _ h => h, fun _ _ step h => (judgeStep_reading step).trans h,
    fun _ _ _ _ _ u h => (pushReply_reading u _ _ _ _ _).trans h⟩

theorem takeRequest_reading {α : Type} {k : Kind} {parse : List Byte → Option α} {own : Owner → α → Judge Answer}
    (owner : ∀ o a, (own o a).Moves) : (takeRequest k parse own s).clock.reading = s.clock.reading :=
  (requestLaw_reading _).takeRequest owner rfl

@[simp] theorem restartIdle_reading (t : Fin 8) : (restartIdle t s).clock.reading = s.clock.reading :=
  (requestLaw_reading _).judges (restartIdle_judges t s) rfl

@[simp] theorem releaseOldest_reading : (releaseOldest s).2.clock.reading = s.clock.reading :=
  (requestLaw_reading _).judges (releaseOldest_judges s) rfl

@[simp] theorem endLookup_reading (t : Fin 8) (v : VendLookup) (found : Option SaleBody) :
    (endLookup t v found s).clock.reading = s.clock.reading := (requestLaw_reading _).endLookup rfl v found

@[simp] theorem replyIf_reading (due : Bool) (k : Byte) (t : Fin 8) (tag : Tag) (r : ResultCode) (body : ReplyBody) :
    (replyIf due k t tag r body s).clock.reading = s.clock.reading := by
  cases due
  · rfl
  · exact pushReply_reading s _ _ _ _ _

/-! ### The journal's pointers, marks and pages -/

@[simp] theorem freeBus_reading : (freeBus s).clock.reading = s.clock.reading := rfl

@[simp] theorem beginWrite_reading (job : WriteJob) (r : Record) (pos : Nat) :
    (beginWrite job r pos s).clock.reading = s.clock.reading := rfl

@[simp] theorem setPhase_reading (w : BusWrite) (p : WritePhase) : (setPhase w p s).clock.reading = s.clock.reading :=
  rfl

@[simp] theorem raiseHead_reading : (raiseHead s).clock.reading = s.clock.reading := by
  unfold raiseHead
  split
  · exact setPointers_reading s _ _
  · rfl

@[simp] theorem closeMark_reading : (closeMark s).clock.reading = s.clock.reading := by simp [closeMark]

@[simp] theorem markFault_reading (seq pos : Nat) (cause : FaultCause) :
    (markFault seq pos cause s).clock.reading = s.clock.reading := by
  simp [markFault, setCause]

@[simp] theorem leavePage_reading (pos : Nat) (r : Record) (left : PageLeft) :
    (leavePage pos r left s).clock.reading = s.clock.reading := by
  cases left <;> rfl

/-! ### The tariff alarm, and the end of start-up or of an INITIALISE -/

@[simp] theorem alarmFromMemory_reading : (alarmFromMemory s).clock.reading = s.clock.reading := by
  have read := touchItem_reading s .pendingBank
  unfold alarmFromMemory alarmFromPending
  dsimp only
  repeat' split
  all_goals exact read

@[simp] theorem takeTariffEffective_reading : (takeTariffEffective s).clock.reading = s.clock.reading := by
  unfold takeTariffEffective
  dsimp only
  repeat' split
  all_goals simp

@[simp] theorem endStartUp_reading : (endStartUp s).clock.reading = s.clock.reading := by simp [endStartUp]

@[simp] theorem returnFromInit_reading : (returnFromInit s).clock.reading = s.clock.reading := by
  unfold returnFromInit
  split
  · rfl
  · simp [foldl_reading]

@[simp] theorem abandonInit_reading (i : InitWork) (r : ResultCode) :
    (abandonInit i r s).clock.reading = s.clock.reading := by
  simp [abandonInit, answerInit]

@[simp] theorem endRetry_reading (w : RetryWork) (r : ResultCode) (body : ReplyBody) :
    (endRetry w r body s).clock.reading = s.clock.reading := by
  simp [endRetry]

@[simp] theorem endJournalRead_reading (t : Fin 8) (w : JournalReadWork) (r : ResultCode) (reads : List PositionView) :
    (endJournalRead t w r reads s).clock.reading = s.clock.reading := by
  simp [endJournalRead, touchInfo, setLookup, State.setTerm]

/-! ### The effects of a record other than a CLOCK record (R121) -/

@[simp] theorem applyAccount_reading (slot : Nat) (h : RecordHead) (f : Account → Account) :
    (applyAccount slot h f s).2.clock.reading = s.clock.reading := by
  have listed := touchItem_reading s .damageList
  have read := (readSlot_reading (touchItem .damageList s) slot).trans listed
  unfold applyAccount
  dsimp only
  repeat' split
  · exact listed
  · exact read
  · exact read
  · exact read

@[simp] theorem indexWhen_reading (r : Reached × State) (f : SMap IndexEntry → SMap IndexEntry) :
    (indexWhen r f).clock.reading = r.2.clock.reading := by
  unfold indexWhen
  split
  · exact changeIndex_reading _ f
  · rfl

@[simp] theorem applyLoad_reading (slot : Nat) (image : Account) (h : RecordHead) :
    (applyLoad slot image h s).2.clock.reading = s.clock.reading := by
  have written (a : Account) (u : State) : (writeSlot slot a u).clock.reading = u.clock.reading := rfl
  unfold applyLoad
  dsimp only
  split <;> simp [leaveDamage, written]

@[simp] theorem applyAccountRecord_reading (h : RecordHead) (a : AccountRecord) :
    (applyAccountRecord h a s).2.clock.reading = s.clock.reading := by
  cases a <;> simp [applyAccountRecord]

@[simp] theorem applyTerm_reading (t : Fin 8) (seq : Nat) (f : TermEntry → TermEntry) :
    (applyTerm t seq f s).clock.reading = s.clock.reading := writeTerm_reading s _ _

@[simp] theorem applyTotals_reading (h : RecordHead) (f : ShiftTotals → ShiftTotals) :
    (applyTotals h f s).clock.reading = s.clock.reading := by
  unfold applyTotals
  split
  · rfl
  · exact applyTerm_reading s _ _ _

@[simp] theorem applyReserve_reading (seq : Nat) (f : ReserveRecord → ReserveRecord) :
    (applyReserve seq f s).clock.reading = s.clock.reading := writeItem_reading s _ _

@[simp] theorem endSale_reading (h : RecordHead) : (endSale h s).clock.reading = s.clock.reading := by
  unfold endSale
  split
  · exact releaseSale_reading s _
  · rfl

@[simp] theorem debtAfter_reading (slot : Nat) (r : Reached) :
    (debtAfter slot r s).2.clock.reading = s.clock.reading := by
  cases r <;> rfl

@[simp] theorem applyTariff_reading (h : RecordHead) (b : TariffBank) (effective : Nat) :
    (applyTariff h b effective s).2.clock.reading = s.clock.reading := by
  unfold applyTariff installBank
  dsimp only
  repeat' split
  all_goals simp

@[simp] theorem applySettings_reading (h : RecordHead) (c : SettingsChange) :
    (applySettings h c s).clock.reading = s.clock.reading := by
  have read := touchItem_reading s .settings
  unfold applySettings restartScrub
  dsimp only
  repeat' split
  all_goals exact read

/-- An initialisation keeps the reading (R187). -/
@[simp] theorem applyInit_reading (h : RecordHead) : (applyInit h s).2.clock.reading = s.clock.reading := by
  have fresh (u : State) : (initialiseAll h.seq u).clock.reading = u.clock.reading := rfl
  unfold applyInit
  dsimp only
  split <;> simp [fresh]

@[simp] theorem endHold_reading (r : Record) : (endHold r s).clock.reading = s.clock.reading := by
  unfold endHold
  split
  · exact restartIdle_reading s _
  · rfl

@[simp] theorem answerEntry_reading (e : QueueEntry) (spoken : Spoken) :
    (answerEntry e spoken s).clock.reading = s.clock.reading := by
  unfold answerEntry
  split
  · exact replyIf_reading s _ _ _ _ _ _
  · rfl

/-! ### The faults of a record write (R135) -/

@[simp] theorem faultEntry_reading (e : QueueEntry) : (faultEntry s e).clock.reading = s.clock.reading := by
  unfold faultEntry faultOwner
  split <;> simp

@[simp] theorem faultWrite_reading (w : BusWrite) (cause : FaultCause) :
    (faultWrite w cause s).clock.reading = s.clock.reading := by
  unfold faultWrite
  repeat' split
  · simp [writeFault, foldl_reading]
  · simp
  · rfl
  · simp
  · simp [faultInit]
  · simp
  · simp

/-! ### Supply loss, supply reset and start-up (R180 to R183) -/

@[simp] theorem cutWrite_reading (left : PageLeft) : (cutWrite left s).clock.reading = s.clock.reading := by
  unfold cutWrite
  repeat' split
  all_goals simp

theorem suspendOpen_reading (t : Fin 8) : (suspendOpen s t).clock.reading = s.clock.reading := by
  unfold suspendOpen
  split <;> rfl

@[simp] theorem beginScan_reading (afterVoid : Bool) : (beginScan afterVoid s).clock.reading = s.clock.reading := rfl

@[simp] theorem scanOn_reading : (scanOn s).clock.reading = s.clock.reading := by
  unfold scanOn
  split <;> rfl

theorem startJournal_reading : (startJournal s).clock.reading = s.clock.reading := by
  unfold startJournal
  repeat' split
  · exact endStartUp_reading s
  · rfl
  · rfl

theorem startUp_reading : (startUp s).clock.reading = s.clock.reading := by
  unfold startUp
  dsimp only
  split
  · rw [startJournal_reading, foldl_reading _ suspendOpen_reading]
    exact readWords_reading _ _
  · exact readWords_reading _ _

/-- The clock runs on through a supply reset, and through the loss of account memory (R156; log 10). -/
@[simp] theorem supplyReset_reading (r : ResetInputs) : (supplyReset r s).clock.reading = s.clock.reading := by
  have dark : (resetVolatile r.strap (cutWrite r.left s)).clock.reading = s.clock.reading := cutWrite_reading s r.left
  unfold supplyReset
  dsimp only
  rw [startUp_reading, (disturb_same _ _).reading]
  split
  · exact dark
  · exact dark

/-! ### The scrubber and the arbiter (R132, R150) -/

@[simp] theorem scrubWord_reading : (scrubWord s).clock.reading = s.clock.reading := by
  unfold scrubWord
  dsimp only
  repeat' split
  all_goals simp

theorem grantRead_reading (t : Fin 8) : (grantRead t s).clock.reading = s.clock.reading := by
  unfold grantRead
  repeat' split
  all_goals simp

theorem grantRetry_reading (w : RetryWork) (probeAck : Bool) :
    (grantRetry w probeAck s).clock.reading = s.clock.reading := by
  unfold grantRetry
  repeat' split
  all_goals simp

theorem grantInit_reading (i : InitWork) (reads : SMap ReadGot) :
    (grantInit i reads s).clock.reading = s.clock.reading := by
  unfold grantInit grantInitAt
  dsimp only
  repeat' split
  all_goals simp

theorem grantBehind_reading (probeAck : Bool) (reads : SMap ReadGot) :
    (grantBehind probeAck reads s).clock.reading = s.clock.reading := by
  unfold grantBehind
  repeat' split
  · exact grantRetry_reading s _ _
  · exact grantInit_reading s _ _
  · rfl
  · exact grantRead_reading _ _
  · rfl

@[simp] theorem grant_reading (probeAck : Bool) (reads : SMap ReadGot) :
    (grant probeAck reads s).clock.reading = s.clock.reading := by
  unfold grant
  repeat' split
  · rfl
  · exact grantBehind_reading s _ _
  · exact grantBehind_reading s _ _

end

end Sys2Proof.Machine
end

section
/-!
SUPPORT. No step but the memory-loss initialisation lowers the month index (R156, R161, R162, R185): a second step moves
the reading on, and a CLOCK record not before its month's first second.
-/
namespace Sys2Proof.Machine

/-- A move of the clock from one reading to another that does not lower the month index; a reading past the calendar's
last second is none that the counter reaches (R156). -/
def KeepsMonth (before after : Nat) : Prop := before ≤ lastReading → monthOf before ≤ monthOf after

@[simp] theorem KeepsMonth.refl (reading : Nat) : KeepsMonth reading reading := fun _ => le_rfl

theorem KeepsMonth.of_eq {before after : Nat} (same : after = before) : KeepsMonth before after := same ▸ .refl after

/-! ### What moves the clock -/

theorem keepsMonth_nextReading (n : Nat) : KeepsMonth n (nextReading n) := by
  intro _
  refine monthOf_mono ?_
  unfold nextReading
  split
  · exact Nat.le_succ n
  · exact le_rfl

theorem secondStep_reading (d : Disturbance) (s : State) :
    (secondStep d s).clock.reading = nextReading s.clock.reading := by
  unfold secondStep
  dsimp only
  split <;> rfl

theorem secondStep_keepsMonth (d : Disturbance) (s : State) :
    KeepsMonth s.clock.reading (secondStep d s).clock.reading := by
  rw [secondStep_reading]
  exact keepsMonth_nextReading _

theorem tick_keepsMonth (s : State) : KeepsMonth s.clock.reading (tick s).clock.reading := by
  unfold tick
  repeat' split
  · exact secondStep_keepsMonth _ s
  · exact .refl _
  · exact .refl _

theorem applyClock_keepsMonth (h : RecordHead) (new : Nat) (s : State) :
    KeepsMonth s.clock.reading (applyClock h new s).2.clock.reading := by
  unfold applyClock
  dsimp only
  split
  · exact monthOf_le_clockResult
  · exact .refl _

/-! ### Completions (R121, R134) -/

theorem applyRecord_keepsMonth (inService : Bool) (figures : Figures) (r : Record) (s : State) :
    KeepsMonth s.clock.reading (applyRecord inService figures r s).2.clock.reading := by
  obtain ⟨h, body⟩ := r
  cases body with
  | clock new => exact applyClock_keepsMonth h new s
  | init _ => exact .of_eq (applyInit_reading s h)
  | void _ => exact .refl _
  | other _ => exact .refl _
  | sale b => simp [applyRecord, applySale]
  | payment b => simp [applyRecord, applyPayment]
  | reissue slot _ link => simp [applyRecord, applyReissue]
  | reversal b => simp [applyRecord, applyReversal]
  | grant v => simp [applyRecord, applyGrant, raiseFloor]
  | shiftOpen =>
    simp only [applyRecord, applyShiftOpen]
    split <;> simp
  | shiftClose b => simp [applyRecord, applyShiftClose]
  | account a => simp [applyRecord]
  | key k =>
    simp only [applyRecord, applyKey]
    split <;> exact .refl _
  | tariff b effective => simp [applyRecord]
  | settings c => simp [applyRecord]
  | terminal t role => simp [applyRecord, applyTerminal]

theorem writeDone_keepsMonth (w : BusWrite) (s : State) : KeepsMonth s.clock.reading (writeDone w s).clock.reading := by
  unfold writeDone
  repeat' split
  · rename_i e _ _
    simpa [completeEntry] using applyRecord_keepsMonth true e.figures e.record (raiseHead s)
  · exact .refl _
  · simp [completeInit, answerInit]
  · exact .refl _
  · simp
  · exact .refl _
  · exact .refl _

theorem lastRecordRead_keepsMonth (again : Bool) (p : PageRead) (s : State) :
    KeepsMonth s.clock.reading (lastRecordRead again p s).clock.reading := by
  unfold lastRecordRead
  repeat' split
  · rw [scanOn_reading]
    exact applyRecord_keepsMonth _ _ _ s
  all_goals simp

theorem headRead_keepsMonth (again : Bool) (c : RingCopy) (p : PageRead) (s : State) :
    KeepsMonth s.clock.reading (headRead again c p s).clock.reading := by
  unfold headRead
  repeat' split
  · rw [scanOn_reading, ← raiseHead_reading s]
    exact applyRecord_keepsMonth _ _ _ (raiseHead s)
  all_goals simp

/-! ### Every command -/

theorem exec_keepsMonth (c : Instr) (other : ∀ r, c ≠ .memoryLossInit r) (s : State) :
    ∃ u, exec c s = .next u ∧ KeepsMonth s.clock.reading u.clock.reading := by
  have taken {α : Type} {k : Kind} {parse : List Byte → Option α} {own : Owner → α → Judge Answer}
      (owner : ∀ o a, (own o a).Moves) : KeepsMonth s.clock.reading (takeRequest k parse own s).clock.reading :=
    .of_eq (takeRequest_reading s owner)
  cases c with
  | status => exact ⟨_, rfl, taken moves_ownStatus⟩
  | clockRead => exact ⟨_, rfl, taken moves_ownClockRead⟩
  | clockSet => exact ⟨_, rfl, taken moves_ownClockSet⟩
  | shiftOpen => exact ⟨_, rfl, taken moves_ownShiftOpen⟩
  | shiftClose => exact ⟨_, rfl, taken moves_ownShiftClose⟩
  | shiftResume => exact ⟨_, rfl, taken moves_ownShiftResume⟩
  | shiftRead => exact ⟨_, rfl, taken moves_ownShiftRead⟩
  | terminalSet => exact ⟨_, rfl, taken moves_ownTerminalSet⟩
  | quote => exact ⟨_, rfl, taken moves_ownQuote⟩
  | confirm => exact ⟨_, rfl, taken moves_ownConfirm⟩
  | cancel => exact ⟨_, rfl, taken moves_ownCancel⟩
  | reissue => exact ⟨_, rfl, taken moves_ownReissue⟩
  | reverse => exact ⟨_, rfl, taken moves_ownReverse⟩
  | accountCreate => exact ⟨_, rfl, taken moves_ownCreate⟩
  | accountEdit => exact ⟨_, rfl, taken moves_ownEdit⟩
  | accountRead => exact ⟨_, rfl, taken moves_ownAccountRead⟩
  | accountClose => exact ⟨_, rfl, taken moves_ownClose⟩
  | meterReplace => exact ⟨_, rfl, taken moves_ownReplace⟩
  | accountLoad => exact ⟨_, rfl, taken moves_ownLoad⟩
  | rekey => exact ⟨_, rfl, taken moves_ownRekey⟩
  | indexRebuild => exact ⟨_, rfl, taken moves_ownRebuild⟩
  | keyLoad => exact ⟨_, rfl, taken moves_ownKeyLoad⟩
  | keyRetire => exact ⟨_, rfl, taken moves_ownKeyRetire⟩
  | keyList => exact ⟨_, rfl, taken moves_ownKeyList⟩
  | tariffLoad => exact ⟨_, rfl, taken moves_ownTariffLoad⟩
  | tariffRead => exact ⟨_, rfl, taken moves_ownTariffRead⟩
  | grant => exact ⟨_, rfl, taken moves_ownGrant⟩
  | reserveRead => exact ⟨_, rfl, taken moves_ownReserveRead⟩
  | journalRead => exact ⟨_, rfl, taken moves_ownJournalRead⟩
  | journalRelease => exact ⟨_, rfl, taken moves_ownJournalRelease⟩
  | journalRetry => exact ⟨_, rfl, taken moves_ownJournalRetry⟩
  | integrityRead => exact ⟨_, rfl, taken moves_ownIntegrityRead⟩
  | integrityClear => exact ⟨_, rfl, taken moves_ownIntegrityClear⟩
  | settingsSet => exact ⟨_, rfl, taken moves_ownSettingsSet⟩
  | settingsRead => exact ⟨_, rfl, taken moves_ownSettingsRead⟩
  | tamperClear => exact ⟨_, rfl, taken moves_ownTamperClear⟩
  | initialise => exact ⟨_, rfl, taken moves_ownInitialise⟩
  | memoryLossInit r => exact absurd rfl (other r)
  | unknownRequest =>
    refine ⟨_, rfl, .of_eq ?_⟩
    repeat' split
    · rfl
    · exact pushReply_reading _ _ _ _ _ _
    · rfl
  | frameArrival | framingError | gapTimerExpiry | linkReset | replySent | characterReceived _ | lineEntersSpacing
  | lineReturnsToMarking | pollAck | enclosureSwitchClosing =>
    refine ⟨_, rfl, .of_eq ?_⟩
    repeat' split
    all_goals rfl
  | secondStep d => exact ⟨_, rfl, secondStep_keepsMonth d s⟩
  | readBackEnd got =>
    refine ⟨_, rfl, ?_⟩
    repeat' split
    · exact writeDone_keepsMonth _ s
    all_goals simp
  | rollForwardRead got =>
    refine ⟨_, rfl, ?_⟩
    repeat' split
    · exact lastRecordRead_keepsMonth _ _ s
    · exact .refl _
    · exact headRead_keepsMonth _ _ _ s
    · exact .refl _
    · exact .refl _
  | idleExpiry t =>
    have suspended : (suspendShift t s).clock.reading = s.clock.reading := writeTerm_reading s t _
    have released (u : State) : (setIdle t .stopped (releaseQuoted t u)).clock.reading = u.clock.reading := by
      unfold releaseQuoted
      split
      · exact releaseSale_reading u t
      · rfl
    refine ⟨_, rfl, .of_eq ?_⟩
    split
    · rw [released, suspended]
    · rfl
  | supplyReset r => exact ⟨_, rfl, .of_eq (supplyReset_reading s r)⟩
  | tariffEffective | saleTimerExpiry _ | scrubEvent | arbiterGrant _ _ | supplyLoss _ | writeStop _
  | pollLimitExpiry | retryVoidEnd _ | journalLookupEnd _ | journalReadEnd _ | startUpVoidEnd _ =>
    refine ⟨_, rfl, .of_eq ?_⟩
    repeat' split
    all_goals simp
  | busNak _ | tamperSwitchOpening _ =>
    refine ⟨_, rfl, .of_eq ?_⟩
    dsimp only
    repeat' split
    all_goals simp

/-- Settles O10: a tick, and every command but the memory-loss initialisation, leave the reading in its month or move it
to a later one. -/
theorem stepNeverLowersMonth : Obligations.StepNeverLowersMonth := by
  intro s t range other next
  cases queue : s.pending with
  | nil =>
    cases (step_of_empty queue).symm.trans next
    exact tick_keepsMonth s range
  | cons c rest =>
    unfold step at next
    rw [queue] at next other
    obtain ⟨u, run, kept⟩ := exec_keepsMonth c (fun r same => other r (congrArg some same)) (s.setPending rest)
    cases run.symm.trans next
    exact kept range

end Sys2Proof.Machine
end

section
/-!
SUPPORT. The Line Interface's own steps (R166 to R170): the characters and the other events of the line, and the law of
the receive buffer and of PAUSE through each of them.
-/
namespace Sys2Proof.Machine

/-! ### A character, by what it finds (R167, R168) -/

section
variable {l : LineState} {r : Reception} {b : Byte}

theorem takeByte_start (room : l.arrived.length ≤ 3) : l.takeByte 0x02 =
    { l with reception := some { content := [], escape := false }, gap := some 50 }.judgePause := by
  have notFull : ¬ 4 ≤ l.arrived.length := by omega
  simp [LineState.takeByte, LineState.startByte, notFull]

theorem takeByte_start_of_full (full : 4 ≤ l.arrived.length) : l.takeByte 0x02 = l.overflowed.judgePause := by
  simp [LineState.takeByte, LineState.startByte, full]

theorem takeByte_outside (other : b ≠ 0x02) (idle : l.reception = none) : l.takeByte b = l := by
  rw [LineState.takeByte, if_neg other, idle]

theorem takeByte_escape (receiving : l.reception = some r) (first : r.escape = false) : l.takeByte 0x10 =
    { l with reception := some { r with escape := true }, gap := some 50 }.judgePause := by
  simp [LineState.takeByte, receiving, first]

theorem takeByte_escaped (other : b ≠ 0x02) (receiving : l.reception = some r) (second : r.escape = true) :
    l.takeByte b = (l.contentByte (b ^^^ 0x20) r).judgePause := by
  rw [LineState.takeByte, if_neg other, receiving]
  exact if_pos second

theorem takeByte_plain (other : b ≠ 0x02) (plain : b ≠ 0x10) (receiving : l.reception = some r)
    (first : r.escape = false) : l.takeByte b = (l.contentByte b r).judgePause := by
  rw [LineState.takeByte, if_neg other, receiving]
  exact (if_neg (ne_true_of_eq_false first)).trans (if_neg plain)

theorem contentByte_of_room (used : l.used + 1 ≤ 2048) (short : r.content.length + 1 ≤ 486) : l.contentByte b r =
    { l with reception := some { content := r.content ++ [b], escape := false }, gap := some 50 } := by
  have room : ¬ 2048 < l.used + 1 := by omega
  have within : ¬ 486 < r.content.length + 1 := by omega
  simp [LineState.contentByte, room, within]

theorem takeEnd_of_good (receiving : l.reception = some r) (good : frameGood r = true) : l.takeEnd =
    { l with reception := none, gap := none, arrived := l.arrived ++ [r.content] }.judgePause := by
  simp [LineState.takeEnd, receiving, good, LineState.dropReception]

theorem takeEnd_of_bad (receiving : l.reception = some r) (bad : frameGood r = false) :
    l.takeEnd = l.dropReception.judgePause := by
  simp [LineState.takeEnd, receiving, bad]

theorem frameGood_iff :
    frameGood r = true ↔ 6 ≤ r.content.length ∧ crcMatches r.content = true ∧ r.escape = false := by
  simp [frameGood, and_assoc]

end

/-! ### The line's commands, where their events can occur (R166, R168, R171, R172) -/

section
variable {s : State} (powered : s.powered = true)
include powered

theorem exec_characterReceived_of_marking (marking : s.line.spacing = false) {b : Byte} (other : b ≠ 0x03) :
    exec (.characterReceived b) s = .next (s.setLine (s.line.takeByte b)) := by
  have occurs : (s.powered && !s.line.spacing && b != 0x03) = true := by
    rw [powered, marking, bne_iff_ne.mpr other]
    rfl
  show execCharacterReceived b s = _
  rw [execCharacterReceived, if_pos occurs]

theorem exec_frameArrival_of_marking (marking : s.line.spacing = false) :
    exec .frameArrival s = .next (s.setLine s.line.takeEnd) := by
  show execFrameArrival s = _
  simp [execFrameArrival, powered, marking]

theorem exec_framingError_of_receiving {r : Reception} (receiving : s.line.reception = some r) :
    exec .framingError s = .next (s.setLine s.line.dropReception.judgePause) := by
  show execFramingError s = _
  simp [execFramingError, powered, receiving]

theorem exec_gapTimerExpiry_of_ran (ran : s.line.gap = some 0) :
    exec .gapTimerExpiry s = .next (s.setLine s.line.dropReception.judgePause) := by
  show execGapTimerExpiry s = _
  simp [execGapTimerExpiry, powered, ran]

theorem exec_lineEntersSpacing_of_marking (marking : s.line.spacing = false) :
    exec .lineEntersSpacing s = .next (s.setLine { s.line with spacing := true, breakTimer := some 100 }) := by
  show execLineEntersSpacing s = _
  simp [execLineEntersSpacing, powered, marking]

theorem exec_lineReturnsToMarking_of_powered :
    exec .lineReturnsToMarking s = .next (s.setLine { s.line with spacing := false, breakTimer := none }) := by
  show execLineReturnsToMarking s = _
  simp [execLineReturnsToMarking, powered]

theorem exec_replySent_of_powered : exec .replySent s = .next (s.setTx s.tx.tail) := by
  show execReplySent s = _
  simp [execReplySent, powered]

end

/-- Settles O15: each clause is one branch of the taking of a character. -/
theorem characterIsTaken : Obligations.CharacterIsTaken := by
  intro s b powered marking other
  have taken := exec_characterReceived_of_marking powered marking other
  refine ⟨fun start room => ?_, fun start full => ?_, fun plain idle => ?_, fun r escape receiving first => ?_,
    fun r plain receiving second => ?_, fun r plain unescaped receiving first => ?_⟩
  · subst start
    rw [taken, takeByte_start room]
    rfl
  · subst start
    rw [taken, takeByte_start_of_full full]
    rfl
  · rw [taken, takeByte_outside plain idle]
    rfl
  · subst escape
    rw [taken, takeByte_escape receiving first]
    rfl
  · rw [taken, takeByte_escaped plain receiving second]
    rfl
  · rw [taken, takeByte_plain plain unescaped receiving first]
    rfl

/-- Settles O16: the end byte by the three judgements of its frame, each other event by its one effect. -/
theorem lineEventsTouchLineAlone : Obligations.LineEventsTouchLineAlone := by
  intro s powered
  refine ⟨fun r marking receiving => ⟨fun good => ?_, fun bad => ?_⟩,
    fun r receiving => exec_framingError_of_receiving powered receiving, exec_gapTimerExpiry_of_ran powered,
    exec_lineEntersSpacing_of_marking powered, exec_lineReturnsToMarking_of_powered powered, fun r rest tx => ?_⟩
  · rw [exec_frameArrival_of_marking powered marking, takeEnd_of_good receiving (frameGood_iff.mpr good)]
    rfl
  · have notGood : frameGood r = false := Bool.eq_false_iff.mpr fun good => bad (frameGood_iff.mp good)
    rw [exec_frameArrival_of_marking powered marking, takeEnd_of_bad receiving notGood]
    rfl
  · rw [exec_replySent_of_powered powered, tx]
    rfl

/-- One character of a sequence, on a line that is marking. -/
theorem runCommands_character {s : State} {l m : LineState} {b : Byte} (taken : l.takeByte b = m)
    (powered : s.powered = true) (marking : l.spacing = false) (other : b ≠ 0x03) (rest : List Instr) :
    runCommands (characterCommand b :: rest) (s.setLine l) = runCommands rest (s.setLine m) := by
  have ran : exec (.characterReceived b) (s.setLine l) = .next (s.setLine (l.takeByte b)) :=
    exec_characterReceived_of_marking (s := s.setLine l) powered marking other
  rw [characterCommand, if_neg other, runCommands, ran, taken]

/-! ### PAUSE judged again (R170) -/

/-- PAUSE after a judgement, from what it was and from the frames and the free space of the buffer. -/
def pauseAfter (pause : Bool) (frames free : Nat) : Bool :=
  if 3 ≤ frames ∨ free < 512 then true else if frames ≤ 1 ∧ 1024 ≤ free then false else pause

theorem judgePause_eq (l : LineState) :
    l.judgePause = { l with pause := pauseAfter l.pause l.arrived.length l.free } := rfl

/-- A judgement on the way to a fuller buffer makes no difference to the judgement of that buffer. -/
theorem pauseAfter_pauseAfter {pause : Bool} {a a₁ a₂ f f₁ f₂ : Nat} (released : a ≤ 1 → 1024 ≤ f → pause = false)
    (frames : a ≤ a₁) (frames' : a₁ ≤ a₂) (free : f₁ ≤ f) (free' : f₂ ≤ f₁) :
    pauseAfter (pauseAfter pause a₁ f₁) a₂ f₂ = pauseAfter pause a₂ f₂ := by
  unfold pauseAfter
  split_ifs with asserts releases asserts₁ releases₁
  · rfl
  · rfl
  · omega
  · exact (released (by omega) (by omega)).symm
  · rfl

/-! ### A frame in reception (R167, R168) -/

/-- A line with some content of a frame taken since it was idle. -/
def LineState.receiving (l : LineState) (content : List Byte) (escape : Bool) : LineState :=
  { l with reception := some { content := content, escape := escape }, gap := some 50 }.judgePause

section
variable {l : LineState} (idle : l.reception = none) (released : l.arrived.length ≤ 1 → 1024 ≤ l.free → l.pause = false)
include idle

theorem receiving_used (c : List Byte) (e : Bool) : (l.receiving c e).used = l.used + c.length := by
  simp [LineState.receiving, LineState.judgePause, LineState.used, idle]

theorem receiving_free (c : List Byte) (e : Bool) : (l.receiving c e).free = 2048 - (l.used + c.length) := by
  rw [LineState.free, receiving_used idle]

include released

/-- More content taken: PAUSE stands as judged of the fuller buffer alone. -/
theorem receiving_more {c d : List Byte} (e e' : Bool) (longer : c.length ≤ d.length) :
    { l.receiving c e with reception := some { content := d, escape := e' }, gap := some 50 }.judgePause =
      l.receiving d e' := by
  have before : l.free = 2048 - l.used := rfl
  have between := receiving_free idle c e
  have after := receiving_free idle d e'
  have settled := pauseAfter_pauseAfter (a₁ := l.arrived.length) (a₂ := l.arrived.length)
    (f₁ := (l.receiving c e).free) (f₂ := (l.receiving d e').free) released le_rfl le_rfl (by omega) (by omega)
  rw [judgePause_eq]
  exact congrArg (fun p => { l.receiving d e' with pause := p }) settled

/-- The frame arrives: PAUSE stands as judged of the line with the frame among those waiting. -/
theorem receiving_takeEnd (still : l.gap = none) {c : List Byte} (long : 6 ≤ c.length) (crc : crcMatches c = true) :
    (l.receiving c false).takeEnd = { l with arrived := l.arrived ++ [c] }.judgePause := by
  have good : frameGood { content := c, escape := false } = true := frameGood_iff.mpr ⟨long, crc, rfl⟩
  have arrivedFree : { l with arrived := l.arrived ++ [c] }.free = (l.receiving c false).free := by
    rw [receiving_free idle]
    simp [LineState.free, LineState.used, idle]
  have before : l.free = 2048 - l.used := rfl
  have between := receiving_free idle c false
  have settled := pauseAfter_pauseAfter (a₁ := l.arrived.length) (a₂ := (l.arrived ++ [c]).length)
    (f₁ := (l.receiving c false).free) (f₂ := { l with arrived := l.arrived ++ [c] }.free) released le_rfl (by simp)
    (by omega) (by omega)
  rw [takeEnd_of_good rfl good, judgePause_eq, judgePause_eq]
  obtain ⟨speed, reception, gap, arrived, pause, overflow, spacing, breakTimer⟩ := l
  obtain rfl : reception = none := idle
  obtain rfl : gap = none := still
  exact congrArg (fun p => LineState.mk speed none none (arrived ++ [c]) p overflow spacing breakTimer) settled

/-! ### A frame as it is sent (R167) -/

theorem receiving_contentByte {c : List Byte} (b : Byte) (e : Bool) (short : c.length + 1 ≤ 486)
    (room : l.used + c.length + 1 ≤ 2048) :
    ((l.receiving c e).contentByte b { content := c, escape := e }).judgePause = l.receiving (c ++ [b]) false := by
  have used := receiving_used idle c e
  rw [contentByte_of_room (by omega) short]
  exact receiving_more idle released e false (by simp)

/-- A byte as it is sent, an escape byte and the byte exclusive-OR 0x20 where it must be, is taken as that byte. -/
theorem runCommands_escapeByte {s : State} (powered : s.powered = true) (marking : l.spacing = false) {c : List Byte}
    (b : Byte) (short : c.length + 1 ≤ 486) (room : l.used + c.length + 1 ≤ 2048) (rest : List Instr) :
    runCommands ((escapeByte b).map characterCommand ++ rest) (s.setLine (l.receiving c false)) =
      runCommands rest (s.setLine (l.receiving (c ++ [b]) false)) := by
  unfold escapeByte
  split_ifs with control
  · have second : b ^^^ 0x20 ≠ 0x03 ∧ b ^^^ 0x20 ≠ 0x02 ∧ b ^^^ 0x20 ^^^ 0x20 = b := by
      rcases control with rfl | rfl | rfl <;> decide
    obtain ⟨notEnd, notStart, unescaped⟩ := second
    have held : (l.receiving c false).takeByte 0x10 = l.receiving c true :=
      (takeByte_escape rfl rfl).trans (receiving_more idle released false true le_rfl)
    have taken : (l.receiving c true).takeByte (b ^^^ 0x20) = l.receiving (c ++ [b]) false := by
      rw [takeByte_escaped notStart rfl rfl, unescaped]
      exact receiving_contentByte idle released b true short room
    rw [List.map_cons, List.map_singleton, List.cons_append, List.singleton_append,
      runCommands_character held powered marking (by decide), runCommands_character taken powered marking notEnd]
  · simp only [not_or] at control
    obtain ⟨notStart, notEnd, notEscape⟩ := control
    have taken : (l.receiving c false).takeByte b = l.receiving (c ++ [b]) false :=
      (takeByte_plain notStart notEscape rfl rfl).trans (receiving_contentByte idle released b false short room)
    rw [List.map_singleton, List.singleton_append, runCommands_character taken powered marking notEnd]

theorem runCommands_escaped {s : State} (powered : s.powered = true) (marking : l.spacing = false)
    (content c : List Byte) (short : c.length + content.length ≤ 486)
    (room : l.used + c.length + content.length ≤ 2048) (rest : List Instr) :
    runCommands ((escaped content).map characterCommand ++ rest) (s.setLine (l.receiving c false)) =
      runCommands rest (s.setLine (l.receiving (c ++ content) false)) := by
  induction content generalizing c with
  | nil => simp [escaped]
  | cons b content ih =>
    simp only [List.length_cons] at short room
    have sent : (escaped (b :: content)).map characterCommand ++ rest =
        (escapeByte b).map characterCommand ++ ((escaped content).map characterCommand ++ rest) := by
      simp [escaped]
    have fuller : (c ++ [b]).length = c.length + 1 := by simp
    rw [sent, runCommands_escapeByte idle released powered marking b (by omega) (by omega),
      ih (c ++ [b]) (by omega) (by omega), List.append_assoc, List.singleton_append]

end

/-- Settles O14: the start byte begins the frame, its content is taken byte by byte, and the end byte finds it good. -/
theorem frameSentIsFrameTaken : Obligations.FrameSentIsFrameTaken := by
  intro s content powered marking idle still judged waiting atLeast atMost room
  have released := judged.2
  have size := withCrc_length content
  have begun : s.line.takeByte 0x02 = s.line.receiving [] false := takeByte_start waiting
  have arrived := receiving_takeEnd idle released still (c := withCrc content) (by omega) (crcMatches_withCrc content)
  have ended : exec .frameArrival (s.setLine (s.line.receiving (withCrc content) false)) =
      .next (s.setLine (s.line.receiving (withCrc content) false).takeEnd) :=
    exec_frameArrival_of_marking (s := s.setLine _) powered marking
  have sent : (frameBytes (withCrc content)).map characterCommand =
      characterCommand 0x02 :: ((escaped (withCrc content)).map characterCommand ++ [.frameArrival]) := by
    simp [frameBytes, characterCommand]
  rw [sent]
  refine Eq.trans ?_ (congrArg (fun v => some (s.setLine v)) arrived)
  calc runCommands (characterCommand 0x02 :: ((escaped (withCrc content)).map characterCommand ++ [.frameArrival])) s
      = runCommands ((escaped (withCrc content)).map characterCommand ++ [.frameArrival])
          (s.setLine (s.line.receiving [] false)) := runCommands_character begun powered marking (by decide) _
    _ = runCommands [.frameArrival] (s.setLine (s.line.receiving (withCrc content) false)) :=
        runCommands_escaped idle released powered marking _ [] (by simp; omega) (by simp; omega) _
    _ = some (s.setLine (s.line.receiving (withCrc content) false).takeEnd) := by
        rw [runCommands, ended]
        rfl

end Sys2Proof.Machine
end

section
/-!
SUPPORT. The replies that the module has in hand (R172, R173): those in the transmit reply queue and those that work
items owe, item by item; and what an operation that gives no reply leaves of them.
-/
namespace Sys2Proof.Machine

/-! ### The replies of each item -/

/-- The replies in the transmit reply queue and those that work items owe. -/
def replyLoad (s : State) : Nat := s.tx.length + repliesOwed s

theorem repliesFit_iff {s : State} : RepliesFit s ↔ replyLoad s ≤ 16 := Iff.rfl

/-- The reply a lookup owes. -/
def lookupOwes (l : Option Lookup) : Nat := (l.any Lookup.owes).toNat

/-- The reply a JOURNAL_RETRY owes. -/
def retryOwes (w : Option RetryWork) : Nat := (w.any (·.replyDue)).toNat

/-- The reply an INITIALISE owes; that of one written in the write queue is owed by its entry (R186). -/
def initOwes (i : Option InitWork) : Nat := (i.any (fun i => i.outside && i.replyDue)).toNat

theorem length_filter_eq_sum {α : Type} (p : α → Bool) (l : List α) :
    (l.filter p).length = (l.map fun a => (p a).toNat).sum := by
  induction l with
  | nil => rfl
  | cons a l ih => cases h : p a <;> simp [h, ih, Nat.add_comm]

theorem repliesOwed_eq (s : State) : repliesOwed s =
    (s.queue.map (·.replyDue.toNat)).sum + (s.terms.toList.map fun w => lookupOwes w.lookup).sum + retryOwes s.retry
      + initOwes s.init := by
  have bit (b : Bool) : (if b = true then 1 else 0) = b.toNat := by cases b <;> rfl
  simp only [repliesOwed, length_filter_eq_sum, bit]
  rfl

theorem replyLoad_eq (s : State) : replyLoad s = s.tx.length +
    ((s.queue.map (·.replyDue.toNat)).sum + (s.terms.toList.map fun w => lookupOwes w.lookup).sum + retryOwes s.retry
      + initOwes s.init) := by
  rw [replyLoad, repliesOwed_eq]

/-! ### A work item taken up or ended -/

theorem Eight.sum_put {α : Type} (f : α → Nat) (e : Eight α) (t : Fin 8) (a : α) :
    ((e.put t a).toList.map f).sum + f (e.get t) = (e.toList.map f).sum + f a := by
  match t with
  | 0 | 1 | 2 | 3 | 4 | 5 | 6 | 7 =>
    simp only [Eight.put, Eight.get, Eight.toList, List.map_cons, List.map_nil, List.sum_cons, List.sum_nil]
    omega

/-- A terminal's lookup replaced: what the old one owed goes, what the new one owes comes. -/
theorem replyLoad_setLookup (t : Fin 8) (v : Option Lookup) (s : State) :
    replyLoad (setLookup t v s) + lookupOwes (s.term t).lookup = replyLoad s + lookupOwes v := by
  have swapped := Eight.sum_put (fun w => lookupOwes w.lookup) s.terms t { s.term t with lookup := v }
  simp only [replyLoad_eq, setLookup, State.setTerm, State.setTerms_tx, State.setTerms_queue, State.setTerms_terms,
    State.setTerms_retry, State.setTerms_init, State.term] at swapped ⊢
  omega

theorem replyLoad_setRetry (w : Option RetryWork) (s : State) :
    replyLoad (s.setRetry w) + retryOwes s.retry = replyLoad s + retryOwes w := by
  simp only [replyLoad_eq, State.setRetry_tx, State.setRetry_queue, State.setRetry_terms, State.setRetry_retry,
    State.setRetry_init]
  omega

theorem replyLoad_setInit (i : Option InitWork) (s : State) :
    replyLoad (s.setInit i) + initOwes s.init = replyLoad s + initOwes i := by
  simp only [replyLoad_eq, State.setInit_tx, State.setInit_queue, State.setInit_terms, State.setInit_retry,
    State.setInit_init]
  omega

/-- The entry at the front of the write queue leaves it, with the reply it owes. -/
theorem replyLoad_setQueue_tail {s : State} {e : QueueEntry} {rest : List QueueEntry} (queue : s.queue = e :: rest) :
    replyLoad (s.setQueue s.queue.tail) + e.replyDue.toNat = replyLoad s := by
  simp only [replyLoad_eq, State.setQueue_tx, State.setQueue_queue, State.setQueue_terms, State.setQueue_retry,
    State.setQueue_init, queue, List.tail_cons, List.map_cons, List.sum_cons]
  omega

theorem replyLoad_queueRecord (o : Owner) (head : RecordHead) (body : RecordBody) (figures : Figures) (due : Bool)
    (s : State) : replyLoad (queueRecord o head body figures due s) = replyLoad s + due.toNat := by
  simp only [replyLoad_eq, queueRecord, State.setQueue_tx, State.setQueue_queue, State.setQueue_terms,
    State.setQueue_retry, State.setQueue_init, List.map_append, List.sum_append, List.map_singleton, List.sum_singleton]
  omega

/-! ### Operations that give no reply -/

/-- An operation that gives no reply and takes up no work that owes one: it leaves the line, the replies and a retry,
and leaves the write queue, the lookups and an INITIALISE or discards them. -/
structure Sheds (s t : State) : Prop where
  line : t.line = s.line
  tx : t.tx = s.tx
  queue : t.queue = s.queue ∨ t.queue = []
  lookup : ∀ u, (t.term u).lookup = (s.term u).lookup ∨ (t.term u).lookup = none
  retry : t.retry = s.retry
  init : t.init = s.init ∨ t.init = none

section
variable {s t u : State}

theorem Sheds.refl (s : State) : Sheds s s := ⟨rfl, rfl, .inl rfl, fun _ => .inl rfl, rfl, .inl rfl⟩

/-- What stands, or has been discarded, may be discarded again. -/
theorem discard_trans {α : Type} {a b c gone : α} (h : b = a ∨ b = gone) (k : c = b ∨ c = gone) : c = a ∨ c = gone := by
  rcases k with rfl | k
  · exact h
  · exact .inr k

theorem Sheds.trans (h : Sheds s t) (k : Sheds t u) : Sheds s u :=
  ⟨k.line.trans h.line, k.tx.trans h.tx, discard_trans h.queue k.queue,
    fun v => discard_trans (h.lookup v) (k.lookup v), k.retry.trans h.retry, discard_trans h.init k.init⟩

theorem SameBut.sheds (same : SameBut s t) : Sheds s t := by
  have terms (u : Fin 8) : t.term u = s.term u := by rw [State.term, same.terms, State.term]
  refine ⟨?_, ?_, .inl ?_, fun u => .inl (by rw [terms]), ?_, .inl ?_⟩ <;> rw [same]

/-- Such an operation leaves no more replies in hand than it finds. -/
theorem Sheds.replyLoad_le (h : Sheds s t) : replyLoad t ≤ replyLoad s := by
  have queue : (t.queue.map (·.replyDue.toNat)).sum ≤ (s.queue.map (·.replyDue.toNat)).sum := by
    rcases h.queue with same | gone
    · rw [same]
    · rw [gone]
      exact Nat.zero_le _
  have lookups : (allTerminals.map fun u => lookupOwes (t.term u).lookup).sum ≤
      (allTerminals.map fun u => lookupOwes (s.term u).lookup).sum := by
    refine List.sum_le_sum fun u _ => ?_
    rcases h.lookup u with same | gone
    · rw [same]
    · rw [gone]
      exact Nat.zero_le _
  have init : initOwes t.init ≤ initOwes s.init := by
    rcases h.init with same | gone
    · rw [same]
    · rw [gone]
      exact Nat.zero_le _
  have listed (v : State) : (v.terms.toList.map fun w => lookupOwes w.lookup).sum =
      (allTerminals.map fun u => lookupOwes (v.term u).lookup).sum := rfl
  rw [replyLoad_eq, replyLoad_eq, listed, listed, h.tx, h.retry]
  omega

/-- The entry at the front of the queue leaves before such an operation or after it. -/
theorem Sheds.tail (h : Sheds s t) : Sheds (s.setQueue s.queue.tail) (t.setQueue t.queue.tail) := by
  refine { h with queue := ?_ }
  rcases h.queue with same | gone
  · exact .inl (congrArg List.tail same)
  · exact .inr (congrArg List.tail gone)

/-- An INITIALISE that such an operation ends may as well have ended before it. -/
theorem Sheds.ended (h : Sheds s t) (idle : t.init = none) : Sheds (s.setInit none) t := { h with init := .inl idle }

end

section
variable {o s : State} (h : Sheds o s)
include h

/-! ### What owes no reply -/

theorem Sheds.setPowered (v : Bool) : Sheds o (s.setPowered v) := { h with }
theorem Sheds.setMode (v : ModuleMode) : Sheds o (s.setMode v) := { h with }
theorem Sheds.setMem (v : AccountMemory) : Sheds o (s.setMem v) := { h with }
theorem Sheds.setSecure (v : SecureMemory) : Sheds o (s.setSecure v) := { h with }
theorem Sheds.setDevice (v : SMap Page) : Sheds o (s.setDevice v) := { h with }
theorem Sheds.setClock (v : Clock) : Sheds o (s.setClock v) := { h with }
theorem Sheds.setSetAsides (v : Nat) : Sheds o (s.setSetAsides v) := { h with }
theorem Sheds.setCopy (v : Option RingCopy) : Sheds o (s.setCopy v) := { h with }
theorem Sheds.setBus (v : Option BusOp) : Sheds o (s.setBus v) := { h with }
theorem Sheds.setReads (v : List (Fin 8)) : Sheds o (s.setReads v) := { h with }
theorem Sheds.setScrub (v : Scrubber) : Sheds o (s.setScrub v) := { h with }
theorem Sheds.setSysFault (v : Option Nat) : Sheds o (s.setSysFault v) := { h with }
theorem Sheds.setEnclosureOpen (v : Bool) : Sheds o (s.setEnclosureOpen v) := { h with }
theorem Sheds.setDraws (v : Nat) : Sheds o (s.setDraws v) := { h with }

/-! ### Account memory, the terminals and the journal's pointers -/

theorem Sheds.ofSame {t : State} (same : SameBut s t) : Sheds o t := h.trans (SameBut.sheds same)

theorem touchItem_sheds (i : SysItem) : Sheds o (touchItem i s) := h.ofSame (touchItem_same i s)

theorem readWords_sheds (p : Nat → Bool) : Sheds o (readWords p s) := h.ofSame (readWords_same p s)

theorem storeItems_sheds (is : List SysItem) (f : SystemArea → SystemArea) : Sheds o (storeItems is f s) :=
  h.ofSame (storeItems_same is f s)

theorem writeItems_sheds (is : List SysItem) (f : SystemArea → SystemArea) : Sheds o (writeItems is f s) :=
  h.ofSame (writeItems_same is f s)

theorem writeItem_sheds (i : SysItem) (f : SystemArea → SystemArea) : Sheds o (writeItem i f s) :=
  writeItems_sheds h _ _

theorem writeTerm_sheds (t : Fin 8) (f : TermEntry → TermEntry) : Sheds o (writeTerm t f s) := writeItems_sheds h _ _

theorem setSale_sheds (t : Fin 8) (v : Option PendingSale) : Sheds o (setSale t v s) := by
  refine h.trans ⟨rfl, rfl, .inl rfl, fun u => .inl ?_, rfl, .inl rfl⟩
  by_cases own : u = t
  · rw [own, setSale_term]
  · rw [setSale_term_of_ne _ _ own]

theorem setIdle_sheds (t : Fin 8) (v : IdleTimer) : Sheds o (setIdle t v s) :=
  h.trans ⟨rfl, rfl, .inl rfl, fun u => .inl (setIdle_lookup t u v s), rfl, .inl rfl⟩

/-- Every terminal's volatile part changed in ways that leave its lookup. -/
theorem mapTerms_sheds {f : TermWork → TermWork} (same : ∀ w, (f w).lookup = w.lookup) :
    Sheds o (s.setTerms (s.terms.map f)) := by
  refine h.trans ⟨rfl, rfl, .inl rfl, fun u => .inl ?_, rfl, .inl rfl⟩
  have part : (s.setTerms (s.terms.map f)).term u = f (s.term u) := by fin_cases u <;> rfl
  rw [part, same]

theorem foldl_sheds {α : Type} {f : State → α → State} (each : ∀ u a, Sheds o u → Sheds o (f u a)) (l : List α) :
    Sheds o (l.foldl f s) := List.foldlRecOn l f h fun u held a _ => each u a held

theorem releaseSale_sheds (t : Fin 8) : Sheds o (releaseSale t s) := by
  unfold releaseSale
  split
  · exact setSale_sheds (h.setSetAsides _) t none
  · exact h

theorem restartIdle_sheds (t : Fin 8) : Sheds o (restartIdle t s) := by
  unfold restartIdle
  dsimp only
  split_ifs
  · exact setIdle_sheds (touchItem_sheds h _) t _
  · exact setIdle_sheds (touchItem_sheds h _) t _
  · exact setIdle_sheds (touchItem_sheds (touchItem_sheds h _) _) t _
  · exact setIdle_sheds (touchItem_sheds h _) t _

theorem holdIdle_sheds (t : Fin 8) : Sheds o (holdIdle t s) := by
  unfold holdIdle
  split
  · exact setIdle_sheds h t _
  · exact h

theorem setPointers_sheds (head tail : Nat) : Sheds o (setPointers head tail s) := writeItem_sheds (h.setCopy _) _ _

theorem setMark_sheds (m : Option FaultMark) : Sheds o (setMark m s) := writeItem_sheds (h.setCopy _) _ _

theorem raiseHead_sheds : Sheds o (raiseHead s) := by
  unfold raiseHead
  split
  · exact setPointers_sheds h _ _
  · exact h

theorem releaseOldest_sheds : Sheds o (releaseOldest s).2 := by
  unfold releaseOldest
  repeat' split
  · exact setPointers_sheds h _ _
  · exact h
  · exact h

theorem closeMark_sheds : Sheds o (closeMark s) := setMark_sheds (raiseHead_sheds h) _

theorem markFault_sheds (seq pos : Nat) (cause : FaultCause) : Sheds o (markFault seq pos cause s) :=
  writeItem_sheds (setMark_sheds h _) _ _

theorem leavePage_sheds (pos : Nat) (r : Record) (left : PageLeft) : Sheds o (leavePage pos r left s) := by
  cases left with
  | unchanged => exact h
  | asSent => exact h.setDevice _
  | bytes b => exact h.setDevice _

/-! ### The tariff alarm, and the end of start-up or of an INITIALISE -/

theorem alarmFromMemory_sheds : Sheds o (alarmFromMemory s) := by
  have read := touchItem_sheds h .pendingBank
  unfold alarmFromMemory alarmFromPending
  dsimp only
  repeat' split
  · exact read
  · exact read.setClock _
  · exact read

theorem takeTariffEffective_sheds : Sheds o (takeTariffEffective s) := by
  have read := touchItem_sheds h .pendingBank
  unfold takeTariffEffective
  dsimp only
  split_ifs
  · exact read
  · exact writeItems_sheds read _ _
  · exact (writeItems_sheds read _ _).setClock _
  · exact read

theorem endStartUp_sheds : Sheds o (endStartUp s) :=
  (((touchItem_sheds (takeTariffEffective_sheds (alarmFromMemory_sheds h)) .settings).setScrub _).setBus none).setMode _

theorem Sheds.setInit_none : Sheds o (s.setInit none) := { h with init := .inr rfl }

theorem returnFromInit_sheds : Sheds o (returnFromInit s) := by
  unfold returnFromInit
  split
  · exact h
  · have idle (back : ModuleMode) := foldl_sheds (h.setMode back).setInit_none
      (f := fun acc t => restartIdle t acc) (fun u t held => restartIdle_sheds held t) allTerminals
    exact (touchItem_sheds (idle _) .settings).setScrub _

/-! ### The effects of a record (R121) -/

theorem endSale_sheds (head : RecordHead) : Sheds o (endSale head s) := by
  unfold endSale
  split
  · exact releaseSale_sheds h _
  · exact h

theorem installBank_sheds (seq : Nat) (b : TariffBank) (effective : Nat) : Sheds o (installBank seq b effective s) := by
  have written (place : SysItem) (f : SystemArea → SystemArea) := writeItems_sheds h [place, .bankIds] f
  unfold installBank
  dsimp only
  split_ifs
  · exact written _ _
  · exact alarmFromMemory_sheds (written _ _)
  · exact written _ _
  · exact alarmFromMemory_sheds (written _ _)

theorem applyTariff_sheds (head : RecordHead) (b : TariffBank) (effective : Nat) :
    Sheds o (applyTariff head b effective s).2 := by
  have read := touchItem_sheds h .bankIds
  unfold applyTariff
  dsimp only
  split_ifs
  · exact read
  · exact installBank_sheds read _ _ _
  · exact read

theorem applySettings_sheds (head : RecordHead) (c : SettingsChange) : Sheds o (applySettings head c s) := by
  have read := touchItem_sheds h .settings
  unfold applySettings restartScrub
  dsimp only
  repeat' split
  · exact read
  · exact storeItems_sheds read _ _
  · exact (storeItems_sheds read _ _).setScrub _
  · exact storeItems_sheds read _ _
  · exact read

theorem dropTerminals_sheds : Sheds o (dropTerminals s) :=
  { h with lookup := fun u => .inr (by fin_cases u <;> rfl) }

theorem Sheds.setQueue_nil : Sheds o (s.setQueue []) := { h with queue := .inr rfl }

/-- An initialisation discards the write queue and every lookup (R141, R187). -/
theorem initialiseAll_sheds (seq : Nat) : Sheds o (initialiseAll seq s) :=
  ((((dropTerminals_sheds (h.setMem _).setQueue_nil).setCopy _).setClock _).setSecure _).setSysFault none

theorem applyInit_sheds (head : RecordHead) : Sheds o (applyInit head s).2 := by
  have read := touchItem_sheds h .signature
  unfold applyInit
  dsimp only
  split
  · exact (endStartUp_sheds (initialiseAll_sheds read _)).setInit_none
  · exact returnFromInit_sheds read

theorem applyRecord_sheds (inService : Bool) (figures : Figures) (r : Record) :
    Sheds o (applyRecord inService figures r s).2 := by
  obtain ⟨head, body⟩ := r
  have account (slot : Nat) (f : Account → Account) := applyAccount_same s slot head f
  cases body with
  | init _ => exact applyInit_sheds h head
  | sale b =>
    exact endSale_sheds (h.ofSame (((account _ _).trans (applyReserve_same _ _ _)).trans
      (applyTotals_same head _ _))) head
  | payment b => exact endSale_sheds (h.ofSame ((account _ _).trans (applyTotals_same head _ _))) head
  | reissue slot _ link =>
    simp only [applyRecord, applyReissue]
    exact h.ofSame ((account _ _).trans (applyTotals_same head _ _))
  | reversal b =>
    exact h.ofSame ((((account _ _).trans (debtAfter_same _ _ _)).trans (applyReserve_same _ _ _)).trans
      (applyTotals_same head _ _))
  | grant v => exact (h.ofSame (applyReserve_same _ _ s)).setSecure _
  | shiftOpen =>
    simp only [applyRecord, applyShiftOpen]
    split
    · exact h
    · exact writeTerm_sheds h _ _
  | shiftClose b => exact writeTerm_sheds h _ _
  | terminal t role => exact writeTerm_sheds h _ _
  | account a => exact h.ofSame (applyAccountRecord_same s head a)
  | key k =>
    simp only [applyRecord, applyKey]
    split
    · exact h.setSecure _
    · exact h
  | clock new =>
    simp only [applyRecord, applyClock]
    split
    · exact h.setClock _
    · exact h
  | tariff b effective => exact applyTariff_sheds h head b effective
  | settings c => exact applySettings_sheds h head c
  | void _ => exact h
  | other _ => exact h

theorem endHold_sheds (r : Record) : Sheds o (endHold r s) := by
  unfold endHold
  split
  · exact restartIdle_sheds h _
  · exact h

/-! ### Start-up (R181 to R185) -/

theorem scanOn_sheds : Sheds o (scanOn s) := by
  unfold scanOn
  split_ifs
  · exact h.setMode _
  · exact h

theorem cutWrite_sheds (left : PageLeft) : Sheds o (cutWrite left s) := by
  unfold cutWrite
  repeat' split
  · exact h
  · exact leavePage_sheds h _ _ _
  · exact leavePage_sheds h _ _ _
  · exact h
  · exact h

theorem startUp_sheds : Sheds o (startUp s) := by
  have read : Sheds o (readWords inSystem (s.setMode (.starting .memoryLoss))) := readWords_sheds (h.setMode _) _
  have suspended (u : State) (t : Fin 8) (held : Sheds o u) : Sheds o (suspendOpen u t) := by
    unfold suspendOpen
    split_ifs
    · exact storeItems_sheds held _ _
    · exact held
  have journal (u : State) (held : Sheds o u) : Sheds o (startJournal u) := by
    unfold startJournal
    repeat' split
    · exact endStartUp_sheds held
    · exact (held.setBus _).setMode _
    · exact (held.setBus _).setMode _
  unfold startUp
  dsimp only
  split_ifs
  · exact journal _ (foldl_sheds (read.setCopy _) suspended _)
  · exact (read.setSysFault none).setBus _

theorem lastRecordRead_sheds (again : Bool) (p : PageRead) : Sheds o (lastRecordRead again p s) := by
  unfold lastRecordRead
  repeat' split
  · exact scanOn_sheds (applyRecord_sheds h _ _ _)
  · exact scanOn_sheds h
  · exact h.setMode _
  · exact scanOn_sheds h

theorem headRead_sheds (again : Bool) (c : RingCopy) (p : PageRead) : Sheds o (headRead again c p s) := by
  unfold headRead
  repeat' split
  · exact scanOn_sheds (applyRecord_sheds (raiseHead_sheds h) _ _ _)
  · exact endStartUp_sheds (setMark_sheds h _)
  · exact h.setMode _
  · exact endStartUp_sheds h

theorem journalSpent_sheds : Sheds o (journalSpent s) :=
  ((((touchItem_sheds h .settings).setScrub _).setBus none).setCopy none).setMode _

theorem memoryLossAt_sheds (head : Nat) : Sheds o (memoryLossAt head s) :=
  (((((h.setMem _).setCopy _).setClock _).setSecure _).setBus _).setMode _

/-! ### The scrubber (R150) -/

theorem scrubWord_sheds : Sheds o (scrubWord s) := by
  have read : Sheds o (if s.scrub.pos < 131072 then touchItem .damageList s else s) := by
    split_ifs
    · exact touchItem_sheds h _
    · exact h
  unfold scrubWord
  dsimp only
  split_ifs at read ⊢
  · exact read
  · exact readWords_sheds read _
  · exact read
  · exact readWords_sheds read _

end

/-! ### No INITIALISE is in hand after its end -/

/-- After the end of an INITIALISE none is in hand. -/
theorem returnFromInit_init (s : State) : (returnFromInit s).init = none := by
  cases init : s.init with
  | none => rw [returnFromInit_of_none init, init]
  | some i =>
    unfold returnFromInit
    rw [init]
    have kept (u : State) (idle : u.init = none) :
        (touchItem .settings (allTerminals.foldl (fun acc t => restartIdle t acc) u)).init = none := by
      have idled := foldl_sheds (.refl u) (fun _ t held => restartIdle_sheds held t) allTerminals
      have ended := touchItem_sheds idled .settings
      exact ended.init.elim (·.trans idle) id
    simp only [State.setScrub_init]
    exact kept _ rfl

/-- An INIT record, applied or passed over, ends an INITIALISE in hand (R187). -/
theorem applyInit_init (head : RecordHead) (s : State) : (applyInit head s).2.init = none := by
  unfold applyInit
  dsimp only
  split
  · rfl
  · exact returnFromInit_init _

end Sys2Proof.Machine
end

section
/-!
SUPPORT. What a request comes to (R173, R174): its judgement takes up no work that owes a reply but the last, so with
its answer, given at once or owed by that work, it adds one reply to those in hand.
-/
namespace Sys2Proof.Machine

/-! ### Judgements that take up no work -/

/-- A judgement takes up no work that owes a reply, whether it goes on or refuses the request. -/
def Judge.Free {α : Type} (x : Judge α) : Prop := ∀ s, Sheds s (x.leaves s)

section
variable {α β : Type}

theorem Judge.Free.bind {x : Judge α} {f : α → Judge β} (hx : x.Free) (hf : ∀ a, (f a).Free) : (x >>= f).Free := by
  intro s
  have first := hx s
  rw [Judge.leaves_bind]
  unfold Judge.leaves at first
  cases e : x.run s with
  | ok a t =>
    rw [e] at first
    exact first.trans (hf a t)
  | error r t =>
    rw [e] at first
    exact first

theorem free_pure (a : α) : Judge.Free (pure a) := .refl

theorem free_throw (e : ResultCode × ReplyBody) : Judge.Free (throw e : Judge α) := .refl

theorem free_get : Judge.Free get := .refl

theorem free_modify {f : State → State} (hf : ∀ s, Sheds s (f s)) : Judge.Free (modify f) := hf

theorem free_read {f : State → State} (hf : ∀ s, SameBut s (f s)) : Judge.Free (modify f) := fun s => (hf s).sheds

/-- The state seen is replaced by one made from it. -/
theorem free_replace {f : State → State} {g : State → Judge β} (hf : ∀ s, Sheds s (f s)) (hg : ∀ s, (g s).Free) :
    (get >>= fun s => set (f s) >>= fun _ => g s).Free := fun s => (hf s).trans (hg s (f s))

theorem free_needWith (b : Bool) (r : ResultCode) (body : ReplyBody) : (needWith b r body).Free := by
  cases b
  · exact free_throw _
  · exact free_pure _

theorem free_need (b : Bool) (r : ResultCode) : (need b r).Free := free_needWith b r .empty

theorem free_check (p : State → Bool) (r : ResultCode) : (check p r).Free := free_get.bind fun _ => free_need _ _

theorem free_readItem (i : SysItem) : (readItem i).Free :=
  free_get.bind fun _ => (free_read (touchItem_same i)).bind fun _ => free_need _ _

theorem free_readAccount (slot : Nat) : (readAccount slot).Free := by
  refine (free_readItem _).bind fun _ => (free_check _ _).bind fun _ => free_get.bind fun _ =>
    (free_read (readSlot_same slot)).bind fun _ => ?_
  split
  · exact free_pure _
  · exact free_throw _

theorem free_lookupMeter (meter : Nat) : (lookupMeter meter).Free := by
  refine (free_read (readWords_same _)).bind fun _ => (free_check _ _).bind fun _ =>
    (free_read fun s => readWords_same _ s).bind fun _ => (free_check _ _).bind fun _ => free_get.bind fun _ => ?_
  split
  · exact free_throw _
  · split
    · exact free_pure _
    · exact (free_readAccount _).bind fun _ => free_throw _

theorem free_needAdmission : needAdmission.Free := by
  refine free_get.bind fun _ => ?_
  split
  · exact free_throw _
  · exact free_pure _

theorem free_needIndex : needIndex.Free := (free_read (readWords_same _)).bind fun _ => free_check _ _

theorem free_searchIndex (meter : Nat) : (searchIndex meter).Free :=
  (free_read fun s => readWords_same _ s).bind fun _ => free_check _ _

theorem free_needNewNumber (meter : Nat) : (needNewNumber meter).Free :=
  (free_searchIndex _).bind fun _ => (free_check _ _).bind fun _ => free_check _ _

theorem free_namedAccount (meter : Nat) : (namedAccount meter).Free :=
  (free_check _ _).bind fun _ => (free_check _ _).bind fun _ => (free_lookupMeter _).bind fun _ =>
    (free_readAccount _).bind fun _ => (free_check _ _).bind fun _ => free_pure _

theorem free_takeFreeSlot : takeFreeSlot.Free := by
  refine (free_readItem _).bind fun _ => free_replace (fun s => (searchFree_same _ _ s).sheds) fun s => ?_
  split
  · exact free_pure _
  · exact free_throw _

theorem free_needLoadIndex (slot meter : Nat) : (needLoadIndex slot meter).Free :=
  free_needIndex.bind fun _ => (free_searchIndex _).bind fun _ => (free_check _ _).bind fun _ =>
    (free_check _ _).bind fun _ =>
      ((free_read fun s => readWords_same _ s).bind fun _ => free_check _ _).bind fun _ => free_check _ _

theorem free_lookupAccount (t : Fin 8) (meter : Nat) : (lookupAccount t meter).Free :=
  (free_check _ _).bind fun _ => (free_check _ _).bind fun _ => (free_check _ _).bind fun _ =>
    (free_lookupMeter _).bind fun _ => (free_readAccount _).bind fun _ => free_pure _

theorem free_needLastSale (a : Account) : (needLastSale a).Free := by
  unfold needLastSale
  split
  · exact free_throw _
  · exact (free_need _ _).bind fun _ => free_pure _

theorem free_needReissue (l : LastSale) : (needReissue l).Free := (free_readItem _).bind fun _ => free_check _ _

theorem free_quoteAccount (t : Fin 8) (meter : Nat) : (quoteAccount t meter).Free :=
  (free_lookupMeter _).bind fun _ => (free_readAccount _).bind fun _ => (free_need _ _).bind fun _ =>
    (free_check _ _).bind fun _ => free_pure _

theorem free_quoteBank (tariffClass : Nat) : (quoteBank tariffClass).Free := by
  refine (free_readItem _).bind fun _ => free_get.bind fun _ => ?_
  split
  · exact free_throw _
  · exact (free_need _ _).bind fun _ => free_pure _

theorem free_quotePlan (mode : SaleMode) (a : Account) : (quotePlan mode a).Free := by
  refine free_get.bind fun _ => ?_
  split
  · exact free_throw _
  · exact free_pure _

theorem free_quoteCredit (t : Fin 8) (r : QuoteReq) (a : Account) (bank : TariffBank) :
    (quoteCredit t r a bank).Free := by
  refine (free_readItem _).bind fun _ => free_get.bind fun _ => ?_
  dsimp only
  split
  · exact free_throw _
  · exact free_pure _

/-! ### Answers -/

/-- The replies in hand once a judgement is answered, `n` of them by an answer given at once. -/
def answeredLoad (n : Nat) : EStateM.Result (ResultCode × ReplyBody) State Answer → Nat
  | .ok (.now _) s => replyLoad s + n
  | .ok .later s => replyLoad s
  | .error _ s => replyLoad s + n

/-- A judgement adds at most `n` to the replies in hand, with an answer at once or with work that owes one later. -/
def Judge.Answers (n : Nat) (x : Judge Answer) : Prop := ∀ s, answeredLoad n (x.run s) ≤ replyLoad s + n

section
variable {n : Nat}

theorem Judge.Free.then {x : Judge α} {f : α → Judge Answer} (hx : x.Free) (hf : ∀ a, (f a).Answers n) :
    (x >>= f).Answers n := by
  intro s
  have first := (hx s).replyLoad_le
  rw [judge_bind]
  unfold Judge.leaves at first
  cases e : x.run s with
  | ok a t =>
    rw [e] at first
    exact (hf a t).trans (Nat.add_le_add_right first n)
  | error r t =>
    rw [e] at first
    exact Nat.add_le_add_right first n

theorem answers_now (body : ReplyBody) : Judge.Answers n (pure (.now body)) := fun _ => le_rfl

theorem answers_throw (e : ResultCode × ReplyBody) : Judge.Answers n (throw e) := fun _ => le_rfl

/-- The work that a request becomes. -/
theorem answers_later {f : State → State} (hf : ∀ s, replyLoad (f s) ≤ replyLoad s + n) :
    Judge.Answers n (modify f >>= fun _ => pure .later) := hf

end

/-- A sale found wanting at its confirm is released and the confirm refused, whatever it had yet to do. -/
theorem answers_releaseRefuse {n : Nat} (t : Fin 8) (r : ResultCode) (body : ReplyBody) (f : Unit → Judge Answer) :
    (releaseRefuse t r body >>= f).Answers n :=
  fun s => Nat.add_le_add_right (releaseSale_sheds (.refl s) t).replyLoad_le n

theorem answers_journaled (o : Owner) (body : RecordBody) (figures : Figures) : (journaled o body figures).Answers 1 :=
  free_needAdmission.then fun _ => answers_later fun s => (replyLoad_queueRecord _ _ _ _ true s).le

end

/-! ### The owning blocks that answer at once -/

section
variable {n : Nat} (o : Owner)

theorem answers_ownStatus (x : Unit) : (ownStatus o x).Answers n :=
  (free_read (readWords_same _)).then fun _ => free_get.then fun _ => answers_now _

theorem answers_ownClockRead (x : Unit) : (ownClockRead o x).Answers n := free_get.then fun _ => answers_now _

theorem answers_ownSettingsRead (x : Unit) : (ownSettingsRead o x).Answers n :=
  (free_readItem _).then fun _ => free_get.then fun _ => answers_now _

theorem answers_ownIntegrityRead (x : Unit) : (ownIntegrityRead o x).Answers n :=
  (free_read fun s => (((touchItem_same _ s).trans (touchItem_same _ _)).trans (touchItem_same _ _)).trans
    (readWords_same _ _)).then fun _ => free_get.then fun _ => answers_now _

theorem answers_ownIntegrityClear (x : Unit) : (ownIntegrityClear o x).Answers n :=
  (free_check _ _).then fun _ => (free_readItem _).then fun _ => (free_readItem _).then fun _ =>
    (free_read (storeItems_same _ _)).then fun _ => answers_now _

theorem answers_ownAccountRead (a : AccountName) : (ownAccountRead o a).Answers n := by
  have named : (nameSlot a).Free := by
    cases a with
    | meter m => exact free_lookupMeter m
    | slot m => exact free_pure m
  refine (free_check _ _).then fun _ => named.then fun _ => (free_readAccount _).then fun _ => free_get.then fun _ => ?_
  split <;> exact answers_now _

theorem answers_ownRebuild (x : Unit) : (ownRebuild o x).Answers n :=
  (free_check _ _).then fun _ => (free_readItem _).then fun _ s => Nat.add_le_add_right
    ((emptyIndex_same s).trans (rebuildFrom_same 16384 0 { passed := 0, state := emptyIndex s })).sheds.replyLoad_le n

theorem answers_ownTariffRead (pending : Bool) : (ownTariffRead o pending).Answers n :=
  free_get.then fun _ => (free_read fun s => SameBut.foldl (fun u i => touchItem_same i u) _ s).then fun _ =>
    (free_need _ _).then fun _ => free_get.then fun _ => (free_needWith _ _ _).then fun _ =>
      (free_needWith _ _ _).then fun _ => answers_now _

theorem answers_ownKeyList (x : Unit) : (ownKeyList o x).Answers n :=
  (free_check _ _).then fun _ => free_get.then fun _ => answers_now _

theorem answers_ownTamperClear (x : Unit) : (ownTamperClear o x).Answers n :=
  (free_check _ _).then fun _ => (free_modify fun s => (Sheds.refl s).setSecure _).then fun _ => answers_now _

theorem answers_ownShiftResume (operator : Nat) : (ownShiftResume o operator).Answers n :=
  (free_check _ _).then fun _ => (free_check _ _).then fun _ => (free_read (writeTerm_same _ _)).then fun _ =>
    (free_modify fun s => restartIdle_sheds (.refl s) _).then fun _ => free_get.then fun _ => answers_now _

theorem answers_ownShiftRead (target : Fin 8) : (ownShiftRead o target).Answers n :=
  (free_check _ _).then fun _ => (free_readItem _).then fun _ => free_get.then fun _ => answers_now _

theorem answers_ownReserveRead (x : Unit) : (ownReserveRead o x).Answers n :=
  (free_check _ _).then fun _ => (free_readItem _).then fun _ => (free_readItem _).then fun _ =>
    free_get.then fun _ => answers_now _

theorem answers_ownJournalRelease (m : Nat) : (ownJournalRelease o m).Answers n :=
  (free_check _ _).then fun _ => (free_check _ _).then fun _ =>
    (free_modify fun s => setPointers_sheds (.refl s) _ _).then fun _ => free_get.then fun _ => answers_now _

theorem answers_ownQuote (r : QuoteReq) : (ownQuote o r).Answers n :=
  (free_check _ _).then fun _ => (free_check _ _).then fun _ => (free_check _ _).then fun _ =>
    (free_quoteAccount _ _).then fun _ => (free_quoteBank _).then fun _ => (free_quotePlan _ _).then fun _ =>
      (free_quoteCredit _ _ _ _).then fun _ => (free_check _ _).then fun _ => (free_readItem _).then fun _ =>
        free_get.then fun _ =>
          (free_modify fun s => setSale_sheds ((releaseSale_sheds (.refl s) _).setSetAsides _) _ _).then fun _ =>
            answers_now _

theorem answers_ownCancel (x : Unit) : (ownCancel o x).Answers n := by
  unfold ownCancel
  refine free_get.then fun _ => ?_
  split
  · exact answers_throw _
  · exact (free_need _ _).then fun _ => (free_modify fun s => releaseSale_sheds (.refl s) _).then fun _ => answers_now _

end

/-! ### The owning blocks that queue a record -/

section
variable (o : Owner)

theorem answers_ownClockSet (reading : Nat) : (ownClockSet o reading).Answers 1 :=
  (free_check _ _).then fun _ => (free_check _ _).then fun _ => free_get.then fun _ =>
    (free_needWith _ _ _).then fun _ => answers_journaled _ _ _

theorem answers_ownSettingsSet (c : SettingsChange) : (ownSettingsSet o c).Answers 1 :=
  (free_need _ _).then fun _ => (free_check _ _).then fun _ => answers_journaled _ _ _

theorem answers_ownCreate (a : NewAccount) : (ownCreate o a).Answers 1 :=
  (free_check _ _).then fun _ => (free_check _ _).then fun _ => free_needIndex.then fun _ =>
    (free_needNewNumber _).then fun _ => free_takeFreeSlot.then fun _ => (free_check _ _).then fun _ =>
      answers_journaled _ _ _

theorem answers_ownEdit (r : Nat × AccountEdit) : (ownEdit o r).Answers 1 :=
  (free_namedAccount _).then fun _ => answers_journaled _ _ _

theorem answers_ownClose (meter : Nat) : (ownClose o meter).Answers 1 :=
  (free_namedAccount _).then fun _ => (free_needWith _ _ _).then fun _ => answers_journaled _ _ _

theorem answers_ownReplace (r : ReplaceReq) : (ownReplace o r).Answers 1 :=
  (free_namedAccount _).then fun _ => (free_needNewNumber _).then fun _ => (free_check _ _).then fun _ =>
    answers_journaled _ _ _

theorem answers_ownRekey (meter : Nat) : (ownRekey o meter).Answers 1 :=
  (free_namedAccount _).then fun _ => answers_journaled _ _ _

theorem answers_ownLoad (r : LoadReq) : (ownLoad o r).Answers 1 := by
  refine (free_check _ _).then fun _ => (free_check _ _).then fun _ => (free_check _ _).then fun _ =>
    (free_check _ _).then fun _ => ?_
  dsimp only
  split
  · exact (free_needLoadIndex _ _).then fun _ => answers_journaled _ _ _
  · exact answers_journaled _ _ _

theorem answers_ownTariffLoad (r : TariffLoadReq) : (ownTariffLoad o r).Answers 1 := by
  refine (free_check _ _).then fun _ => (free_check _ _).then fun _ => ?_
  split
  · exact answers_throw _
  · exact (free_readItem _).then fun _ => free_get.then fun _ => (free_check _ _).then fun _ => answers_journaled _ _ _

theorem answers_ownKeyLoad (r : KeyLoadReq) : (ownKeyLoad o r).Answers 1 := by
  refine (free_check _ _).then fun _ => (free_check _ _).then fun _ => (free_check _ _).then fun _ =>
    (free_check _ _).then fun _ => (free_check _ _).then fun _ => (free_check _ _).then fun _ =>
      free_get.then fun _ => ?_
  split
  · exact answers_throw _
  · exact answers_journaled _ _ _

theorem answers_ownKeyRetire (r : Nat × Nat) : (ownKeyRetire o r).Answers 1 := by
  refine (free_check _ _).then fun _ => (free_check _ _).then fun _ => free_get.then fun _ => ?_
  split
  · exact answers_throw _
  · exact (free_check _ _).then fun _ => answers_journaled _ _ _

theorem answers_ownTerminalSet (r : Fin 8 × Role) : (ownTerminalSet o r).Answers 1 :=
  (free_need _ _).then fun _ => (free_check _ _).then fun _ => (free_readItem _).then fun _ =>
    (free_check _ _).then fun _ => answers_journaled _ _ _

theorem answers_ownGrant (v : Voucher) : (ownGrant o v).Answers 1 :=
  (free_check _ _).then fun _ => (free_check _ _).then fun _ => (free_check _ _).then fun _ =>
    (free_check _ _).then fun _ => (free_readItem _).then fun _ => free_get.then fun _ =>
      (free_needWith _ _ _).then fun _ => (free_needWith _ _ _).then fun _ => answers_journaled _ _ _

theorem answers_ownShiftOpen (operator : Nat) : (ownShiftOpen o operator).Answers 1 := by
  refine (free_check _ _).then fun _ => free_get.then fun _ => ?_
  dsimp only
  split
  · exact (free_read (writeTerm_same _ _)).then fun _ =>
      (free_modify fun s => restartIdle_sheds (.refl s) _).then fun _ => answers_now _
  · exact (free_check _ _).then fun _ => free_needAdmission.then fun _ =>
      answers_later fun s => (replyLoad_queueRecord _ _ _ _ true s).le

theorem answers_ownShiftClose (target : Fin 8) : (ownShiftClose o target).Answers 1 :=
  (free_check _ _).then fun _ => (free_readItem _).then fun _ => (free_check _ _).then fun _ =>
    (free_check _ _).then fun _ => free_needAdmission.then fun _ => free_get.then fun _ s =>
      (holdIdle_sheds (.refl _) target).replyLoad_le.trans (replyLoad_queueRecord _ _ _ _ true s).le

theorem replyLoad_acceptConfirm (p : PendingSale) (s : State) : replyLoad (acceptConfirm o p s) ≤ replyLoad s + 1 :=
  (holdIdle_sheds (setSale_sheds (.refl _) _ _) _).replyLoad_le.trans (replyLoad_queueRecord _ _ _ _ true s).le

theorem answers_ownConfirm (x : Unit) : (ownConfirm o x).Answers 1 := by
  unfold ownConfirm
  refine free_get.then fun _ => ?_
  split
  · exact answers_throw _
  · refine (free_need _ _).then fun _ => (free_check _ _).then fun _ => (free_readItem _).then fun _ =>
      free_get.then fun _ => ?_
    split
    · exact answers_releaseRefuse _ _ _ _
    · refine (free_readItem _).then fun _ => free_get.then fun _ => ?_
      split
      · exact answers_releaseRefuse _ _ _ _
      · exact free_needAdmission.then fun _ => answers_later (replyLoad_acceptConfirm o _)

/-! ### The owning blocks whose work waits for the arbiter -/

theorem lookupOwes_le (l : Option Lookup) : lookupOwes l ≤ 1 := Bool.toNat_le _

theorem replyLoad_startRead (t : Fin 8) (l : Lookup) (reads : List (Fin 8)) (s : State) :
    replyLoad ((setLookup t (some l) s).setReads reads) ≤ replyLoad s + 1 := by
  have swapped := replyLoad_setLookup t (some l) s
  have one := lookupOwes_le (some l)
  have noMore := ((Sheds.refl (setLookup t (some l) s)).setReads reads).replyLoad_le
  omega

theorem answers_ownReissue (meter : Nat) : (ownReissue o meter).Answers 1 :=
  (free_lookupAccount _ _).then fun _ => (free_needLastSale _).then fun _ => (free_needReissue _).then fun _ =>
    (free_check _ _).then fun _ => (free_check _ _).then fun _ => answers_later fun s => replyLoad_startRead _ _ _ s

theorem answers_ownReverse (meter : Nat) : (ownReverse o meter).Answers 1 :=
  (free_lookupAccount _ _).then fun _ => (free_needLastSale _).then fun _ =>
    ((free_readItem _).bind fun _ => free_check _ _).then fun _ => (free_need _ _).then fun _ =>
      (free_check _ _).then fun _ => (free_check _ _).then fun _ => (free_check _ _).then fun _ =>
        answers_later fun s => replyLoad_startRead _ _ _ s

theorem answers_ownJournalRead (r : Nat × Nat) : (ownJournalRead o r).Answers 1 := by
  have info (p : State → Bool) (c : ResultCode) : (needInfo p c).Free :=
    free_get.bind fun _ => free_needWith _ _ _
  exact (free_read fun s => (touchItem_same _ s).trans (touchItem_same _ _)).then fun _ => (info _ _).then fun _ =>
    (info _ _).then fun _ => (info _ _).then fun _ => (info _ _).then fun _ =>
      answers_later fun s => replyLoad_startRead _ _ _ s

theorem answers_ownJournalRetry (x : Unit) : (ownJournalRetry o x).Answers 1 := by
  have entered (w : RetryWork) (s : State) : replyLoad (s.setRetry (some w)) ≤ replyLoad s + 1 := by
    have swapped := replyLoad_setRetry (some w) s
    have one : retryOwes (some w) ≤ 1 := Bool.toNat_le _
    omega
  exact (free_check _ _).then fun _ => (free_check _ _).then fun _ => (free_check _ _).then fun _ =>
    answers_later fun s => (holdIdle_sheds (.refl _) _).replyLoad_le.trans (entered _ s)

theorem stopIdle_lookup (w : TermWork) : (stopIdle w).lookup = w.lookup := by
  unfold stopIdle
  split <;> rfl

/-- An INITIALISE owes its own reply where its record is written outside the queue. -/
theorem replyLoad_acceptInit (w : InitWork) (s : State) :
    replyLoad (acceptInit w s) ≤ replyLoad s + initOwes (some w) := by
  have stopped := (mapTerms_sheds (.refl s) stopIdle_lookup).replyLoad_le
  have swapped := replyLoad_setInit (some w) (s.setTerms (s.terms.map stopIdle))
  have begun := ((Sheds.refl ((s.setTerms (s.terms.map stopIdle)).setInit (some w))).setMode
    (.starting .initialising)).replyLoad_le
  unfold acceptInit
  omega

/-- What follows a check is judged on the state that passed it. -/
theorem answered_after_need {n : Nat} {b : Bool} {r : ResultCode} {f : Unit → Judge Answer} {s : State}
    (goes : answeredLoad n ((f ()).run s) ≤ replyLoad s + n) :
    answeredLoad n ((need b r >>= f).run s) ≤ replyLoad s + n := by
  rw [judge_bind, need_run]
  cases b
  · exact le_rfl
  · exact goes

theorem answers_ownInitialise (x : Unit) : (ownInitialise o x).Answers 1 := by
  intro s
  unfold ownInitialise
  rw [then_get]
  split
  · exact answered_after_need (replyLoad_acceptInit (initWork o true none s) s)
  · have queued := replyLoad_queueRecord o (headNow o.terminal s) (.init .initialise) .none true (releaseOldest s).2
    have released := (releaseOldest_sheds (.refl s)).replyLoad_le
    have entered := replyLoad_acceptInit (initWork o false (releaseOldest s).1 s)
      (queueRecord o (headNow o.terminal s) (.init .initialise) .none true (releaseOldest s).2)
    exact answered_after_need (b := admitEntry s) (answered_after_need
      (entered.trans (queued.le.trans (Nat.add_le_add_right released 1))))

end

/-! ### The ends of lookups (R84, R86, R88) -/

theorem answers_queueVend (t : Fin 8) (v : VendLookup) (body : RecordBody) (figures : Figures) :
    (queueVend t v body figures).Answers v.replyDue.toNat :=
  (free_readItem _).then fun _ => free_needAdmission.then fun _ =>
    answers_later fun s => (replyLoad_queueRecord _ _ _ _ _ s).le

/-- The record queued at a lookup's end owes the reply that the lookup owed. -/
theorem answers_vendEnd (t : Fin 8) (v : VendLookup) (found : Option SaleBody) :
    (vendEnd t v found).Answers v.replyDue.toNat := by
  unfold vendEnd
  split
  · exact answers_throw _
  · split
    · exact (free_readAccount _).then fun _ => (free_needLastSale _).then fun _ => (free_needReissue _).then fun _ =>
        (free_check _ _).then fun _ => (free_need _ _).then fun _ => answers_queueVend _ _ _ _
    · exact (free_readAccount _).then fun _ => (free_needLastSale _).then fun _ => (free_need _ _).then fun _ =>
        (free_check _ _).then fun _ => (free_need _ _).then fun _ => (free_need _ _).then fun _ =>
          (free_readItem _).then fun _ => (free_check _ _).then fun _ => answers_queueVend _ _ _ _

/-! ### The entry of a reply, and the dispatcher (R172, R173) -/

theorem replyLoad_pushReply (k t : Byte) (tag : Tag) (r : ResultCode) (body : ReplyBody) (s : State) :
    replyLoad (pushReply k t tag r body s) ≤ replyLoad s + 1 := by
  have read := (touchForFlags_same s).sheds.replyLoad_le
  have entered (x : Reply) (u : State) : replyLoad (setOverflow false (u.setTx (u.tx ++ [x]))) = replyLoad u + 1 := by
    simp only [replyLoad_eq, setOverflow, State.setLine_tx, State.setLine_queue, State.setLine_terms,
      State.setLine_retry, State.setLine_init, State.setTx_tx, State.setTx_queue, State.setTx_terms, State.setTx_retry,
      State.setTx_init, List.length_append, List.length_singleton]
    omega
  exact (entered _ _).le.trans (Nat.add_le_add_right read 1)

theorem replyLoad_replyIf (due : Bool) (k : Byte) (t : Fin 8) (tag : Tag) (r : ResultCode) (body : ReplyBody)
    (s : State) : replyLoad (replyIf due k t tag r body s) ≤ replyLoad s + due.toNat := by
  cases due
  · exact le_rfl
  · exact replyLoad_pushReply _ _ _ _ _ s

theorem replyLoad_conclude (k t : Byte) (tag : Tag) (x : EStateM.Result (ResultCode × ReplyBody) State Answer) :
    replyLoad (conclude k t tag x) ≤ answeredLoad 1 x := by
  unfold conclude answeredLoad
  split
  · exact replyLoad_pushReply _ _ _ _ _ _
  · exact le_rfl
  · exact replyLoad_pushReply _ _ _ _ _ _

/-- A frame is taken only while the replies in hand leave room for one more (R173). -/
theorem room_of_mayTake {s : State} (may : mayTake s = true) : replyLoad s + 1 ≤ 16 := by
  have free : repliesOwed s + 1 ≤ freeReplies s := by
    simp only [mayTake, Bool.and_eq_true, decide_eq_true_eq] at may
    exact may.2
  unfold freeReplies at free
  unfold replyLoad
  omega

/-- A request that is taken comes to one reply more, and else to none (R173). -/
theorem takeRequest_fits {α : Type} {k : Kind} {parse : List Byte → Option α} {own : Owner → α → Judge Answer}
    (owner : ∀ o a, (own o a).Answers 1) {s : State} (fits : RepliesFit s) :
    RepliesFit (takeRequest k parse own s) := by
  have judged (o : Owner) (body : List Byte) : (judge k parse own o body).Answers 1 := by
    refine free_get.then fun _ => free_get.then fun _ =>
      (free_modify fun s => restartIdle_sheds (.refl s) _).then fun _ => (free_need _ _).then fun _ =>
        (free_check _ _).then fun _ => (free_check _ _).then fun _ => ?_
    split
    · exact answers_throw _
    · exact owner _ _
  have answered (f : List Byte) : replyLoad (answerFrame k parse own f (takeFrame s)) ≤ replyLoad s + 1 := by
    unfold answerFrame
    split
    · exact replyLoad_pushReply _ _ _ _ _ _
    · split
      · exact replyLoad_pushReply _ _ _ _ _ _
      · exact (replyLoad_conclude _ _ _ _).trans (judged _ _ (takeFrame s))
  rw [repliesFit_iff] at fits ⊢
  unfold takeRequest
  split
  · exact fits
  · split
    · rename_i taken
      exact (answered _).trans (room_of_mayTake (Bool.and_eq_true_iff.mp taken).1)
    · exact fits

end Sys2Proof.Machine
end

section
/-!
SUPPORT. The law of the receive buffer and of PAUSE (R168 to R170) through every event of the line, and through the
requests, which only take a frame from it.
-/
namespace Sys2Proof.Machine

/-! ### The law of the line -/

/-- The bounds of the receive buffer (R168, R169). -/
structure LineState.Fits (l : LineState) : Prop where
  frames : l.arrived.length ≤ 4
  bytes : l.used ≤ 2048
  waiting : l.reception.isSome → l.arrived.length ≤ 3
  content : ∀ r, l.reception = some r → r.content.length ≤ 486

/-- The law of the statement: the buffer within its bounds, and PAUSE as the buffer demands. -/
def LineLawful (s : State) : Prop := BufferFits s ∧ PauseJudged s

theorem bufferFits_iff {s : State} : BufferFits s ↔ s.line.Fits :=
  ⟨fun ⟨frames, bytes, waiting, content⟩ => ⟨frames, bytes, waiting, content⟩,
    fun h => ⟨h.frames, h.bytes, h.waiting, h.content⟩⟩

/-- The law does not look at LINK_OVERFLOW, the timers or the state of the line. -/
theorem LineLawful.of_buffer {s t : State} (h : LineLawful s) (reception : t.line.reception = s.line.reception)
    (arrived : t.line.arrived = s.line.arrived) (pause : t.line.pause = s.line.pause) : LineLawful t := by
  have used : t.line.used = s.line.used := by rw [LineState.used, LineState.used, arrived, reception]
  unfold LineLawful BufferFits PauseJudged LineState.free at h ⊢
  rwa [used, arrived, reception, pause]

/-- A buffer within its bounds has the law once PAUSE is judged. -/
theorem lineLawful_judgePause {l : LineState} (h : l.Fits) (s : State) : LineLawful (s.setLine l.judgePause) := by
  refine ⟨⟨h.frames, h.bytes, h.waiting, h.content⟩, ?_, ?_⟩
  · exact fun demanded => if_pos demanded
  · intro few (room : 1024 ≤ l.free)
    have few : l.arrived.length ≤ 1 := few
    have undemanded : ¬ (3 ≤ l.arrived.length ∨ l.free < 512) := by omega
    exact (if_neg undemanded).trans (if_pos ⟨few, room⟩)

/-! ### The events of the line -/

section
variable {l : LineState} (h : l.Fits)
include h

theorem dropReception_used_le : l.dropReception.used ≤ 2048 := by
  have bytes := h.bytes
  simp only [LineState.used, LineState.dropReception] at bytes ⊢
  omega

theorem dropReception_fits : l.dropReception.Fits := ⟨h.frames, dropReception_used_le h, nofun, nofun⟩

theorem overflowed_fits : l.overflowed.Fits :=
  have bytes := dropReception_used_le h
  ⟨h.frames, bytes, nofun, nofun⟩

theorem startByte_fits : l.startByte.Fits := by
  unfold LineState.startByte
  split_ifs with full
  · exact overflowed_fits h
  · have bytes := dropReception_used_le h
    refine ⟨h.frames, bytes, fun _ => Nat.le_of_lt_succ (Nat.lt_of_not_le full), ?_⟩
    rintro r ⟨⟩
    exact Nat.zero_le _

theorem contentByte_fits {r : Reception} (receiving : l.reception = some r) (b : Byte) : (l.contentByte b r).Fits := by
  unfold LineState.contentByte
  split_ifs with overflow long
  · exact overflowed_fits h
  · exact dropReception_fits h
  · have used : l.used = (l.arrived.map List.length).sum + r.content.length := by rw [LineState.used, receiving]
    refine ⟨h.frames, ?_, fun _ => h.waiting (by rw [receiving]; rfl), ?_⟩
    · simp only [LineState.used, List.length_append, List.length_singleton]
      omega
    · rintro _ ⟨⟩
      simp only [List.length_append, List.length_singleton]
      omega

theorem heldEscape_fits {r : Reception} (receiving : l.reception = some r) :
    ({ l with reception := some { r with escape := true }, gap := some 50 } : LineState).Fits := by
  have bytes := h.bytes
  rw [LineState.used, receiving] at bytes
  refine ⟨h.frames, bytes, fun _ => h.waiting (by rw [receiving]; rfl), ?_⟩
  rintro _ ⟨⟩
  exact h.content r receiving

/-- A frame in reception becomes the last of those waiting, with the bytes that it had. -/
theorem arrivedFrame_fits {r : Reception} (receiving : l.reception = some r) :
    ({ l.dropReception with arrived := l.arrived ++ [r.content] } : LineState).Fits := by
  have waiting := h.waiting (by rw [receiving]; rfl)
  have bytes := h.bytes
  rw [LineState.used, receiving] at bytes
  refine ⟨?_, ?_, nofun, nofun⟩
  · simp only [List.length_append, List.length_singleton]
    omega
  · simpa [LineState.used, LineState.dropReception] using bytes

end

section
variable {s : State} (h : LineLawful s)
include h

theorem LineLawful.fits : s.line.Fits := bufferFits_iff.mp h.1

theorem takeByte_lawful (b : Byte) : LineLawful (s.setLine (s.line.takeByte b)) := by
  unfold LineState.takeByte
  split
  · exact lineLawful_judgePause (startByte_fits h.fits) s
  · split
    · exact h
    · split_ifs
      · exact lineLawful_judgePause (contentByte_fits h.fits (by assumption) _) s
      · exact lineLawful_judgePause (heldEscape_fits h.fits (by assumption)) s
      · exact lineLawful_judgePause (contentByte_fits h.fits (by assumption) _) s

theorem takeEnd_lawful : LineLawful (s.setLine s.line.takeEnd) := by
  unfold LineState.takeEnd
  split
  · exact h
  · split_ifs
    · exact lineLawful_judgePause (arrivedFrame_fits h.fits (by assumption)) s
    · exact lineLawful_judgePause (dropReception_fits h.fits) s

theorem discarded_lawful : LineLawful (s.setLine s.line.dropReception.judgePause) :=
  lineLawful_judgePause (dropReception_fits h.fits) s

/-- The dispatcher takes the oldest frame with its bytes (R168, R170). -/
theorem takeFrame_lawful : LineLawful (takeFrame s) := by
  refine lineLawful_judgePause (l := { s.line with arrived := s.line.arrived.tail }) ?_ s
  have shorter : s.line.arrived.tail.length ≤ s.line.arrived.length := by simp
  have lighter : (s.line.arrived.tail.map List.length).sum ≤ (s.line.arrived.map List.length).sum :=
    ((List.tail_sublist _).map _).sum_le_sum fun _ _ => Nat.zero_le _
  refine ⟨shorter.trans h.fits.frames, ?_, fun receiving => shorter.trans (h.fits.waiting receiving), h.fits.content⟩
  exact (Nat.add_le_add_right lighter _).trans h.fits.bytes

end

/-- An empty buffer, with PAUSE released, has the law. -/
theorem lineLawful_of_empty {s : State} (idle : s.line.reception = none) (empty : s.line.arrived = [])
    (released : s.line.pause = false) : LineLawful s :=
  (show LineLawful State.reset from ⟨reset_bufferFits, reset_pauseJudged⟩).of_buffer idle empty released

/-! ### The requests (R173) -/

theorem judgeStep_line {s t : State} (step : JudgeStep s t) : t.line = s.line := by
  cases step with
  | touch i => exact (touchItem_same i s).sheds.line
  | words p => exact (readWords_same p s).sheds.line
  | damage slot => exact (enterDamage_same slot s).sheds.line
  | entry u f => exact (writeTerm_same u f s).sheds.line
  | released u => exact (releaseSale_sheds (.refl s) u).line
  | quoted u p => exact (releaseSale_sheds (.refl s) u).line
  | pointers head tail => exact (setPointers_sheds (.refl s) head tail).line
  | emptied | live _ _ | cleared | idle _ _ | lookup _ _ | sale _ _ | retry _ | latch | record _ _ _ _ _
  | initialise _ => rfl

theorem pushReply_line (k t : Byte) (tag : Tag) (r : ResultCode) (body : ReplyBody) (s : State) :
    (pushReply k t tag r body s).line = { s.line with overflow := false } :=
  congrArg (fun l : LineState => { l with overflow := false }) (touchForFlags_same s).sheds.line

theorem requestLaw_lineLawful : RequestLaw LineLawful :=
  ⟨fun _ h => takeFrame_lawful h,
    fun _ _ step h =>
      h.of_buffer (by rw [judgeStep_line step]) (by rw [judgeStep_line step]) (by rw [judgeStep_line step]),
    fun _ _ _ _ _ _ h => h.of_buffer (by rw [pushReply_line]) (by rw [pushReply_line]) (by rw [pushReply_line])⟩

end Sys2Proof.Machine
end

section
/-!
SUPPORT. The laws of the line and of its replies through every command (R126, R134, R135, R172, R173): a work item that
ends gives the reply it owed, or gives none, and every other operation leaves both.
-/
namespace Sys2Proof.Machine

/-! ### What ends work that owes a reply -/

/-- No reply more is in hand, and the line has changed in LINK_OVERFLOW at most. -/
structure Settles (s t : State) : Prop where
  line : t.line = { s.line with overflow := t.line.overflow }
  load : replyLoad t ≤ replyLoad s

theorem Settles.trans {s t u : State} (h : Settles s t) (k : Settles t u) : Settles s u :=
  ⟨by rw [k.line, h.line], k.load.trans h.load⟩

theorem Sheds.settles {s t : State} (h : Sheds s t) : Settles s t := ⟨by rw [h.line], h.replyLoad_le⟩

theorem replyIf_line (due : Bool) (k : Byte) (t : Fin 8) (tag : Tag) (r : ResultCode) (body : ReplyBody) (s : State) :
    (replyIf due k t tag r body s).line = { s.line with overflow := (replyIf due k t tag r body s).line.overflow } := by
  cases due
  · rfl
  · exact (pushReply_line _ _ _ _ _ s).trans (by rw [replyIf, if_pos rfl, pushReply_line])

/-- The work item that owed a reply is ended, then nothing that owes another is taken up, and the reply is given. -/
theorem settles_of_answer {s ended t : State} {due : Bool} (line : ended.line = s.line)
    (freed : replyLoad ended + due.toNat = replyLoad s) (sheds : Sheds ended t) (k : Byte) (u : Fin 8) (tag : Tag)
    (r : ResultCode) (body : ReplyBody) : Settles s (replyIf due k u tag r body t) := by
  have given := replyLoad_replyIf due k u tag r body t
  have noMore := sheds.replyLoad_le
  exact ⟨by rw [replyIf_line, sheds.line, line], by omega⟩

section
variable {s : State}

/-! ### The entries of the write queue (R134, R135) -/

/-- The entry at the front of the queue has left it, and is answered. -/
theorem answerEntry_settles {e : QueueEntry} {rest : List QueueEntry} (queue : s.queue = e :: rest) {t : State}
    (sheds : Sheds (s.setQueue s.queue.tail) t) (spoken : Spoken) : Settles s (answerEntry e spoken t) := by
  have left := replyLoad_setQueue_tail queue
  unfold answerEntry
  split
  · exact settles_of_answer (s := s) (ended := s.setQueue s.queue.tail) rfl left sheds _ _ _ _ _
  · exact ⟨by rw [sheds.line]; rfl, sheds.replyLoad_le.trans (by omega)⟩

theorem completeEntry_settles {e : QueueEntry} {rest : List QueueEntry} (queue : s.queue = e :: rest) :
    Settles s (completeEntry e s) :=
  answerEntry_settles queue (endHold_sheds ((applyRecord_sheds (raiseHead_sheds (.refl s)) _ _ _).tail.setBus none) _) _

theorem faultOwner_sheds {o : State} (h : Sheds o s) (e : QueueEntry) : Sheds o (faultOwner e s) := by
  unfold faultOwner
  split
  · exact endHold_sheds (endSale_sheds h _) _
  · exact endHold_sheds (endSale_sheds h _) _
  · exact returnFromInit_sheds h
  · exact endHold_sheds h _

theorem faultEntry_settles {e : QueueEntry} {rest : List QueueEntry} (queue : s.queue = e :: rest) :
    Settles s (faultEntry s e) :=
  answerEntry_settles queue (faultOwner_sheds (.refl _) e) _

/-! ### The fault answers leave the rest of the queue -/

theorem SameBut.queue {t : State} (same : SameBut s t) : t.queue = s.queue := by rw [same]

theorem restartIdle_queue (t : Fin 8) (s : State) : (restartIdle t s).queue = s.queue := by
  have read (i : SysItem) (u : State) := (touchItem_same i u).queue
  unfold restartIdle
  dsimp only
  split_ifs
  · exact read _ s
  · exact read _ s
  · exact (read _ _).trans (read _ s)
  · exact read _ s

theorem endHold_queue (r : Record) (s : State) : (endHold r s).queue = s.queue := by
  unfold endHold
  split
  · exact restartIdle_queue _ s
  · rfl

theorem endSale_queue (h : RecordHead) (s : State) : (endSale h s).queue = s.queue := by
  unfold endSale releaseSale
  repeat' split
  all_goals rfl

theorem returnFromInit_queue (s : State) : (returnFromInit s).queue = s.queue := by
  have idle (u : State) (l : List (Fin 8)) : (l.foldl (fun acc t => restartIdle t acc) u).queue = u.queue := by
    induction l generalizing u with
    | nil => rfl
    | cons t l ih => rw [List.foldl_cons, ih, restartIdle_queue]
  unfold returnFromInit
  split
  · rfl
  · simp only [State.setScrub_queue, (touchItem_same _ _).queue, idle, State.setInit_queue, State.setMode_queue]

theorem answerEntry_queue (e : QueueEntry) (spoken : Spoken) (s : State) :
    (answerEntry e spoken s).queue = s.queue := by
  unfold answerEntry replyIf
  repeat' split
  · exact (touchForFlags_same s).queue
  · rfl
  · rfl

theorem faultEntry_queue_tail (e : QueueEntry) (s : State) : (faultEntry s e).queue = s.queue.tail := by
  unfold faultEntry faultOwner
  rw [answerEntry_queue]
  split
  · rw [endHold_queue, endSale_queue, State.setQueue_queue]
  · rw [endHold_queue, endSale_queue, State.setQueue_queue]
  · rw [returnFromInit_queue, State.setQueue_queue]
  · rw [endHold_queue, State.setQueue_queue]

/-- Each entry of the queue is answered once. -/
theorem faultEntries_settle {l : List QueueEntry} (queue : s.queue = l) : Settles s (l.foldl faultEntry s) := by
  induction l generalizing s with
  | nil => exact (Sheds.refl s).settles
  | cons e l ih =>
    have rest : (faultEntry s e).queue = l := by rw [faultEntry_queue_tail, queue, List.tail_cons]
    exact (faultEntry_settles queue).trans (ih rest)

theorem writeFault_settles (w : BusWrite) (cause : FaultCause) : Settles s (writeFault w cause s) :=
  ((markFault_sheds (.refl s) _ _ _).setBus none).settles.trans (faultEntries_settle rfl)

/-! ### A retry, an INITIALISE and the ends of reads (R84, R137, R139, R186) -/

theorem endRetry_settles {w : RetryWork} (retry : s.retry = some w) (r : ResultCode) (body : ReplyBody) :
    Settles s (endRetry w r body s) := by
  have freed := replyLoad_setRetry none s
  rw [retry] at freed
  exact settles_of_answer (s := s) (ended := s.setRetry none) rfl freed
    (restartIdle_sheds ((Sheds.refl (s.setRetry none)).setBus none) _) _ _ _ _ _

theorem freed_setInit {i : InitWork} (init : s.init = some i) :
    replyLoad (s.setInit none) + (i.outside && i.replyDue).toNat = replyLoad s := by
  have freed := replyLoad_setInit none s
  rwa [init] at freed

theorem abandonInit_settles {i : InitWork} (init : s.init = some i) (r : ResultCode) : Settles s (abandonInit i r s) :=
  settles_of_answer (s := s) (ended := s.setInit none) rfl (freed_setInit init)
    ((returnFromInit_sheds ((Sheds.refl s).setBus none)).ended (returnFromInit_init _)) _ _ _ _ _

theorem completeInit_settles (w : BusWrite) {i : InitWork} (init : s.init = some i) : Settles s (completeInit w i s) :=
  settles_of_answer (s := s) (ended := s.setInit none) rfl (freed_setInit init)
    (((applyInit_sheds (raiseHead_sheds (.refl s)) _).ended (applyInit_init _ _)).setBus none) _ _ _ _ _

theorem endJournalRead_settles {t : Fin 8} {w : JournalReadWork} (lookup : (s.term t).lookup = some (.journalRead w))
    (r : ResultCode) (reads : List PositionView) : Settles s (endJournalRead t w r reads s) := by
  have freed := replyLoad_setLookup t none s
  rw [lookup] at freed
  exact settles_of_answer (s := s) (ended := setLookup t none s) rfl freed
    (touchItem_sheds (touchItem_sheds (.refl _) _) _) _ _ _ _ _

/-- The record that a lookup's end queues owes the reply that the lookup owed, and is queued only when none is given. -/
theorem endLookup_settles {t : Fin 8} {v : VendLookup} (lookup : (s.term t).lookup = some (.vend v))
    (found : Option SaleBody) : Settles s (endLookup t v found s) := by
  have freed := replyLoad_setLookup t none s
  rw [lookup] at freed
  have owed := answers_vendEnd t v found (setLookup t none s)
  have line : ((vendEnd t v found).leaves (setLookup t none s)).line = s.line :=
    (moves_vendEnd t v found _).keeps (P := fun u => u.line = s.line) (fun _ _ step => (judgeStep_line step).trans) rfl
  have inHand := owed.trans freed.le
  unfold Judge.leaves at line
  unfold endLookup concludeVend
  split
  all_goals
    rename_i e
    rw [e] at line inHand
  · exact ⟨by rw [replyIf_line, line], (replyLoad_replyIf _ _ _ _ _ _ _).trans inHand⟩
  · exact ⟨by rw [line], inHand⟩
  · exact ⟨by rw [replyIf_line, line], (replyLoad_replyIf _ _ _ _ _ _ _).trans inHand⟩

/-! ### A record write (R128 to R135) -/

theorem writeDone_settles (w : BusWrite) : Settles s (writeDone w s) := by
  unfold writeDone
  repeat' split
  · exact completeEntry_settles (by assumption)
  · exact ((Sheds.refl s).setBus none).settles
  · exact completeInit_settles w (by assumption)
  · exact ((Sheds.refl s).setBus none).settles
  · exact (endStartUp_sheds (raiseHead_sheds (.refl s))).settles
  · exact (Sheds.refl s).settles
  · exact (Sheds.refl s).settles

theorem SameBut.init {t : State} (same : SameBut s t) : t.init = s.init := by rw [same]

theorem setMark_init (m : Option FaultMark) (s : State) : (setMark m s).init = s.init := by
  unfold setMark
  dsimp only
  rw [(writeItem_same _ _ _).init, State.setCopy_init]

theorem setPointers_init (head tail : Nat) (s : State) : (setPointers head tail s).init = s.init := by
  unfold setPointers
  dsimp only
  rw [(writeItem_same _ _ _).init, State.setCopy_init]

theorem markFault_init (seq pos : Nat) (cause : FaultCause) (s : State) : (markFault seq pos cause s).init = s.init :=
  (writeItem_same .cause _ _).init.trans (setMark_init _ s)

theorem releaseOldest_init (s : State) : (releaseOldest s).2.init = s.init := by
  unfold releaseOldest
  repeat' split
  · exact setPointers_init _ _ s
  · rfl
  · rfl

theorem faultWrite_settles (w : BusWrite) (cause : FaultCause) : Settles s (faultWrite w cause s) := by
  have marked := markFault_sheds (.refl s) w.record.head.seq w.pos cause
  unfold faultWrite
  repeat' split
  · exact writeFault_settles w cause
  · exact endRetry_settles (by assumption) _ _
  · exact ((Sheds.refl s).setBus none).settles
  · exact (endStartUp_sheds (.refl s)).settles
  · exact marked.settles.trans (abandonInit_settles ((markFault_init _ _ _ s).trans (by assumption)) _)
  · exact (marked.setBus none).settles
  · exact (endStartUp_sheds marked).settles

/-! ### The arbiter (R132) -/

theorem grantRead_settles (t : Fin 8) : Settles s (grantRead t s) := by
  unfold grantRead
  repeat' split
  · exact ((Sheds.refl s).setBus _).settles
  · exact endLookup_settles (by assumption) _
  · exact ((Sheds.refl s).setBus _).settles
  · exact endJournalRead_settles (by assumption) _ _
  · exact (Sheds.refl s).settles

theorem grantRetry_settles {w : RetryWork} (retry : s.retry = some w) (probeAck : Bool) :
    Settles s (grantRetry w probeAck s) := by
  unfold grantRetry
  repeat' split
  · exact ((Sheds.refl s).setBus _).settles
  · exact endRetry_settles retry _ _
  · exact endRetry_settles retry _ _

/-- The sequence released at the grant is noted in the INITIALISE, which owes what it owed. -/
theorem noteReleased_settles {i : InitWork} (init : s.init = some i) (released : Option Nat) :
    Settles s ((releaseOldest s).2.setInit (some { i with released := released })) := by
  have sheds := releaseOldest_sheds (.refl s)
  have noted := replyLoad_setInit (some { i with released := released }) (releaseOldest s).2
  rw [releaseOldest_init, init] at noted
  have line : ((releaseOldest s).2.setInit (some { i with released := released })).line = s.line := sheds.line
  exact ⟨by rw [line], (Nat.add_right_cancel noted).le.trans sheds.replyLoad_le⟩

theorem grantInit_settles {i : InitWork} (init : s.init = some i) (reads : SMap ReadGot) :
    Settles s (grantInit i reads s) := by
  have written {u : State} (h : Settles s u) (job : WriteJob) (r : Record) (pos : Nat) :
      Settles s (beginWrite job r pos u) := h.trans ((Sheds.refl u).setBus _).settles
  unfold grantInit grantInitAt
  dsimp only
  repeat' split
  · exact written (Sheds.refl s).settles _ _ _
  · exact abandonInit_settles init _
  · exact written (noteReleased_settles init _) _ _ _
  · exact abandonInit_settles init _
  · exact written ((Sheds.refl s).setCopy _).settles _ _ _

theorem grant_settles (probeAck : Bool) (reads : SMap ReadGot) : Settles s (grant probeAck reads s) := by
  have behind : Settles s (grantBehind probeAck reads s) := by
    unfold grantBehind
    repeat' split
    · exact grantRetry_settles (by assumption) _
    · exact grantInit_settles (by assumption) _
    · exact (Sheds.refl s).settles
    · exact ((Sheds.refl s).setReads _).settles.trans (grantRead_settles _)
    · exact (Sheds.refl s).settles
  unfold grant
  repeat' split
  · exact ((Sheds.refl s).setBus _).settles
  · exact behind
  · exact behind

end

/-! ### The two laws -/

/-- Both laws of the statements go from one state to another. -/
structure KeepsLaws (s t : State) : Prop where
  replies : RepliesFit s → RepliesFit t
  line : LineLawful s → LineLawful t

theorem KeepsLaws.trans {s t u : State} (h : KeepsLaws s t) (k : KeepsLaws t u) : KeepsLaws s u :=
  ⟨k.replies ∘ h.replies, k.line ∘ h.line⟩

theorem Settles.keeps {s t : State} (h : Settles s t) : KeepsLaws s t :=
  ⟨fun fits => repliesFit_iff.mpr (h.load.trans fits),
    fun lawful => lawful.of_buffer (by rw [h.line]) (by rw [h.line]) (by rw [h.line])⟩

theorem Sheds.keeps {s t : State} (h : Sheds s t) : KeepsLaws s t := h.settles.keeps

theorem KeepsLaws.refl (s : State) : KeepsLaws s s := (Sheds.refl s).keeps

/-- An event of the line that keeps the line's law. -/
theorem keeps_setLine {s : State} {v : LineState} (lawful : LineLawful s → LineLawful (s.setLine v)) :
    KeepsLaws s (s.setLine v) := ⟨id, lawful⟩

/-- A command that takes its event only where the event can occur. -/
theorem keeps_whenItCan {s u : State} {b : Bool} (taken : KeepsLaws s u) : KeepsLaws s (if b then u else s) := by
  split_ifs
  · exact taken
  · exact .refl s

section
variable (s : State)

theorem countTick_keeps : KeepsLaws s (countTick s) := by
  have lookup (w : TermWork) : (tickTerm (!starting s) w).lookup = w.lookup := rfl
  have timers := ((mapTerms_sheds (.refl s) lookup).setBus (s.bus.map tickBus)).keeps
  have line (u : State) : KeepsLaws u (u.setLine (tickLine u.line)) :=
    keeps_setLine fun h => h.of_buffer rfl rfl rfl
  exact (timers.trans (line _)).trans ((Sheds.refl _).setScrub (tickScrub (!starting s) s.scrub)).keeps

theorem secondStep_keeps (d : Disturbance) : KeepsLaws s (secondStep d s) := by
  have stepped := (((Sheds.refl s).setClock (stepClock s.powered s.clock)).ofSame (disturb_same d _)).keeps
  unfold secondStep
  dsimp only
  split_ifs
  · exact stepped.trans (countTick_keeps _)
  · exact stepped

theorem tick_keeps : KeepsLaws s (tick s) := by
  unfold tick
  split_ifs
  · exact secondStep_keeps s _
  · exact ((Sheds.refl s).setClock _).keeps.trans (countTick_keeps _)
  · exact .refl s

/-- A supply reset finds no reply, no work and an empty line, and start-up brings none (R180). -/
theorem supplyReset_keeps (r : ResetInputs) : KeepsLaws s (supplyReset r s) := by
  have dark (u : State) : KeepsLaws s (resetVolatile r.strap u) :=
    ⟨fun _ => Nat.zero_le 16, fun _ => lineLawful_of_empty rfl rfl rfl⟩
  refine (dark (cutWrite r.left s)).trans (startUp_sheds (Sheds.ofSame ?_ (disturb_same _ _))).keeps
  split_ifs
  · exact ((Sheds.refl _).setMem _).setDraws _
  · exact .refl _

theorem linkReset_keeps : ∃ u, exec .linkReset s = .next u ∧ KeepsLaws s u := by
  refine ⟨_, rfl, ?_⟩
  split_ifs
  · refine ⟨fun _ => ?_, fun _ => lineLawful_of_empty rfl rfl rfl⟩
    exact (congrArg (0 + ·) (repliesOwed_silenceWork _)).le.trans (Nat.zero_le 16)
  · exact .refl s

/-- The reply at the front of the queue is sent. -/
theorem replySent_keeps : KeepsLaws s (s.setTx s.tx.tail) :=
  ⟨(Nat.add_le_add_right (by simp) (repliesOwed s)).trans, id⟩

/-! ### The commands -/

theorem execBusNak_keeps (left : PageLeft) : ∃ u, exec (.busNak left) s = .next u ∧ KeepsLaws s u := by
  have page (w : BusWrite) := leavePage_sheds (.refl s) w.pos w.record left
  refine ⟨_, rfl, ?_⟩
  dsimp only
  repeat' split
  · exact (page _).keeps.trans (faultWrite_settles _ _).keeps
  · exact ((page _).setBus _).keeps
  · exact .refl s
  · exact .refl s

theorem execWriteStop_keeps (left : PageLeft) : ∃ u, exec (.writeStop left) s = .next u ∧ KeepsLaws s u := by
  refine ⟨_, rfl, ?_⟩
  repeat' split
  · exact ((leavePage_sheds (.refl s) _ _ _).setBus _).keeps
  · exact .refl s
  · exact .refl s

theorem execPollAck_keeps : ∃ u, exec .pollAck s = .next u ∧ KeepsLaws s u := by
  refine ⟨_, rfl, ?_⟩
  repeat' split
  · exact ((Sheds.refl s).setBus _).keeps
  · exact ((Sheds.refl s).setBus _).keeps
  all_goals exact .refl s

theorem execPollLimitExpiry_keeps : ∃ u, exec .pollLimitExpiry s = .next u ∧ KeepsLaws s u := by
  refine ⟨_, rfl, ?_⟩
  repeat' split
  · exact (faultWrite_settles _ _).keeps
  · exact .refl s
  · exact .refl s

theorem execReadBackEnd_keeps (got : ReadGot) : ∃ u, exec (.readBackEnd got) s = .next u ∧ KeepsLaws s u := by
  refine ⟨_, rfl, ?_⟩
  repeat' split
  · exact (writeDone_settles _).keeps
  · exact (faultWrite_settles _ _).keeps
  · exact .refl s
  · exact .refl s

theorem execRetryVoidEnd_keeps (got : ReadGot) : ∃ u, exec (.retryVoidEnd got) s = .next u ∧ KeepsLaws s u := by
  have closed := closeMark_sheds (.refl s)
  refine ⟨_, rfl, ?_⟩
  repeat' split
  · exact closed.keeps.trans (endRetry_settles (closed.retry.trans (by assumption)) _ _).keeps
  · exact (endRetry_settles (by assumption) _ _).keeps
  · exact .refl s
  · exact .refl s

theorem execJournalLookupEnd_keeps (got : ReadGot) :
    ∃ u, exec (.journalLookupEnd got) s = .next u ∧ KeepsLaws s u := by
  have free := ((Sheds.refl s).setBus none).keeps
  refine ⟨_, rfl, ?_⟩
  repeat' split
  · exact free.trans (endLookup_settles (s := freeBus s) (by assumption) _).keeps
  all_goals exact .refl s

theorem execJournalReadEnd_keeps (got : List ReadGot) :
    ∃ u, exec (.journalReadEnd got) s = .next u ∧ KeepsLaws s u := by
  have free := ((Sheds.refl s).setBus none).keeps
  refine ⟨_, rfl, ?_⟩
  repeat' split
  · exact free.trans (endJournalRead_settles (s := freeBus s) (by assumption) _ _).keeps
  all_goals exact .refl s

theorem execStartUpVoidEnd_keeps (got : ReadGot) : ∃ u, exec (.startUpVoidEnd got) s = .next u ∧ KeepsLaws s u := by
  have ended := endStartUp_sheds (.refl s)
  refine ⟨_, rfl, ?_⟩
  repeat' split
  · exact ended.keeps
  · exact .refl s
  · exact (((closeMark_sheds (.refl s)).setBus _).setMode _).keeps
  · exact ended.keeps
  all_goals exact .refl s

theorem execRollForwardRead_keeps (got : ReadGot) : ∃ u, exec (.rollForwardRead got) s = .next u ∧ KeepsLaws s u := by
  refine ⟨_, rfl, ?_⟩
  repeat' split
  · exact (lastRecordRead_sheds (.refl s) _ _).keeps
  · exact .refl s
  · exact (headRead_sheds (.refl s) _ _ _).keeps
  · exact .refl s
  · exact .refl s

theorem execMemoryLossInit_keeps (reads : SMap ReadGot) :
    ∃ u, exec (.memoryLossInit reads) s = .next u ∧ KeepsLaws s u := by
  refine ⟨_, rfl, ?_⟩
  repeat' split
  · exact (journalSpent_sheds (.refl s)).keeps
  · exact (memoryLossAt_sheds (.refl s) _).keeps
  · exact .refl s

theorem execIdleExpiry_keeps (t : Fin 8) : ∃ u, exec (.idleExpiry t) s = .next u ∧ KeepsLaws s u := by
  have suspended : Sheds s (suspendShift t s) := writeTerm_sheds (.refl s) _ _
  have released : Sheds s (releaseQuoted t (suspendShift t s)) := by
    unfold releaseQuoted
    split_ifs
    · exact releaseSale_sheds suspended t
    · exact suspended
  exact ⟨_, rfl, keeps_whenItCan (setIdle_sheds released t _).keeps⟩

theorem execTamperSwitchOpening_keeps (r : ResetInputs) :
    ∃ u, exec (.tamperSwitchOpening r) s = .next u ∧ KeepsLaws s u := by
  have zeroised := ((Sheds.refl s).setEnclosureOpen true).setSecure { zeroise s.secure with tamperLatch := true }
  refine ⟨_, rfl, ?_⟩
  dsimp only
  repeat' split
  · exact .refl s
  · exact zeroised.keeps.trans (supplyReset_keeps _ r)
  · exact zeroised.keeps

theorem execUnknownRequest_keeps : ∃ u, exec .unknownRequest s = .next u ∧ KeepsLaws s u := by
  have answered (k t : Byte) (tag : Tag) (may : mayTake s = true) :
      KeepsLaws s (pushReply k t tag .unknownRequest .empty (takeFrame s)) :=
    ⟨fun _ => (replyLoad_pushReply _ _ _ _ _ _).trans (room_of_mayTake may),
      fun lawful => requestLaw_lineLawful.reply _ _ _ _ _ _ (takeFrame_lawful lawful)⟩
  refine ⟨_, rfl, ?_⟩
  repeat' split
  · exact .refl s
  · rename_i taken
    exact answered _ _ _ (Bool.and_eq_true_iff.mp taken).1
  · exact .refl s

theorem exec_keeps (c : Instr) : ∃ u, exec c s = .next u ∧ KeepsLaws s u := by
  have taken {α : Type} {k : Kind} {parse : List Byte → Option α} {own : Owner → α → Judge Answer}
      (answers : ∀ o a, (own o a).Answers 1) (moves : ∀ o a, (own o a).Moves) :
      KeepsLaws s (takeRequest k parse own s) :=
    ⟨takeRequest_fits answers, requestLaw_lineLawful.takeRequest moves⟩
  cases c with
  | status => exact ⟨_, rfl, taken answers_ownStatus moves_ownStatus⟩
  | clockRead => exact ⟨_, rfl, taken answers_ownClockRead moves_ownClockRead⟩
  | clockSet => exact ⟨_, rfl, taken answers_ownClockSet moves_ownClockSet⟩
  | shiftOpen => exact ⟨_, rfl, taken answers_ownShiftOpen moves_ownShiftOpen⟩
  | shiftClose => exact ⟨_, rfl, taken answers_ownShiftClose moves_ownShiftClose⟩
  | shiftResume => exact ⟨_, rfl, taken answers_ownShiftResume moves_ownShiftResume⟩
  | shiftRead => exact ⟨_, rfl, taken answers_ownShiftRead moves_ownShiftRead⟩
  | terminalSet => exact ⟨_, rfl, taken answers_ownTerminalSet moves_ownTerminalSet⟩
  | quote => exact ⟨_, rfl, taken answers_ownQuote moves_ownQuote⟩
  | confirm => exact ⟨_, rfl, taken answers_ownConfirm moves_ownConfirm⟩
  | cancel => exact ⟨_, rfl, taken answers_ownCancel moves_ownCancel⟩
  | reissue => exact ⟨_, rfl, taken answers_ownReissue moves_ownReissue⟩
  | reverse => exact ⟨_, rfl, taken answers_ownReverse moves_ownReverse⟩
  | accountCreate => exact ⟨_, rfl, taken answers_ownCreate moves_ownCreate⟩
  | accountEdit => exact ⟨_, rfl, taken answers_ownEdit moves_ownEdit⟩
  | accountRead => exact ⟨_, rfl, taken answers_ownAccountRead moves_ownAccountRead⟩
  | accountClose => exact ⟨_, rfl, taken answers_ownClose moves_ownClose⟩
  | meterReplace => exact ⟨_, rfl, taken answers_ownReplace moves_ownReplace⟩
  | accountLoad => exact ⟨_, rfl, taken answers_ownLoad moves_ownLoad⟩
  | rekey => exact ⟨_, rfl, taken answers_ownRekey moves_ownRekey⟩
  | indexRebuild => exact ⟨_, rfl, taken answers_ownRebuild moves_ownRebuild⟩
  | keyLoad => exact ⟨_, rfl, taken answers_ownKeyLoad moves_ownKeyLoad⟩
  | keyRetire => exact ⟨_, rfl, taken answers_ownKeyRetire moves_ownKeyRetire⟩
  | keyList => exact ⟨_, rfl, taken answers_ownKeyList moves_ownKeyList⟩
  | tariffLoad => exact ⟨_, rfl, taken answers_ownTariffLoad moves_ownTariffLoad⟩
  | tariffRead => exact ⟨_, rfl, taken answers_ownTariffRead moves_ownTariffRead⟩
  | grant => exact ⟨_, rfl, taken answers_ownGrant moves_ownGrant⟩
  | reserveRead => exact ⟨_, rfl, taken answers_ownReserveRead moves_ownReserveRead⟩
  | journalRead => exact ⟨_, rfl, taken answers_ownJournalRead moves_ownJournalRead⟩
  | journalRelease => exact ⟨_, rfl, taken answers_ownJournalRelease moves_ownJournalRelease⟩
  | journalRetry => exact ⟨_, rfl, taken answers_ownJournalRetry moves_ownJournalRetry⟩
  | integrityRead => exact ⟨_, rfl, taken answers_ownIntegrityRead moves_ownIntegrityRead⟩
  | integrityClear => exact ⟨_, rfl, taken answers_ownIntegrityClear moves_ownIntegrityClear⟩
  | settingsSet => exact ⟨_, rfl, taken answers_ownSettingsSet moves_ownSettingsSet⟩
  | settingsRead => exact ⟨_, rfl, taken answers_ownSettingsRead moves_ownSettingsRead⟩
  | tamperClear => exact ⟨_, rfl, taken answers_ownTamperClear moves_ownTamperClear⟩
  | initialise => exact ⟨_, rfl, taken answers_ownInitialise moves_ownInitialise⟩
  | unknownRequest => exact execUnknownRequest_keeps s
  | frameArrival => exact ⟨_, rfl, keeps_whenItCan (keeps_setLine takeEnd_lawful)⟩
  | framingError => exact ⟨_, rfl, keeps_whenItCan (keeps_setLine discarded_lawful)⟩
  | gapTimerExpiry => exact ⟨_, rfl, keeps_whenItCan (keeps_setLine discarded_lawful)⟩
  | characterReceived b => exact ⟨_, rfl, keeps_whenItCan (keeps_setLine fun h => takeByte_lawful h b)⟩
  | lineEntersSpacing => exact ⟨_, rfl, keeps_whenItCan (keeps_setLine fun h => h.of_buffer rfl rfl rfl)⟩
  | lineReturnsToMarking => exact ⟨_, rfl, keeps_whenItCan (keeps_setLine fun h => h.of_buffer rfl rfl rfl)⟩
  | replySent => exact ⟨_, rfl, keeps_whenItCan (replySent_keeps s)⟩
  | linkReset => exact linkReset_keeps s
  | secondStep d => exact ⟨_, rfl, secondStep_keeps s d⟩
  | tariffEffective =>
    exact ⟨_, rfl, keeps_whenItCan (takeTariffEffective_sheds ((Sheds.refl s).setClock _)).keeps⟩
  | saleTimerExpiry t => exact ⟨_, rfl, keeps_whenItCan (releaseSale_sheds (.refl s) t).keeps⟩
  | idleExpiry t => exact execIdleExpiry_keeps s t
  | scrubEvent =>
    exact ⟨_, rfl, keeps_whenItCan ((touchItem_sheds (scrubWord_sheds (.refl s)) .settings).setScrub _).keeps⟩
  | arbiterGrant probeAck reads => exact ⟨_, rfl, keeps_whenItCan (grant_settles probeAck reads).keeps⟩
  | busNak left => exact execBusNak_keeps s left
  | pollAck => exact execPollAck_keeps s
  | pollLimitExpiry => exact execPollLimitExpiry_keeps s
  | readBackEnd got => exact execReadBackEnd_keeps s got
  | retryVoidEnd got => exact execRetryVoidEnd_keeps s got
  | journalLookupEnd got => exact execJournalLookupEnd_keeps s got
  | journalReadEnd got => exact execJournalReadEnd_keeps s got
  | supplyReset r => exact ⟨_, rfl, supplyReset_keeps s r⟩
  | startUpVoidEnd got => exact execStartUpVoidEnd_keeps s got
  | rollForwardRead got => exact execRollForwardRead_keeps s got
  | memoryLossInit reads => exact execMemoryLossInit_keeps s reads
  | tamperSwitchOpening r => exact execTamperSwitchOpening_keeps s r
  | supplyLoss left =>
    exact ⟨_, rfl, keeps_whenItCan (((cutWrite_sheds (.refl s) left).setBus none).setPowered false).keeps⟩
  | enclosureSwitchClosing => exact ⟨_, rfl, ((Sheds.refl s).setEnclosureOpen false).keeps⟩
  | writeStop left => exact execWriteStop_keeps s left

end

/-- A tick keeps both laws, and so does every command. -/
theorem step_keeps {s t : State} (next : step s = .next t) : KeepsLaws s t := by
  cases queue : s.pending with
  | nil =>
    cases (step_of_empty queue).symm.trans next
    exact tick_keeps s
  | cons c rest =>
    unfold step at next
    rw [queue] at next
    obtain ⟨u, run, kept⟩ := exec_keeps (s.setPending rest) c
    cases run.symm.trans next
    exact ⟨kept.replies, kept.line⟩

/-- Settles O7: a frame is taken only with room for its reply, and work that ends gives no reply but the one it owed. -/
theorem stepKeepsReplyRoom : Obligations.StepKeepsReplyRoom := fun _ _ fits next => (step_keeps next).replies fits

/-- Settles O8: the events of the line keep the law, and all else leaves the buffer or takes a frame from it. -/
theorem stepKeepsReceiveBuffer : Obligations.StepKeepsReceiveBuffer := fun _ _ buffer pause next =>
  (step_keeps next).line ⟨buffer, pause⟩

end Sys2Proof.Machine
end

section
/-!
SUPPORT. The bodies of requests, read as they are laid out (R190): the number at an offset of fields laid end to end,
the mask of presence bits, and with them each parser on the body its fields write.
-/
namespace Sys2Proof.Machine

/-! ### The number at an offset of fields laid end to end -/

section
variable {w n off len : Nat} (back : List Byte)

/-- The first number of a body reads as written. -/
@[simp] theorem fieldNat_natBytes (h : n < 256 ^ w) : fieldNat 0 w (natBytes w n ++ back) = n :=
  fieldNat_of [] back w n h

/-- A number that is the whole body, or the last of it, reads as written. -/
@[simp] theorem fieldNat_natBytes_last (h : n < 256 ^ w) : fieldNat 0 w (natBytes w n) = n := by
  simpa using fieldNat_natBytes [] h

/-- What stands behind a number is read in the rest of the body. -/
@[simp] theorem fieldNat_natBytes_skip (h : w ≤ off) :
    fieldNat off len (natBytes w n ++ back) = fieldNat (off - w) len back := by
  simp only [fieldNat, field_append_of_le (natBytes_length w n ▸ h), natBytes_length]

end

/-- A whole part of parts of one length laid end to end. -/
theorem field_flatMap_of_mem {α : Type} {f : α → List Byte} {k : Nat} {l : List α} (each : ∀ x ∈ l, (f x).length = k)
    {i : Nat} (hi : i < l.length) : field (k * i) k (l.flatMap f) = f l[i] := by
  have sized : ∀ x : {x // x ∈ l}, (f x).length = k := fun x => each x x.2
  have whole : field 0 k (f l[i]) = f l[i] := by
    simp [field, List.take_of_length_le (each _ (List.getElem_mem hi)).le]
  have part := field_flatMap sized (l := l.attach) (i := i) (j := 0) (len := k) (by simpa using hi) (by omega)
  have unattached : l.attach.flatMap (fun x : {x // x ∈ l} => f x) = l.flatMap f := by
    rw [List.flatMap_subtype (g := f) (fun _ _ => rfl), List.unattach_attach]
  rw [unattached, List.getElem_attach, Nat.add_zero] at part
  exact part.trans whole

/-! ### The mask of presence bits -/

theorem presenceMask_lt (l : List Bool) : presenceMask l < 2 ^ l.length := by
  induction l with
  | nil => decide
  | cons b l ih =>
    have bit := b.toNat_le
    rw [presenceMask, List.length_cons, Nat.pow_succ]
    omega

/-- Each bit of a mask says whether its field is present. -/
theorem bitAt_presenceMask (l : List Bool) (i : Nat) : bitAt (presenceMask l) i = l.getD i false := by
  unfold bitAt
  induction l generalizing i with
  | nil => simp [presenceMask]
  | cons b l ih =>
    have half : (b.toNat + 2 * presenceMask l) / 2 = presenceMask l := by have := b.toNat_le; omega
    cases i with
    | zero => cases b <;> simp [presenceMask, Nat.testBit_zero]
    | succ i => rw [presenceMask, Nat.testBit_succ, half, ih, List.getD_cons_succ]

/-- A mask of zero says that no field is present. -/
theorem presenceMask_eq_zero {l : List Bool} (zero : presenceMask l = 0) : ∀ b ∈ l, b = false := by
  intro b hb
  obtain ⟨i, hi, rfl⟩ := List.mem_iff_getElem.mp hb
  have bit := bitAt_presenceMask l i
  rw [zero, List.getD_eq_getElem _ _ hi] at bit
  simpa [bitAt] using bit.symm

/-- A field with its presence bit reads as the field. -/
theorem ifBit_getD {α : Type} {mask bit : Nat} {o : Option α} (present : bitAt mask bit = o.isSome) (absent : α) :
    ifBit mask bit (o.getD absent) = o := by
  unfold ifBit
  rw [present]
  cases o <;> rfl

/-- A yes/no byte's number reads as the value. -/
theorem toNat_beq_one (b : Bool) : (b.toNat == 1) = b := by cases b <;> rfl

/-- A bound on a field that may be absent bounds what is written for it. -/
theorem getD_zero_le {o : Option Nat} {n : Nat} (bound : ∀ x, o = some x → x ≤ n) : o.getD 0 ≤ n := by
  cases o with
  | none => exact Nat.zero_le n
  | some x => exact bound x rfl

theorem presentOk_of_forall {o : Option Nat} {lo hi : Nat} (range : ∀ n, o = some n → lo ≤ n ∧ n ≤ hi) :
    presentOk o lo hi = true := by
  cases o with
  | none => rfl
  | some n => simpa [presentOk] using range n rfl

/-! ### Bodies of few fields -/

theorem parseQuote_body {m code t : Nat} {mode : SaleMode} (coded : modeOf code = some mode) (small : code ≤ 1)
    (meter : m ≤ 99999999999) (least : 1 ≤ t) (most : t ≤ 5000000) :
    parseQuote (natBytes 5 m ++ natBytes 1 code ++ natBytes 4 t) =
      some { meter := m, mode := mode, tendered := t } := by
  simp (disch := omega) [parseQuote, byteAt_eq_fieldNat, coded, meterOk, meter, least, most]

theorem parseMeter_body {m : Nat} (meter : m ≤ 99999999999) : parseMeter (natBytes 5 m) = some m := by
  unfold parseMeter
  rw [fieldNat_natBytes_last (by omega)]
  simp [meterOk, meter]

theorem parseAccountRead_meter {m : Nat} (meter : m ≤ 99999999999) :
    parseAccountRead (natBytes 1 0 ++ natBytes 5 m) = some (.meter m) := by
  simp (disch := omega) [parseAccountRead, byteAt_eq_fieldNat, meterOk, meter]

theorem parseAccountRead_slot {n : Nat} (slot : n ≤ 16383) :
    parseAccountRead (natBytes 1 1 ++ natBytes 5 n) = some (.slot n) := by
  simp (disch := omega) [parseAccountRead, byteAt_eq_fieldNat, slot]

theorem parseReading_body {r : Nat} (range : r ≤ lastReading) : parseReading (natBytes 4 r) = some r := by
  have wide : r < 256 ^ 4 := range.trans_lt (by decide)
  unfold parseReading
  rw [fieldNat_natBytes_last wide, if_pos range]

theorem parseOperator_body {op : Nat} (range : op ≤ 9999) : parseOperator (natBytes 2 op) = some op := by
  unfold parseOperator
  rw [fieldNat_natBytes_last (by omega), if_pos range]

theorem parseCreate_body {m a g c d r x : Nat} (flag : Bool) (meter : m ≤ 99999999999) (area : a ≤ 63) (gen : g ≤ 15)
    (tariffClass : c ≤ 7) (debt : d ≤ 99999999) (rate : r ≤ 5000) (least : 1 ≤ x) (most : x ≤ 999999) :
    parseCreate (natBytes 5 m ++ natBytes 1 a ++ natBytes 1 g ++ natBytes 1 c ++ natBytes 1 flag.toNat
      ++ natBytes 4 d ++ natBytes 2 r ++ natBytes 4 x) =
      some { meter := m, area := a, gen := g, tariffClass := c, allowanceFlag := flag, debt := d, rate := r,
             maxPerSale := x } := by
  have bit := flag.toNat_le
  simp (disch := omega) [parseCreate, byteAt_eq_fieldNat, yesNoOk, yesNoAt, meterOk, meter, area, gen, tariffClass,
    bit, debt, rate, least, most]

theorem parseReplace_body {m n a g : Nat} (meter : m ≤ 99999999999) (newMeter : n ≤ 99999999999) (area : a ≤ 63)
    (gen : g ≤ 15) :
    parseReplace (natBytes 5 m ++ natBytes 5 n ++ natBytes 1 a ++ natBytes 1 g) =
      some { meter := m, newMeter := n, area := a, gen := g } := by
  simp (disch := omega) [parseReplace, byteAt_eq_fieldNat, meterOk, meter, newMeter, area, gen]

theorem parseGrant_body {n amount : Nat} (serial : BitVec 32) (code : BitVec 64) (number : n ≤ 4294967295)
    (least : 1 ≤ amount) (most : amount ≤ 100000000) :
    parseGrant (natBytes 4 n ++ natBytes 4 serial.toNat ++ natBytes 4 amount ++ natBytes 8 code.toNat) =
      some { number := n, serial := serial, amount := amount, authority := code } := by
  simp (disch := omega) [parseGrant, least, most]

theorem parseKeyLoad_body {a g : Nat} (block : Key128) (check : BitVec 32) (area : a ≤ 63) (gen : g ≤ 15) :
    parseKeyLoad (natBytes 1 a ++ natBytes 1 g ++ natBytes 16 block.toNat ++ natBytes 4 check.toNat) =
      some { area := a, gen := g, keyBlock := block, checkValue := check } := by
  simp (disch := omega) [parseKeyLoad, byteAt_eq_fieldNat, area, gen]

theorem parseKeyRetire_body {a g : Nat} (area : a ≤ 63) (gen : g ≤ 15) :
    parseKeyRetire (natBytes 1 a ++ natBytes 1 g) = some (a, g) := by
  simp (disch := omega) [parseKeyRetire, byteAt_eq_fieldNat, area, gen]

theorem parseTarget_body (t : Fin 8) : parseTarget (natBytes 1 t.val) = some t := by revert t; decide

theorem parseSelector_body (pending : Bool) : parseSelector (natBytes 1 pending.toNat) = some pending := by
  cases pending <;> decide

theorem parseTerminalSet_body (t : Fin 8) (r : Role) :
    parseTerminalSet (natBytes 1 t.val ++ natBytes 1 r.code) = some (t, r) := by
  revert t
  cases r <;> decide

theorem parseJournalRead_body {n c : Nat} (seq : n ≤ 4294967295) (count : c ≤ 255) :
    parseJournalRead (natBytes 4 n ++ natBytes 1 c) = some (n, c) := by
  simp (disch := omega) [parseJournalRead, byteAt_eq_fieldNat]

theorem parseRelease_body {n : Nat} (seq : n ≤ 4294967295) : parseRelease (natBytes 4 n) = some n := by
  unfold parseRelease
  rw [fieldNat_natBytes_last (by omega)]

/-! ### ACCOUNT_EDIT (R17) -/

/-- Which fields of an edit are present, in the order of the mask's bits (R190). -/
def AccountEdit.presence (e : AccountEdit) : List Bool :=
  [e.tariffClass.isSome, e.allowanceFlag.isSome, e.debt.isSome, e.rate.isSome, e.maxPerSale.isSome, e.state.isSome]

theorem editBody_eq (m : Nat) (e : AccountEdit) :
    editBody m e = natBytes 5 m ++ natBytes 1 (presenceMask e.presence) ++ natBytes 1 (e.tariffClass.getD 0)
      ++ natBytes 1 (e.allowanceFlag.getD false).toNat ++ natBytes 4 (e.debt.getD 0) ++ natBytes 2 (e.rate.getD 0)
      ++ natBytes 4 (e.maxPerSale.getD 0) ++ natBytes 1 (e.state.getD .free).code := rfl

/-- An edit with a field present has a mask above zero. -/
theorem presenceMask_edit_ne_zero {e : AccountEdit}
    (some_present : e ≠ { tariffClass := none, allowanceFlag := none, debt := none, rate := none, maxPerSale := none,
                          state := none }) :
    presenceMask e.presence ≠ 0 := by
  intro zero
  apply some_present
  have absent := presenceMask_eq_zero zero
  obtain ⟨tariffClass, allowanceFlag, debt, rate, maxPerSale, state⟩ := e
  simpa [AccountEdit.presence] using absent

/-- The state field with its presence bit reads as the state. -/
theorem ifBit_state {mask bit : Nat} {o : Option AcctState} (present : bitAt mask bit = o.isSome) :
    (ifBit mask bit (acctStateOf (o.getD .free).code)).bind id = o := by
  unfold ifBit
  rw [acctStateOf_code, present]
  cases o <;> rfl

/-- A state that is absent or not FREE is one an edit may name. -/
theorem editState_named {o : Option AcctState} (named : o ≠ some .free) :
    (!o.isSome || o == some .active || o == some .blocked) = true := by
  match o with
  | none | some .active | some .blocked => rfl
  | some .free => exact absurd rfl named

theorem parseEdit_editBody {m : Nat} {e : AccountEdit} (meter : m ≤ 99999999999) (range : e.inRange) :
    parseEdit (editBody m e) = some (m, e) := by
  obtain ⟨tariffClass, debt, rate, maxPerSale, state, some_present⟩ := range
  have nonzero := presenceMask_edit_ne_zero some_present
  have few := presenceMask_lt e.presence
  have bits := bitAt_presenceMask e.presence
  have stateBit : bitAt (presenceMask e.presence) 5 = e.state.isSome := bits 5
  rw [editBody_eq]
  generalize presenceMask e.presence = mask at *
  have classWide := getD_zero_le tariffClass
  have debtWide := getD_zero_le debt
  have rateWide := getD_zero_le rate
  have mostWide := getD_zero_le fun n h => (maxPerSale n h).2
  have flagWide := (e.allowanceFlag.getD false).toNat_le
  have stateWide : (e.state.getD .free).code < 256 := by cases e.state.getD .free <;> decide
  have classOk := presentOk_of_forall (lo := 0) fun n h => ⟨n.zero_le, tariffClass n h⟩
  have debtOk := presentOk_of_forall (lo := 0) fun n h => ⟨n.zero_le, debt n h⟩
  have rateOk := presentOk_of_forall (lo := 0) fun n h => ⟨n.zero_le, rate n h⟩
  have saleOk := presentOk_of_forall maxPerSale
  have maskFew : mask ≤ 63 := Nat.le_of_lt_succ few
  unfold parseEdit
  simp (disch := omega) only [byteAt_eq_fieldNat, List.append_assoc, fieldNat_natBytes, yesNoAt, yesNoOk,
    fieldNat_natBytes_skip, fieldNat_natBytes_last, Nat.reduceSub, toNat_beq_one, ifBit_getD (bits 0),
    ifBit_getD (bits 1), ifBit_getD (bits 2), ifBit_getD (bits 3), ifBit_getD (bits 4), ifBit_state stateBit, stateBit,
    editState_named state]
  simp [meterOk, meter, nonzero, maskFew, classOk, debtOk, rateOk, saleOk, flagWide]

/-! ### ACCOUNT_LOAD (R152) -/

/-- The numbers of an absent last sale part, read as one field of ten bytes, are zero. -/
theorem fieldNat_zeros (back : List Byte) :
    fieldNat 0 10 (natBytes 4 0 ++ (natBytes 4 0 ++ (natBytes 2 0 ++ back))) = 0 := by
  simp [natBytes, fieldNat, field, beNat]

theorem imageAccount_lastApplied (i : List Byte) : (imageAccount i).lastApplied = fieldNat 49 4 i := rfl

/-- What an image writes of an absent part is zero, so the zero checks of R152 turn on its last applied alone. -/
theorem imageAbsentZero_accountImage {a : Account} (range : a.inRange) :
    imageAbsentZero (accountImage a) = (a.lastApplied == 0) := by
  have lastApplied : fieldNat 49 4 (accountImage a) = a.lastApplied :=
    (imageAccount_lastApplied _).symm.trans (congrArg Account.lastApplied (imageAccount_accountImage range))
  obtain ⟨-, -, -, -, flags, reissues⟩ := accountImage_bytes range
  obtain ⟨-, -, hasSale, reversed, keyChange, hasRevoke⟩ := imageFlags_bits a
  have saleZero : (a.lastSale.isSome || (fieldNat 37 10 (accountImage a) == 0 && !a.lastSale.any (·.reversed) &&
      !a.lastSale.any (·.keyChange) && lastField a (·.reissues) == 0)) = true := by
    cases sale : a.lastSale with
    | some l => rfl
    | none =>
      unfold accountImage
      simp [lastField, sale, fieldNat_zeros]
  have revokeZero : (a.revokePending.isSome || fieldNat 47 2 (accountImage a) == 0) = true := by
    cases revoke : a.revokePending with
    | some r => rfl
    | none =>
      unfold accountImage
      simp [revoke]
  unfold imageAbsentZero
  simp only [lastApplied, flags, reissues, hasSale, reversed, keyChange, hasRevoke, saleZero, revokeZero, Bool.and_true]

theorem parseLoad_body {n : Nat} {a : Account} (slot : n ≤ 16383) (range : a.inRange) :
    parseLoad (natBytes 2 n ++ accountImage a) = some { slot := n, image := a, zeros := a.lastApplied == 0 } := by
  have image : field 2 53 (natBytes 2 n ++ accountImage a) = accountImage a := by
    rw [field_append_of_le (by simp), natBytes_length, Nat.sub_self]
    simp [field, List.take_of_length_le (accountImage_length a).le]
  unfold parseLoad
  rw [image, fieldNat_natBytes _ (by omega)]
  simp [slot, imageOk_accountImage range, imageAccount_accountImage range, imageAbsentZero_accountImage range]

/-! ### TARIFF_LOAD (R26) -/

/-- A pair of bound and price, as a TARIFF_LOAD carries it (R190). -/
def pairBytes (b : TariffBlock) : List Byte := natBytes 4 b.bound ++ natBytes 4 b.price

/-- A class as a TARIFF_LOAD carries it (R190). -/
def rawClassBytes (c : RawClass) : List Byte :=
  natBytes 4 c.allowance ++ natBytes 1 c.count ++ c.pairs.flatMap pairBytes

theorem tariffLoadBody_eq (r : TariffLoadReq) :
    tariffLoadBody r = natBytes 2 r.tax ++ natBytes 4 r.minSale ++ natBytes 4 r.effective
      ++ r.classes.toList.flatMap rawClassBytes := rfl

theorem pairBytes_length (b : TariffBlock) : (pairBytes b).length = 8 := by simp [pairBytes]

theorem rawClassBytes_length {c : RawClass} (four : c.pairs.length = 4) : (rawClassBytes c).length = 37 := by
  simp [rawClassBytes, length_flatMap_of_const pairBytes_length, four]

theorem parsePair_rawClassBytes {c : RawClass} {i : Nat} (hi : i < c.pairs.length)
    (fits : c.pairs[i].bound < 4294967296 ∧ c.pairs[i].price < 4294967296) :
    parsePair i (rawClassBytes c) = c.pairs[i] := by
  obtain ⟨bound, price⟩ := fits
  have first : fieldNat (5 + 8 * i) 4 (rawClassBytes c) = fieldNat 0 4 (pairBytes c.pairs[i]) := by
    unfold rawClassBytes fieldNat
    rw [field_append_of_le (by simp), ← field_flatMap pairBytes_length hi (by decide)]
    simp
  have second : fieldNat (9 + 8 * i) 4 (rawClassBytes c) = fieldNat 4 4 (pairBytes c.pairs[i]) := by
    unfold rawClassBytes fieldNat
    rw [field_append_of_le (by simp; omega), ← field_flatMap pairBytes_length hi (by decide)]
    congr 2
    simp; omega
  unfold parsePair
  simp (disch := omega) [first, second, pairBytes]

/-- A class that stands in a body as its bytes reads as that class. -/
theorem parseClass_of_field {b : List Byte} {k : Nat} {c : RawClass}
    (stands : field (10 + 37 * k) 37 b = rawClassBytes c) (allowance : c.allowance < 4294967296) (count : c.count < 256)
    (four : c.pairs.length = 4) (pairs : ∀ p ∈ c.pairs, p.bound < 4294967296 ∧ p.price < 4294967296) :
    parseClass k b = c := by
  have pair {i : Nat} (hi : i < c.pairs.length) := parsePair_rawClassBytes hi (pairs _ (List.getElem_mem hi))
  have all : [parsePair 0 (rawClassBytes c), parsePair 1 (rawClassBytes c), parsePair 2 (rawClassBytes c),
      parsePair 3 (rawClassBytes c)] = c.pairs := by
    simp (disch := omega) only [pair]
    obtain ⟨p, q, u, v, listed⟩ := List.length_eq_four.mp four
    simp [listed]
  unfold parseClass
  rw [stands]
  dsimp only
  rw [all]
  unfold rawClassBytes
  simp (disch := omega) [byteAt_eq_fieldNat]

theorem parseClass_tariffLoadBody {r : TariffLoadReq} (fits : r.fits) {k : Nat} (hk : k < r.classes.toList.length) :
    parseClass k (tariffLoadBody r) = r.classes.toList[k] := by
  obtain ⟨-, -, -, classes⟩ := fits
  have sized : ∀ c ∈ r.classes.toList, (rawClassBytes c).length = 37 := by
    intro c hc
    obtain ⟨-, -, four, -⟩ := classes c hc
    exact rawClassBytes_length four
  have stands : field (10 + 37 * k) 37 (tariffLoadBody r) = rawClassBytes r.classes.toList[k] := by
    rw [tariffLoadBody_eq, field_append_of_le (by simp), ← field_flatMap_of_mem sized hk]
    simp
  obtain ⟨allowance, count, four, pairs⟩ := classes _ (List.getElem_mem hk)
  exact parseClass_of_field stands allowance count four pairs

theorem parseTariffLoad_body {r : TariffLoadReq} (fits : r.fits) : parseTariffLoad (tariffLoadBody r) = some r := by
  have each {k : Nat} (hk : k < 8) := parseClass_tariffLoadBody fits hk
  obtain ⟨tax, minSale, effective, -⟩ := fits
  unfold parseTariffLoad
  simp (disch := omega) only [each]
  simp (disch := omega) [tariffLoadBody_eq, Eight.toList]

/-! ### SETTINGS_SET (R178) -/

/-- The settings of a change in the order of the mask's bits (R190). -/
def SettingsChange.values (c : SettingsChange) : List (Option Nat) :=
  [c.holdTime, c.idleLimit, c.reversalWindow, c.reissueLimit, c.scrubInterval, c.reserveLow, c.journalNearFull]

theorem settingsBody_eq (c : SettingsChange) :
    settingsBody c = natBytes 1 (presenceMask (c.values.map Option.isSome))
      ++ c.values.flatMap (fun x => natBytes 4 (x.getD 0)) := rfl

theorem parseSettings_body {c : SettingsChange} (fits : c.fits) : parseSettings (settingsBody c) = some c := by
  have few := presenceMask_lt (c.values.map Option.isSome)
  have bits := bitAt_presenceMask (c.values.map Option.isSome)
  have wide : ∀ x ∈ c.values, x.getD 0 ≤ 4294967295 :=
    fun x hx => getD_zero_le fun n present => Nat.le_of_lt_succ (fits x hx n present)
  simp only [SettingsChange.values, List.forall_mem_cons] at wide
  obtain ⟨hold, idle, reversal, reissue, scrub, low, full, -⟩ := wide
  rw [settingsBody_eq]
  generalize presenceMask _ = mask at *
  have maskFew : mask ≤ 127 := Nat.le_of_lt_succ few
  unfold parseSettings
  simp (disch := omega) only [SettingsChange.values, List.flatMap_cons, byteAt_eq_fieldNat, fieldNat_natBytes,
    fieldNat_natBytes_skip, Nat.reduceSub, ifBit_getD (bits 0), ifBit_getD (bits 1), ifBit_getD (bits 2),
    ifBit_getD (bits 3), ifBit_getD (bits 4), ifBit_getD (bits 5), ifBit_getD (bits 6), maskFew, if_true]

/-- Settles O20: each parser takes the fields of its body where R190 lays them. -/
theorem requestBodiesReadAsLaidOut : Obligations.RequestBodiesReadAsLaidOut :=
  ⟨fun _ _ meter least most => ⟨parseQuote_body rfl (by decide) meter least most,
      parseQuote_body rfl (by decide) meter least most⟩,
    fun _ meter => ⟨parseMeter_body meter, parseAccountRead_meter meter⟩,
    fun _ => parseAccountRead_slot,
    fun _ => parseReading_body,
    fun _ => parseOperator_body,
    fun _ _ _ _ _ _ _ meter area gen tariffClass debt rate least most flag =>
      parseCreate_body flag meter area gen tariffClass debt rate least most,
    fun _ _ _ _ => parseReplace_body,
    fun _ _ serial code => parseGrant_body serial code,
    fun _ _ block check => parseKeyLoad_body block check,
    parseTarget_body,
    parseSelector_body,
    parseTerminalSet_body,
    fun _ _ => parseKeyRetire_body,
    fun _ _ => parseEdit_editBody,
    fun _ _ => parseLoad_body,
    fun _ => parseTariffLoad_body,
    fun _ => parseSettings_body,
    fun _ _ seq count => ⟨parseJournalRead_body seq count, parseRelease_body seq⟩⟩

end Sys2Proof.Machine
end

section
/-!
SUPPORT. The step of a queue with a command at its front.
-/
namespace Sys2Proof.Machine

theorem step_of_front {s : State} {c : Instr} {rest : List Instr} (front : s.pending = c :: rest) :
    step s = exec c (s.setPending rest) := by
  unfold step
  rw [front]

/-- Settles O1: `setPending` writes the queue of waiting commands and no other item of the state. -/
theorem stepRunsFrontCommand : Obligations.StepRunsFrontCommand := by
  intro s c rest front
  calc
    step s = exec c (s.setPending rest) := step_of_front front
    _ = exec c { s with pending := rest } := congrArg (exec c) rfl

end Sys2Proof.Machine
end
